-- ==== Sys2Proof/Word.lean ====
section
/-! DEFINITION. The word types of the module's registers, records and descriptors (R9). -/

namespace Sys2Proof

/-- One byte of memory. -/
abbrev Byte := BitVec 8
/-- A 32-bit register or record word. -/
abbrev W32 := BitVec 32
/-- A 64-bit register or record word. -/
abbrev W64 := BitVec 64
/-- A 512-bit record: a tile-op descriptor, a card or graph header (R151, R295, R324). -/
abbrev W512 := BitVec 512

end Sys2Proof
end

