-- ==== Sys2Proof/Syntax.lean ====
section
/-! DEFINITION. The commands the block takes: one constructor per row of spec/opcode_table.json, in the
table's order. A tile-op command names the tile whose active card issues its next descriptor; an event
command names the unit at which the event happens; an operand the spec leaves to the world outside
(a measured reading, the data of a peer, which physical part failed) is an operand of the command.
Tiles are logical numbers, sites are row * 18 + column, records are numbers with bit 0 least significant. -/

namespace Sys2Proof

/-- One command. -/
inductive Instr where
  /-- R188. Tile-op with no effect that retires in program order with its TAG. -/
  | nop (die tile : Nat)
  /-- R186. Tile-op that retires once every earlier tile-op of its card has retired. -/
  | syncLocal (die tile : Nat)
  /-- R186. Barrier tile-op that waits for every tile of a sync group and sends its arrival in pick 0. -/
  | syncGroup (die tile : Nat)
  /-- R187. Tile-op that retires once every earlier weft access of the tile has completed. -/
  | fenceLocal (die tile : Nat)
  /-- R185. CARD tile-op that requests a DRAIN switch to another card slot. -/
  | cardDrain (die tile : Nat)
  /-- R185. CARD tile-op that requests a CUT switch to another card slot. -/
  | cardCut (die tile : Nat)
  /-- R184. Takes one token from a queue and writes a predicate register from it. -/
  | selectSetpQ (die tile : Nat)
  /-- R184. Reads a byte of tile memory and writes a predicate register from it. -/
  | selectSetpM (die tile : Nat)
  /-- R651. Takes a token from each of two queues and forwards one, restamped, on a send channel. -/
  | selectChooseQ (die tile : Nat)
  /-- R184. Copies bytes from one of two tile-memory locations chosen by a predicate register. -/
  | selectChooseM (die tile : Nat)
  /-- R166. Accumulates A times B (K by N) into an accumulator set. -/
  | mma (die tile : Nat)
  /-- R166. Accumulates A times the transpose of B (N by K) into an accumulator set. -/
  | mmaT (die tile : Nat)
  /-- R169. Loads a set, or an anchored block, into an accumulator set in REPLACE form. -/
  | accLoadReplace (die tile : Nat)
  /-- R145. Adds an anchored block into an ANCHORED set with anc_add. -/
  | accLoadAdd (die tile : Nat)
  /-- R170. Writes an accumulator set to tile memory or a global address. -/
  | accStore (die tile : Nat)
  /-- R133. Clears the named anchored sets and gives them an anchor, switching the array to ANCHORED if needed. -/
  | ancInit (die tile : Nat)
  /-- R172. Writes one scan entry for a whole tensor or set. -/
  | ancScanAll (die tile : Nat)
  /-- R172. Writes one scan entry per row of a tensor or set. -/
  | ancScanRows (die tile : Nat)
  /-- R173. Converts an ANCHORED set to FP32 or BF16 in tile memory. -/
  | ancFold (die tile : Nat)
  /-- R175. Element-wise A plus B. -/
  | vecEwAdd (die tile : Nat)
  /-- R175. Element-wise A minus B. -/
  | vecEwSub (die tile : Nat)
  /-- R175. Element-wise A times B. -/
  | vecEwMul (die tile : Nat)
  /-- R175. Element-wise A times B plus D. -/
  | vecEwFma (die tile : Nat)
  /-- R175. Element-wise A divided by B. -/
  | vecEwDiv (die tile : Nat)
  /-- R175. Element-wise square root of A. -/
  | vecEwSqrt (die tile : Nat)
  /-- R175. Element-wise minimum of A and B. -/
  | vecEwMin (die tile : Nat)
  /-- R175. Element-wise maximum of A and B. -/
  | vecEwMax (die tile : Nat)
  /-- R175. Element-wise absolute value of A. -/
  | vecEwAbs (die tile : Nat)
  /-- R175. Element-wise negation of A. -/
  | vecEwNeg (die tile : Nat)
  /-- R175. Element-wise compare A equal to B, writing 1 or 0. -/
  | vecEwCmpEq (die tile : Nat)
  /-- R175. Element-wise compare A less than B. -/
  | vecEwCmpLt (die tile : Nat)
  /-- R175. Element-wise compare A less than or equal to B. -/
  | vecEwCmpLe (die tile : Nat)
  /-- R175. Element-wise test whether A or B is NaN. -/
  | vecEwCmpUnord (die tile : Nat)
  /-- R176. Element-wise maximum(x, +0). -/
  | vecActRelu (die tile : Nat)
  /-- R176. Element-wise e to the x. -/
  | vecActExp (die tile : Nat)
  /-- R176. Element-wise 2 to the x. -/
  | vecActExp2 (die tile : Nat)
  /-- R176. Element-wise natural logarithm. -/
  | vecActLog (die tile : Nat)
  /-- R176. Element-wise base-2 logarithm. -/
  | vecActLog2 (die tile : Nat)
  /-- R176. Element-wise reciprocal. -/
  | vecActRecip (die tile : Nat)
  /-- R176. Element-wise reciprocal square root. -/
  | vecActRsqrt (die tile : Nat)
  /-- R176. Element-wise hyperbolic tangent. -/
  | vecActTanh (die tile : Nat)
  /-- R176. Element-wise logistic sigmoid. -/
  | vecActSigmoid (die tile : Nat)
  /-- R176. Element-wise x times sigmoid(x). -/
  | vecActSilu (die tile : Nat)
  /-- R176. Element-wise tanh-form GELU. -/
  | vecActGeluTanh (die tile : Nat)
  /-- R176. Element-wise error function. -/
  | vecActErf (die tile : Nat)
  /-- R176. Element-wise ln(1 + e to the x). -/
  | vecActSoftplus (die tile : Nat)
  /-- R176. Element-wise sine. -/
  | vecActSin (die tile : Nat)
  /-- R176. Element-wise cosine. -/
  | vecActCos (die tile : Nat)
  /-- R177. Reduces each row to its sum, by tree or in order as the context requires. -/
  | vecRedSum (die tile : Nat)
  /-- R177. Reduces each row to its maximum. -/
  | vecRedMax (die tile : Nat)
  /-- R177. Reduces each row to its minimum. -/
  | vecRedMin (die tile : Nat)
  /-- R177. Reduces each row to its greatest magnitude. -/
  | vecRedAmax (die tile : Nat)
  /-- R178. Converts elements between formats, choosing BS4 block scales where needed. -/
  | cast (die tile : Nat)
  /-- R179. Writes the transpose of a matrix as bits. -/
  | xpose (die tile : Nat)
  /-- R180. Copies indexed table rows into destination rows after checking every index. -/
  | gather (die tile : Nat)
  /-- R180. Copies source rows to indexed rows of a table after checking every index. -/
  | scatter (die tile : Nat)
  /-- R276. Enqueues a descriptor that points at data on a send channel. -/
  | sendRef (die tile : Nat)
  /-- R276. Enqueues a descriptor that carries up to 8 bytes inline. -/
  | sendInline (die tile : Nat)
  /-- R276. Enqueues a void token on a send channel. -/
  | sendVoid (die tile : Nat)
  /-- R276. Enqueues a predicate token on a send channel. -/
  | sendPred (die tile : Nat)
  /-- R183. Removes one token from a queue and writes its descriptor, returning a credit. -/
  | recv (die tile : Nat)
  /-- R77. An engine finishes executing a tile-op and frees its place. -/
  | tileopEngineDone (die tile engine : Nat)
  /-- R70. The check unit completes the 81 checksum comparisons of an accumulating tile-op. -/
  | checkCompare (die tile : Nat) (faults : List Nat)
  /-- R475. A re-execution from the rollback store completes and its result is kept or failed. -/
  | reexecDone (die tile : Nat) (faults : List Nat)
  /-- R477. A replay tile receives a selected tile-op and its operands, executes it and returns a digest. -/
  | replayExecute (die tile flip : Nat)
  /-- R477. The replay digest returns and is compared with the original tile's digest. -/
  | replayDigest (die tile reexec : Nat)
  /-- R77. A tile-op retires in program order and writes its completion record. -/
  | tileopRetire (die tile cycle : Nat) (stalls : List (Nat × Nat))
  /-- R85. PROG_OPS.BEAT is incremented after 4,096 island cycles of unstalled execution. -/
  | beatTick (die tile slot : Nat)
  /-- R86. Context 0 writes FSTEP or VSTEP, and voltage steps start ramping. -/
  | tileIslandWrite (die tile value : Nat)
  /-- R88. A frequency step is made at a tile-op boundary with the island clock switched. -/
  | freqStepApply (die tile : Nat)
  /-- R203. A write to TILE_BANK_OWNER changes a bank's owner and starts its zeroing. -/
  | bankOwnerWrite (die tile off : Nat) (bytes : List Nat)
  /-- R203. Zeroing of a bank given to a new owner completes. -/
  | bankZeroDone (die tile bank : Nat)
  /-- R214. Background scrub reads and corrects a word of SRAM or HBM. -/
  | scrubRead (addr err store : Nat)
  /-- R221. A write to a window entry updates its staging copy and applies it when byte 15 is written. -/
  | ctxWindowWrite (ctx entry off : Nat) (bytes : List Nat)
  /-- R235. A weft READ request reaches its target and is served or refused. -/
  | weftRead (id : Nat)
  /-- R235. A weft WRITE request reaches its target and is performed or refused. -/
  | weftWrite (id : Nat)
  /-- R235. A weft masked write reaches its target and is performed or refused. -/
  | weftWriteMasked (id : Nat)
  /-- R217. An atomic read-modify-write reaches a scratchpad bank or HBM port and is performed. -/
  | weftAtomic (ctx fn addr size op a b : Nat)
  /-- R235. A read response reaches its requester. -/
  | weftRdData (id : Nat)
  /-- R235. A write acknowledgement reaches its requester. -/
  | weftWrAck (id : Nat)
  /-- R235. An ERROR response with its status reaches its requester. -/
  | weftError (id : Nat)
  /-- R237. A CTRL-class command packet reaches a unit and is acted on. -/
  | weftCtrlCmd (die tile cmd ctx arg : Nat)
  /-- R236. A weft link flit fails CRC and is retried; 8 failures declare the link down. -/
  | weftLinkCrcError (die site dir retries : Nat)
  /-- R246. A weft access without response completes after WEFT_TIMEOUT_US with poison. -/
  | weftTimeout (id : Nat)
  /-- R245. A new routing table set is written into the idle banks and made active by broadcast. -/
  | tableWriteDone (die : Nat) (entries : List (Nat × Nat × Nat))
  /-- R245. No packet of the old routing bank remains and the unit leaves service. -/
  | tableOldBankFree (die : Nat)
  /-- R242. The 1 ms forwarding from a re-placed tile's old site ends. -/
  | translationForwardEnd (die site : Nat)
  /-- R253. A memory streamer issues BULK reads while its buffer has room. -/
  | streamerFetch (die streamer : Nat)
  /-- R253. A streamer admits a line at its circuit's reserved pick, or counts an underrun. -/
  | streamerAdmit (die streamer pick : Nat)
  /-- R264. A write moves data picks to other contexts where no loaded card claims them. -/
  | warpPickOwnerWrite (die value : Nat)
  /-- R277. The source router admits the head of a transmit buffer in the next reserved pick. -/
  | warpAdmit (die tile slot chan pick : Nat)
  /-- R281. A descriptor reaches a queue and is placed in the queue or ring, or discarded. -/
  | queueArrival (die tile queue bad : Nat)
  /-- R282. The queue unit moves descriptors from the spill ring into the queue. -/
  | ringRefill (die tile queue : Nat)
  /-- R284. A stream line reaches a stream port's landing buffer. -/
  | streamLineArrival (die tile port bad : Nat)
  /-- R271. A credit or notice entry reaches a circuit's source and updates its credits or PEER. -/
  | creditReturn (die idx : Nat)
  /-- R287. A SEND blocked beyond the send-wait window raises QUEUE_STALL. -/
  | sendWaitExpire (die tile : Nat)
  /-- R288. A wait on an empty queue with another queue full beyond the window raises JOIN_STALL. -/
  | joinStall (die tile qe qf : Nat)
  /-- R373. A unit receives the SELVEDGE command and fences the context; the last acknowledgement moves it to DRAINING. -/
  | selvedge (ctx : Nat)
  /-- R309. The switch unit counts an arrival and commits at the last one. -/
  | cardSwitchArrive (die tile ctx : Nat)
  /-- R309. A router or source receives the commit naming frame F. -/
  | cardSwitchCommit (die ctx group : Nat)
  /-- R315. The switch unit discards a context's arrivals on cancel. -/
  | cardSwitchCancel (die ctx : Nat)
  /-- R186. A sync group member's arrival reaches the barrier in pick 0. -/
  | syncArrive (die tile : Nat)
  /-- R186. A sync release reaches a member, which retires its SYNC GROUP. -/
  | syncRelease (die tile : Nat)
  /-- R291. A channel is paused for a re-placement and PEER reads PAUSED. -/
  | chanPause (die tile : Nat)
  /-- R291. A paused channel resumes after its routes are rebuilt. -/
  | chanResume (die tile : Nat)
  /-- R300. The loader finishes reading and checking an image and the slot becomes LOADED or EMPTY. -/
  | cardLoadDone (die tile slot : Nat)
  /-- R307. An old card becomes ready to switch and completes a local switch or sends ARRIVE. -/
  | cardSwitchReady (die tile slot : Nat)
  /-- R309. At frame F minus 64 the context's sources stop admitting. -/
  | switchQuietStart (die ctx group : Nat)
  /-- R311. At frame F the target cards become current and queues, channels, ports and predicates change. -/
  | switchTakeEffect (die ctx group : Nat)
  /-- R312. The 64-frame grace for previous-epoch credits ends. -/
  | creditGraceEnd (die ctx : Nat)
  /-- R332. A doorbell write submits a graph or is refused. -/
  | seqDoorbell (ctx value via : Nat)
  /-- R334. The checks of a graph's header and tables complete and the state area is zeroed. -/
  | graphChecked (ctx : Nat)
  /-- R335. The sequencer reads and checks a node entry and its card list while quota allows. -/
  | nodeRead (ctx die : Nat)
  /-- R337. A write releases a HOST_WAIT node or is ignored. -/
  | seqRelease (ctx value : Nat)
  /-- R337. A completion on one die reaches the other die's sequencer. -/
  | nodeDoneNotice (ctx node die : Nat)
  /-- R338. A ready node is launched as the in-flight quota allows. -/
  | nodeLaunch (ctx die : Nat)
  /-- R340. The sequencer starts a section switch once its conditions hold. -/
  | sectionSwitchStart (ctx die : Nat)
  /-- R453. The fabric time counter reaches a gate's launch value and the gate opens. -/
  | gateOpen (ctx die gate : Nat)
  /-- R341. A CARDS node's writes are acknowledged after its cards finish, and the node completes. -/
  | nodeDrainDone (ctx node : Nat)
  /-- R342. A graph is finished and the closing switches are started. -/
  | graphFinish (ctx : Nat)
  /-- R342. After the closing switches, the GRAPH_DONE entry and ledger record are posted and the next graph starts. -/
  | graphDone (ctx : Nat)
  /-- R347. A waiting completion entry is written once the completion queue has room. -/
  | cqEntryWrite (ctx : Nat)
  /-- R345. A write of CQ_CFG enables or disables the completion queue. -/
  | cqCfgWrite (ctx value : Nat)
  /-- R345. A write of EQ_CFG enables or disables the event queue. -/
  | eqCfgWrite (ctx value : Nat)
  /-- R462. A write of LEDGER_CFG enables or disables the step ledger. -/
  | ledgerCfgWrite (ctx value : Nat)
  /-- R452. A write of the launch base restarts gate numbering. -/
  | ftcLaunchAtWrite (ctx value : Nat)
  /-- R510. SLICE_PERIOD_S passes since a site's last slice and the site becomes due. -/
  | sliceDue (die site : Nat)
  /-- R353. The sequencer grants a due site at an idle or boundary moment and its slice starts. -/
  | sliceGrant (die site : Nat)
  /-- R355. A site due for SEQ_RELIEF_AFTER_S is relieved onto a relief site. -/
  | sliceRelief (die site : Nat)
  /-- R514. A test slice ends and its result is recorded and scored. -/
  | sliceEnd (die site result durationUs : Nat) (fails : List Nat)
  /-- R513. A passed site is re-initialised and its selvedge lifted. -/
  | sliceReinitDone (die site : Nat)
  /-- R515. A site goes 60 s without a slice and is marked overdue. -/
  | sliceOverdue (die site : Nat)
  /-- R368. ACTIVATE command makes an INACTIVE context ACTIVE or is refused. -/
  | ctxActivate (ctx : Nat)
  /-- R367. RESET command starts a context reset ending INACTIVE. -/
  | ctxReset (ctx : Nat)
  /-- R367. RESET_KEEP command starts a context reset ending ACTIVE. -/
  | ctxResetKeep (ctx : Nat)
  /-- R370. A write of RESET to CTX_FENCE starts a context reset. -/
  | ctxFenceReset (ctx : Nat) (byContext0 : Bool)
  /-- R374. Every outstanding request of the context completes and STATE becomes SAMPLING. -/
  | resetDrainEnd (ctx : Nat)
  /-- R374. The drain runs past twice WEFT_TIMEOUT_US and the rest is abandoned. -/
  | resetDrainTimeout (ctx : Nat)
  /-- R381. The vitrine sample is written and STATE becomes CLEARING. -/
  | vitrineSampleDone (ctx late : Nat)
  /-- R375. The context's slots, graphs and pending narrowings are handled and the generation is incremented. -/
  | resetClearing (ctx : Nat)
  /-- R377. The quiet period ends and the context reaches its ending state. -/
  | quietPeriodEnd (ctx : Nat)
  /-- R369. A write of a tile grant or slot grant is applied, held or refused. -/
  | grantWrite (ctx which value : Nat)
  /-- R385. The 1 ms hang sample updates still_ms and may post HANG or start a reset. -/
  | hangSample (ctx : Nat)
  /-- R484. A tile-op consumed poison and the context or partition is reset under its containment mode. -/
  | containmentStart (ctx : Nat)
  /-- R391. A compute warm reset is started with HBM kept in self-refresh. -/
  | warmResetKeepHbm
  /-- R391. A compute warm reset is started with HBM cleared. -/
  | warmResetClearHbm
  /-- R392. Every context's sample is taken and the compute dies are held in reset. -/
  | warmResetSampled
  /-- R506. Warm BIST and SRAM zeroing complete during a compute warm reset. -/
  | warmBist (durationMs : Nat) (failed : List Nat) (retested : List Nat) (coverage : List Nat) (fails : List Nat)
  /-- R393. State is restored and contexts reach their ending states. -/
  | warmResetDone
  /-- R395. A write of 0x52B7 to MODULE_RESET requests a module reset. -/
  | moduleResetRequest (value : Nat)
  /-- R395. The module reset begins, turning rails off and rerunning start-up. -/
  | moduleResetBegin
  /-- R403. A Varoa frame is received, checked, acknowledged or NAKed and its flits delivered. -/
  | varoaFrameRx (port header crc corrected uncorrectable : Nat) (slots : List Nat)
  /-- R404. A link is declared down after 16 resends or 10 µs out of lock. -/
  | varoaLinkDown (port cause : Nat)
  /-- R399. A port finishes retraining at width 4 or full width. -/
  | portRetrainDone (port wlGood : Nat)
  /-- R406. A port in link-up sends its HELLO frame every 1 ms. -/
  | helloTimer (port : Nat)
  /-- R407. A HELLO frame is received and the port comes UP or records its reason. -/
  | hello (port fields : Nat)
  /-- R405. A write to a fabric configuration object starts link-up on affected ports. -/
  | fabricConfigWrite (object elem value : Nat)
  /-- R412. A router slice forwards a fabric packet, failing over or discarding it. -/
  | fabricRoute (inPort header : Nat) (data : List (Nat × Bool))
  /-- R412. Routers move to fail-over routes after a link goes down. -/
  | failoverApply (links : List (Nat × Nat))
  /-- R418. A remote READ reaches its destination and is served, refused or NACKed. -/
  | fabricRead (header : Nat)
  /-- R418. A remote WRITE reaches its destination and is performed, refused or NACKed. -/
  | fabricWrite (header : Nat) (data : List (Nat × Bool))
  /-- R418. A remote masked write reaches its destination and is handled. -/
  | fabricWriteMasked (header : Nat) (data : List (Nat × Bool))
  /-- R419. A remote read response reaches the requester's I/O die. -/
  | fabricRdData (header : Nat) (data : List (Nat × Bool))
  /-- R419. A remote write acknowledgement reaches the requester's I/O die. -/
  | fabricWrAck (header : Nat)
  /-- R419. A remote ERROR or NACK_RESET response reaches the requester. -/
  | fabricError (header : Nat)
  /-- R419. A remote access without response completes with poison. -/
  | fabricAccessTimeout (tag : Nat)
  /-- R417. A write to an endpoint entry arms or changes it when allowed. -/
  | fabricEndpointWrite (ctx value : Nat)
  /-- R423. A flow entry is installed when its checks pass. -/
  | fabricFlowWrite (flow value : Nat)
  /-- R424. The source router admits a GUARANTEED packet when the bucket holds enough tokens. -/
  | guaranteedAdmit (flow len collId : Nat)
  /-- R426. A late or lost delivery notice reaches the source and a LATE event is posted. -/
  | lateNotice (header : Nat)
  /-- R426. A DELIVERED acknowledgement reaches the source and covers transfers. -/
  | delivered (header : Nat)
  /-- R426. The destination sends DELIVERED for a flow at most every 1 µs. -/
  | deliveredTimer (src flow : Nat)
  /-- R426. A transfer not covered 20 µs after its bound is reported UNCONFIRMED. -/
  | unconfirmedTimeout (flow seq : Nat)
  /-- R430. A write of PART_ID broadcasts a partition reset. -/
  | partResetRequest (value : Nat)
  /-- R430. A PART_RESET broadcast reaches a member and resets its contexts of the partition. -/
  | partReset (header : Nat)
  /-- R434. An engine checks a collective descriptor and sends COLL_READY. -/
  | collectiveStart (ctx node : Nat)
  /-- R434. A peer's READY arrives and data may be sent to it. -/
  | collReady (header : Nat)
  /-- R435. Collective data arrives and is combined; the last chunk ends the operation. -/
  | collData (rank chunk part : Nat) (headers : List Nat) (data : List (Nat × Bool))
  /-- R438. A COLL_ABORT broadcast reaches an engine and the operation ends with its status. -/
  | collAbort (header : Nat)
  /-- R438. TIMEOUT_MS passes without completion and the operation aborts with PEER_RESET. -/
  | collectiveTimeout (collId ctx : Nat)
  /-- R444. Every 10 µs each link end sends TIME_SYNC. -/
  | timeSyncTimer
  /-- R444. A TIME_SYNC is received and answered with TIME_ECHO. -/
  | timeSync (port arg : Nat)
  /-- R445. A TIME_ECHO arrives and the link's delay and offset are updated, acquiring time if due. -/
  | timeEcho (port arg t4 : Nat)
  /-- R446. The time root finds no synchronised neighbour in 100 ms and starts fabric time. -/
  | timeRootTimeout
  /-- R447. Every 10 µs the rate is steered toward the parents. -/
  | ftcSteer
  /-- R480. VIN_CORE falls below 21.0 V and the compute clocks stretch and the check level is raised. -/
  | vinCoreWarning
  /-- R480. VIN_CORE stays above 21.2 V for 10 µs and the stretch ends. -/
  | dipStretchEnd
  /-- R466. A check-level raise ends when its time runs out. -/
  | checkRaiseEnd (die : Nat)
  /-- R482. VIN_IO falls below its warning level and the dip is counted and logged. -/
  | vinIoWarning
  /-- R482. A suspect supply mark clears after 10 minutes without a dip. -/
  | supplySuspectClear (supply : Nat)
  /-- R486. A unit's score rises by 1 after RECOVER_S seconds without an event. -/
  | scoreRecover (unit : Nat)
  /-- R487. Scores and margin steps are saved to flash at least every 10 minutes. -/
  | scoreSave
  /-- R489. A unit due for deaccession is retired or deferred after the common-cause window. -/
  | deaccession (unit : Nat)
  /-- R498. A common-cause hold ends and the flagged units become due for retest. -/
  | commonCauseEnd (domain : Nat)
  /-- R51. The curator appends a deaccession or re-accession entry to the field catalogue. -/
  | fieldCatalogueAppend
  /-- R492. The re-placed tile has stopped and drained, and its state is copied to the spare. -/
  | replacementDrained (die tile : Nat)
  /-- R492. The darner's routes are written, the translation broadcast and the spare starts issuing. -/
  | replacementRoutesWritten (die tile : Nat)
  /-- R493. Tile-ops still executing 1 ms after the pause are abandoned with RETIRED. -/
  | replacementAbandon (die tile : Nat)
  /-- R53. An ADMIN write appends a re-accession entry for a unit. -/
  | catReaccession (value : Nat)
  /-- R63. A licence record is checked and stored or rejected. -/
  | licInstall (record : Nat)
  /-- R517. Periodic optical loopback check of a DOWN port. -/
  | opticalLoopbackCheck (port : Nat) (pass : Bool)
  /-- R517. Received-power check of each UP port's wavelengths every 1 s. -/
  | rxPowerCheck (port failed : Nat)
  /-- R517. Laser power and bias check every 1 s. -/
  | laserPowerCheck (ioDie : Nat) (pass : Bool)
  /-- R517. A PLL loses lock for 1 µs and the check fails. -/
  | pllLockLoss (kind unit : Nat)
  /-- R517. PLL jitter measured every 1 s against its calibrated value. -/
  | pllJitterCheck (kind unit : Nat) (pass : Bool)
  /-- R517. HBM PHY eye scanned every 60 s per channel in refresh intervals. -/
  | hbmEyeCheck (stack channel : Nat) (pass : Bool)
  /-- R517. Regulator telemetry compared with on-die sensors every 100 ms. -/
  | vsenseCrossCheck (rail : Nat) (pass : Bool)
  /-- R517. A failed analogue check is retried after 10 ms and scored on a second failure. -/
  | analogueRetry (check unit : Nat) (pass : Bool)
  /-- R519. A context's consent entry is written and stamped with its generation. -/
  | rehearsalConsentWrite (ctx value : Nat)
  /-- R520. KIND 0x00 cancels a pending or active injection. -/
  | rehCancel (record : Nat)
  /-- R521. Injection that starts a slice reporting a failure of array 0. -/
  | rehTileFault (record : Nat)
  /-- R521. Injection that makes comparisons report a mismatch. -/
  | rehCheckMismatch (record : Nat)
  /-- R521. Injection that sets the poison bit of a line. -/
  | rehPoison (record : Nat)
  /-- R521. Injection that declares a link down for a duration. -/
  | rehLinkDrop (record : Nat)
  /-- R521. Injection that withholds a queue's credits for a duration. -/
  | rehQueueStall (record : Nat)
  /-- R521. Injection that stops a card issuing for a duration. -/
  | rehHang (record : Nat)
  /-- R521. Injection that runs the brownout warning response for a duration. -/
  | rehBrownoutWarn (record : Nat)
  /-- R522. A scheduled injection reaches AT_FTC, is checked again and applied. -/
  | rehearsalAtFtc (ident : Nat)
  /-- R523. An injection ends, scores are restored and the end event is posted. -/
  | rehearsalEnd (ident : Nat)
  /-- R528. VIN_ANA becomes present and the controller runs in STANDBY. -/
  | vinAnaPresent
  /-- R528. VIN_IO becomes present, checked against the supply order. -/
  | vinIoPresent
  /-- R528. VIN_CORE becomes present and cold start begins, or HELD on a sequence fault. -/
  | vinCorePresent
  /-- R529. A supply becomes absent and out-of-order loss is recorded. -/
  | supplyAbsent (supply : Nat)
  /-- R528. VIN_IO and VIN_CORE have been absent for 100 ms and HELD is left. -/
  | heldRelease
  /-- R527. A supply exceeds its overvoltage level for 10 µs and its rails are turned off. -/
  | overvoltage (supply : Nat)
  /-- R529. VIN_ANA below 11.0 V for 100 µs turns off the other rails and records ANA_LOSS. -/
  | vinAnaLoss
  /-- R531. A supply crosses its reset level and a module reset starts. -/
  | brownoutReset (supply : Nat)
  /-- R534. Start-up phase 1 ends with every rail at power-good, or HELD on failure. -/
  | regulatorsUp (ok : Bool)
  /-- R534. Start-up phase 2 ends with firmware and catalogue signatures checked. -/
  | controllerBoot (ctrlCopy tileCopy ioCopy : Nat)
  /-- R534. Start-up phase 3 loads the field catalogue and licences and numbers logical tiles. -/
  | catalogueLoad
  /-- R503. Start-up phase 4 runs power-up BIST, repairing or deaccessioning failures. -/
  | powerupBist (durationMs : Nat) (failed : List Nat) (retested : List Nat) (coverage : List Nat) (fails : List Nat)
  /-- R569. Start-up phase 5 trains, tests and zeroes the HBM stacks. -/
  | hbmTraining (failed : List Nat)
  /-- R534. Start-up phase 6 calibrates lasers and wavelengths. -/
  | opticalCalibration (wlGood : List (Nat × Nat))
  /-- R536. Phase 7 ends when ports and fabric time complete or 2.1 s pass, and the module is READY. -/
  | ready
  /-- R537. POWER_CMD SLEEP performs a module reset that ends in SLEEP. -/
  | powerSleep
  /-- R537. POWER_CMD WAKE runs cold start from SLEEP or THERMAL_OFF. -/
  | powerWake
  /-- R541. Filtered temperature readings set or clear throttle causes, or trigger thermal shutdown. -/
  | thermalSample (sensor reading : Nat)
  /-- R543. The 1 ms input power average sets or clears a power cause. -/
  | powerSample (supply watts : Nat)
  /-- R542. Array duty D falls or rises by 1 at its timer. -/
  | dutyStep (die : Nat)
  /-- R544. A critical level or 100 ms at D of 4 resets the module into THERMAL_OFF. -/
  | thermalShutdown
  /-- R547. An idle tile enters IS2 or IS3 after four times that state's wake time. -/
  | idleEnter (die site : Nat)
  /-- R550. After 48 ms of full idleness the module enters IS4. -/
  | is4Enter
  /-- R549. A woken tile or module completes its wake and waiting work proceeds. -/
  | idleWakeDone (die site : Nat)
  /-- R551. A write of IDLE_WAKE_US takes effect at once, waking tiles that are too deep. -/
  | idleWakeUsWrite (ctx value : Nat)
  /-- R558. A host read through BAR4 is checked and performed or refused. -/
  | hostBar4Read (port fn off len : Nat)
  /-- R558. A host write through BAR4 is checked and performed or refused. -/
  | hostBar4Write (port fn off : Nat) (bytes : List Nat) (ep : Bool)
  /-- R561. A PCIe FetchAdd AtomicOp is checked and performed. -/
  | hostFetchAdd (port fn off size a : Nat)
  /-- R561. A PCIe Swap AtomicOp is checked and performed. -/
  | hostSwap (port fn off size a : Nat)
  /-- R561. A PCIe CAS AtomicOp is checked and performed. -/
  | hostCas (port fn off size cmp a : Nat)
  /-- R564. A write of MB_CTRL with GO sends a Dielfen request from the mailbox. -/
  | mailboxGo (port fn value : Nat)
  /-- R565. PERST# asserted resets the port and its bound contexts. -/
  | perstAssert (port : Nat)
  /-- R565. PERST# deasserted lets the link train after phase 2. -/
  | perstDeassert (port speed lanes : Nat) (flit : Bool)
  /-- R565. A hot reset retrains the port and resets its bound contexts. -/
  | hostHotReset (port : Nat)
  /-- R565. A PF function-level reset resets every user context bound to the port. -/
  | pfFlr (port : Nat)
  /-- R565. Clearing VF Enable resets every user context bound to the port. -/
  | vfEnableClear (port : Nat)
  /-- R565. A VF function-level reset resets its context, ending ACTIVE. -/
  | vfFlr (port vf : Nat)
  /-- R565. A function enters D3hot and stops decoding its BARs. -/
  | d3hotEnter (port fn : Nat)
  /-- R568. A pseudo-channel's refresh interval begins and accesses to it wait. -/
  | refreshInterval (stack pc : Nat)
  /-- R570. One pause of an HBM channel retrain runs. -/
  | hbmRetrainPause (stack channel : Nat)
  /-- R586. A management frame is received and dropped, answered from cache, or accepted. -/
  | t1sFrameRx (dest src etype : Nat) (payload : List Nat) (fcsOk : Bool) (vlan : Bool)
  /-- R583. The controller executes a queued Dielfen message record by record. -/
  | dielfenMessage
  /-- R580. Reads an object's whole value. -/
  | dfGet (priv who index sub : Nat)
  /-- R580. Writes an object's whole value. -/
  | dfSet (priv who index sub ty : Nat) (data : List Nat)
  /-- R584. Reads a segment of a BLOB or REC, taking a snapshot at offset 0. -/
  | dfGetSeg (priv who index sub off len : Nat)
  /-- R584. Writes whole elements of a BLOB at an offset. -/
  | dfSetSeg (priv who index sub ty off : Nat) (data : List Nat)
  /-- R580. Returns an object's size, element size, type, access and privilege. -/
  | dfDescribe (priv index sub : Nat)
  /-- R585. A key slot is written through a permitted path, resetting its replay state. -/
  | dfKeyWrite (path slot : Nat) (data : List Nat)
  /-- R592. A write of 0xDEF0 restores every RWP object's default at the next start. -/
  | odRestoreDefaults (value : Nat)
  /-- R592. An accepted RWP write is stored in flash within 1 s. -/
  | persistStore
  /-- R574. A new node ID takes effect 10 ms after its write. -/
  | t1sNodeIdApply
  /-- R575. PLCA status becomes inactive and the port falls back to CSMA/CD. -/
  | plcaFallback
  /-- R575. Beacons resume and the port returns to PLCA. -/
  | plcaResume
  /-- R575. NODE_CLASH clears after 10 s without a collision in the module's opportunity. -/
  | nodeClashClear
  /-- R616. Monitor command help. -/
  | monHelp (row : Option Nat)
  /-- R616. Monitor command id prints identity and state. -/
  | monId
  /-- R612. Monitor command login issues a challenge, or logs in without keys. -/
  | monLogin (slot : Option Nat)
  /-- R612. The line after a challenge is checked and the monitor logs in or denies. -/
  | monLoginResponse (response : Nat)
  /-- R615. Monitor command lock locks the monitor. -/
  | monLock
  /-- R617. Monitor command od get reads an object. -/
  | monOdGet (index sub : Nat) (range : Option (Nat × Nat))
  /-- R617. Monitor command od set writes an object. -/
  | monOdSet (index sub : Nat) (off : Option Nat) (data : List Nat)
  /-- R616. Monitor command od desc prints an object's description. -/
  | monOdDesc (index sub : Nat)
  /-- R616. Monitor command log prints accession records. -/
  | monLog (count : Nat)
  /-- R616. Monitor command log boot prints the last start-up. -/
  | monLogBoot
  /-- R616. Monitor command bist prints BIST summary. -/
  | monBist
  /-- R616. Monitor command bist fails prints failure records. -/
  | monBistFails
  /-- R616. Monitor command ctx prints context state. -/
  | monCtx (c : Option Nat)
  /-- R616. Monitor command ctx c activate writes ACTIVATE to CTX_CTRL. -/
  | monCtxActivate (c : Nat)
  /-- R616. Monitor command ctx c reset writes RESET to CTX_CTRL. -/
  | monCtxReset (c : Nat)
  /-- R616. Monitor command ctx c reset_keep writes RESET_KEEP to CTX_CTRL. -/
  | monCtxResetKeep (c : Nat)
  /-- R616. Monitor command tile prints a tile's state. -/
  | monTile (die tile : Nat)
  /-- R617. Monitor command peek reads local memory as context 0. -/
  | monPeek (addr len : Nat)
  /-- R617. Monitor command poke writes local memory as context 0. -/
  | monPoke (addr : Nat) (bytes : List Nat)
  /-- R619. Monitor command reset warm keep now starts a compute warm reset keeping HBM. -/
  | monResetWarmKeep (now : Bool)
  /-- R619. Monitor command reset warm clear now starts a compute warm reset clearing HBM. -/
  | monResetWarmClear (now : Bool)
  /-- R619. Monitor command reset module now starts a module reset. -/
  | monResetModule (now : Bool)
  /-- R618. Monitor command trace acc prints accession records as written. -/
  | monTraceAcc
  /-- R618. Monitor command trace ctx prints a context's events as posted. -/
  | monTraceCtx (c : Nat)
  /-- R618. Monitor command trace off ends tracing. -/
  | monTraceOff
  /-- R608. A break of 1 s on MON_RXD sets 115,200 baud and locks the monitor. -/
  | monBreak
  /-- R615. MON_LOCK_S seconds without input lock the monitor. -/
  | monLockTimeout
  /-- R13. A write to a register or object that has no row of its own, applied under its rules. -/
  | registerWrite (space a b off : Nat) (bytes : List Nat)
  /-- R648. When a link that was down comes UP again, every router returns to the normal route within 1 ms. -/
  | normalRouteReturn (links : List (Nat × Nat))
  /-- R345. The HOLDOFF_US time since the last MSI-X signal of a queue runs out, and a signal for entries written meanwhile is sent. -/
  | msixHoldoffEnd (port fn vector : Nat)
  /-- R575. A collision on the segment, under CSMA/CD or in the module's own PLCA opportunity, is counted and may set NODE_CLASH. -/
  | t1sCollision (own : Bool)
  /-- R572. The PCIe link of a host port retrains or degrades after its first link-up, and HOST_LINK_RETRAINS and HOST_PORT_STATUS change. -/
  | hostLinkRetrain (port speed lanes : Nat) (flit : Bool)
  /-- R568. A pseudo-channel's 350 ns refresh interval ends, and the accesses that waited for it proceed. -/
  | refreshIntervalEnd (stack pc : Nat)
  /-- R570. A retrain pause of an HBM channel ends, and the accesses that waited on the channel proceed. -/
  | hbmRetrainPauseEnd (stack channel : Nat)
  /-- R610. A monitor line that does not parse, names no command, or overran the line or input buffer is answered with err SYNTAX, UNKNOWN or OVERRUN. -/
  | monLineError (kind : Nat)
  /-- R609. Ctrl-C on MON_RXD discards the line being typed or stops a running log or trace listing. -/
  | monCtrlC
  deriving DecidableEq, Repr

end Sys2Proof
end

