-- ==== Sys2Proof/WellFormed.lean ====
section
/-! DEFINITION. Which commands are well formed: every operand that names a unit lies in the unit's range, every byte is a byte,
every register value fits its register. A sender sends no other (log entry 31). -/

namespace Sys2Proof

/-- A compute die (R14). -/
def dieOk (n : Nat) : Bool := decide (n < 2)
/-- A logical tile (R15). -/
def tileOk (n : Nat) : Bool := decide (n < 288)
/-- A physical site, row * 18 + column (R16). -/
def siteOk (n : Nat) : Bool := decide (n < 288)
/-- A context (R18). -/
def ctxOk (n : Nat) : Bool := decide (n < 16)
/-- A function of a host port (R555). -/
def fnOk (n : Nat) : Bool := decide (n < 16)
/-- A window entry (R220). -/
def windowOk (n : Nat) : Bool := decide (n < 32)
/-- A bank of tile memory (R190). -/
def bankOk (n : Nat) : Bool := decide (n < 24)
/-- A supply (R526). -/
def supplyOk (n : Nat) : Bool := decide (n < 3)
/-- A memory streamer of a die (R250). -/
def streamerOk (n : Nat) : Bool := decide (n < 12)
/-- An HBM stack (R25). -/
def stackOk (n : Nat) : Bool := decide (n < 8)
/-- A channel of a stack. -/
def channelOk (n : Nat) : Bool := decide (n < 16)
/-- A pseudo-channel of a stack. -/
def pseudoOk (n : Nat) : Bool := decide (n < 32)
/-- An MSI-X vector (R563). -/
def vectorOk (n : Nat) : Bool := decide (n < 8)
/-- A common-cause domain (R498). -/
def domainOk (n : Nat) : Bool := decide (n < 8)
/-- A rail (R530). -/
def railOk (n : Nat) : Bool := decide (n < 29)
/-- A temperature sensor (R540). -/
def sensorOk (n : Nat) : Bool := decide (n < 86)
/-- A privilege (R580). -/
def privOk (n : Nat) : Bool := decide (n < 3)
/-- An I/O die (R14). -/
def ioDieOk (n : Nat) : Bool := decide (n < 4)
/-- A flow (R422). -/
def flowOk (n : Nat) : Bool := decide (n < 4096)
/-- A direction: north, east, south, west. -/
def dirOk (n : Nat) : Bool := decide (n < 4)
/-- An engine of a tile (R76). -/
def engineOk (n : Nat) : Bool := decide (n < 5)
/-- A Varoa port (R17). -/
def portOk (n : Nat) : Bool := decide (n < 16)
/-- A host port (R14). -/
def hostPortOk (n : Nat) : Bool := decide (n < 2)
/-- A card slot (R293). -/
def slotOk (n : Nat) : Bool := decide (n < 4)
/-- A key slot (R585). -/
def keySlotOk (n : Nat) : Bool := decide (n < 8)
/-- A register value of 64 bits. -/
def valueOk (n : Nat) : Bool := decide (n < 2 ^ 64)
/-- A record of 256 bits. -/
def recordOk (n : Nat) : Bool := decide (n < 2 ^ 256)
/-- A packet header of 512 bits (R415). -/
def headerOk (n : Nat) : Bool := decide (n < 2 ^ 512)
/-- Bytes. -/
def bytesOk (bs : List Nat) : Bool := bs.all (fun b => decide (b < 256))

/-- Whether a command is well formed. -/
def Instr.wf (i : Instr) : Bool :=
  match i with
  | .nop die tile => dieOk die && tileOk tile
  | .syncLocal die tile => dieOk die && tileOk tile
  | .syncGroup die tile => dieOk die && tileOk tile
  | .fenceLocal die tile => dieOk die && tileOk tile
  | .cardDrain die tile => dieOk die && tileOk tile
  | .cardCut die tile => dieOk die && tileOk tile
  | .selectSetpQ die tile => dieOk die && tileOk tile
  | .selectSetpM die tile => dieOk die && tileOk tile
  | .selectChooseQ die tile => dieOk die && tileOk tile
  | .selectChooseM die tile => dieOk die && tileOk tile
  | .mma die tile => dieOk die && tileOk tile
  | .mmaT die tile => dieOk die && tileOk tile
  | .accLoadReplace die tile => dieOk die && tileOk tile
  | .accLoadAdd die tile => dieOk die && tileOk tile
  | .accStore die tile => dieOk die && tileOk tile
  | .ancInit die tile => dieOk die && tileOk tile
  | .ancScanAll die tile => dieOk die && tileOk tile
  | .ancScanRows die tile => dieOk die && tileOk tile
  | .ancFold die tile => dieOk die && tileOk tile
  | .vecEwAdd die tile => dieOk die && tileOk tile
  | .vecEwSub die tile => dieOk die && tileOk tile
  | .vecEwMul die tile => dieOk die && tileOk tile
  | .vecEwFma die tile => dieOk die && tileOk tile
  | .vecEwDiv die tile => dieOk die && tileOk tile
  | .vecEwSqrt die tile => dieOk die && tileOk tile
  | .vecEwMin die tile => dieOk die && tileOk tile
  | .vecEwMax die tile => dieOk die && tileOk tile
  | .vecEwAbs die tile => dieOk die && tileOk tile
  | .vecEwNeg die tile => dieOk die && tileOk tile
  | .vecEwCmpEq die tile => dieOk die && tileOk tile
  | .vecEwCmpLt die tile => dieOk die && tileOk tile
  | .vecEwCmpLe die tile => dieOk die && tileOk tile
  | .vecEwCmpUnord die tile => dieOk die && tileOk tile
  | .vecActRelu die tile => dieOk die && tileOk tile
  | .vecActExp die tile => dieOk die && tileOk tile
  | .vecActExp2 die tile => dieOk die && tileOk tile
  | .vecActLog die tile => dieOk die && tileOk tile
  | .vecActLog2 die tile => dieOk die && tileOk tile
  | .vecActRecip die tile => dieOk die && tileOk tile
  | .vecActRsqrt die tile => dieOk die && tileOk tile
  | .vecActTanh die tile => dieOk die && tileOk tile
  | .vecActSigmoid die tile => dieOk die && tileOk tile
  | .vecActSilu die tile => dieOk die && tileOk tile
  | .vecActGeluTanh die tile => dieOk die && tileOk tile
  | .vecActErf die tile => dieOk die && tileOk tile
  | .vecActSoftplus die tile => dieOk die && tileOk tile
  | .vecActSin die tile => dieOk die && tileOk tile
  | .vecActCos die tile => dieOk die && tileOk tile
  | .vecRedSum die tile => dieOk die && tileOk tile
  | .vecRedMax die tile => dieOk die && tileOk tile
  | .vecRedMin die tile => dieOk die && tileOk tile
  | .vecRedAmax die tile => dieOk die && tileOk tile
  | .cast die tile => dieOk die && tileOk tile
  | .xpose die tile => dieOk die && tileOk tile
  | .gather die tile => dieOk die && tileOk tile
  | .scatter die tile => dieOk die && tileOk tile
  | .sendRef die tile => dieOk die && tileOk tile
  | .sendInline die tile => dieOk die && tileOk tile
  | .sendVoid die tile => dieOk die && tileOk tile
  | .sendPred die tile => dieOk die && tileOk tile
  | .recv die tile => dieOk die && tileOk tile
  | .tileopEngineDone die tile engine => dieOk die && tileOk tile && engineOk engine
  | .checkCompare die tile _ => dieOk die && tileOk tile
  | .reexecDone die tile _ => dieOk die && tileOk tile
  | .replayExecute die tile _ => dieOk die && tileOk tile
  | .replayDigest die tile _ => dieOk die && tileOk tile
  | .tileopRetire die tile _ _ => dieOk die && tileOk tile
  | .beatTick die tile slot => dieOk die && tileOk tile && slotOk slot
  | .tileIslandWrite die tile value => dieOk die && tileOk tile && valueOk value
  | .freqStepApply die tile => dieOk die && tileOk tile
  | .bankOwnerWrite die tile _ bytes => dieOk die && tileOk tile && bytesOk bytes
  | .bankZeroDone die tile bank => dieOk die && tileOk tile && bankOk bank
  | .scrubRead _ _ _ => true
  | .ctxWindowWrite ctx entry _ bytes => ctxOk ctx && windowOk entry && bytesOk bytes
  | .weftRead _ => true
  | .weftWrite _ => true
  | .weftWriteMasked _ => true
  | .weftAtomic ctx fn _ _ _ _ _ => ctxOk ctx && fnOk fn
  | .weftRdData _ => true
  | .weftWrAck _ => true
  | .weftError _ => true
  | .weftCtrlCmd die tile _ ctx _ => dieOk die && tileOk tile && ctxOk ctx
  | .weftLinkCrcError die site dir _ => dieOk die && siteOk site && dirOk dir
  | .weftTimeout _ => true
  | .tableWriteDone die _ => dieOk die
  | .tableOldBankFree die => dieOk die
  | .translationForwardEnd die site => dieOk die && siteOk site
  | .streamerFetch die streamer => dieOk die && streamerOk streamer
  | .streamerAdmit die streamer _ => dieOk die && streamerOk streamer
  | .warpPickOwnerWrite die value => dieOk die && valueOk value
  | .warpAdmit die tile slot _ _ => dieOk die && tileOk tile && slotOk slot
  | .queueArrival die tile _ _ => dieOk die && tileOk tile
  | .ringRefill die tile _ => dieOk die && tileOk tile
  | .streamLineArrival die tile port _ => dieOk die && tileOk tile && portOk port
  | .creditReturn die _ => dieOk die
  | .sendWaitExpire die tile => dieOk die && tileOk tile
  | .joinStall die tile _ _ => dieOk die && tileOk tile
  | .selvedge ctx => ctxOk ctx
  | .cardSwitchArrive die tile ctx => dieOk die && tileOk tile && ctxOk ctx
  | .cardSwitchCommit die ctx _ => dieOk die && ctxOk ctx
  | .cardSwitchCancel die ctx => dieOk die && ctxOk ctx
  | .syncArrive die tile => dieOk die && tileOk tile
  | .syncRelease die tile => dieOk die && tileOk tile
  | .chanPause die tile => dieOk die && tileOk tile
  | .chanResume die tile => dieOk die && tileOk tile
  | .cardLoadDone die tile slot => dieOk die && tileOk tile && slotOk slot
  | .cardSwitchReady die tile slot => dieOk die && tileOk tile && slotOk slot
  | .switchQuietStart die ctx _ => dieOk die && ctxOk ctx
  | .switchTakeEffect die ctx _ => dieOk die && ctxOk ctx
  | .creditGraceEnd die ctx => dieOk die && ctxOk ctx
  | .seqDoorbell ctx value via => ctxOk ctx && valueOk value && decide (via ≤ 2)
  | .graphChecked ctx => ctxOk ctx
  | .nodeRead ctx die => ctxOk ctx && dieOk die
  | .seqRelease ctx value => ctxOk ctx && valueOk value
  | .nodeDoneNotice ctx _ die => ctxOk ctx && dieOk die
  | .nodeLaunch ctx die => ctxOk ctx && dieOk die
  | .sectionSwitchStart ctx die => ctxOk ctx && dieOk die
  | .gateOpen ctx die _ => ctxOk ctx && dieOk die
  | .nodeDrainDone ctx _ => ctxOk ctx
  | .graphFinish ctx => ctxOk ctx
  | .graphDone ctx => ctxOk ctx
  | .cqEntryWrite ctx => ctxOk ctx
  | .cqCfgWrite ctx value => ctxOk ctx && valueOk value
  | .eqCfgWrite ctx value => ctxOk ctx && valueOk value
  | .ledgerCfgWrite ctx value => ctxOk ctx && valueOk value
  | .ftcLaunchAtWrite ctx value => ctxOk ctx && valueOk value
  | .sliceDue die site => dieOk die && siteOk site
  | .sliceGrant die site => dieOk die && siteOk site
  | .sliceRelief die site => dieOk die && siteOk site
  | .sliceEnd die site _ _ _ => dieOk die && siteOk site
  | .sliceReinitDone die site => dieOk die && siteOk site
  | .sliceOverdue die site => dieOk die && siteOk site
  | .ctxActivate ctx => ctxOk ctx
  | .ctxReset ctx => ctxOk ctx
  | .ctxResetKeep ctx => ctxOk ctx
  | .ctxFenceReset ctx _ => ctxOk ctx
  | .resetDrainEnd ctx => ctxOk ctx
  | .resetDrainTimeout ctx => ctxOk ctx
  | .vitrineSampleDone ctx _ => ctxOk ctx
  | .resetClearing ctx => ctxOk ctx
  | .quietPeriodEnd ctx => ctxOk ctx
  | .grantWrite ctx _ value => ctxOk ctx && valueOk value
  | .hangSample ctx => ctxOk ctx
  | .containmentStart ctx => ctxOk ctx
  | .warmResetKeepHbm => true
  | .warmResetClearHbm => true
  | .warmResetSampled => true
  | .warmBist _ _ _ _ _ => true
  | .warmResetDone => true
  | .moduleResetRequest value => valueOk value
  | .moduleResetBegin => true
  | .varoaFrameRx port _ _ _ _ _ => portOk port
  | .varoaLinkDown port _ => portOk port
  | .portRetrainDone port _ => portOk port
  | .helloTimer port => portOk port
  | .hello port _ => portOk port
  | .fabricConfigWrite _ _ value => valueOk value
  | .fabricRoute inPort header _ => portOk inPort && headerOk header
  | .failoverApply _ => true
  | .fabricRead header => headerOk header
  | .fabricWrite header _ => headerOk header
  | .fabricWriteMasked header _ => headerOk header
  | .fabricRdData header _ => headerOk header
  | .fabricWrAck header => headerOk header
  | .fabricError header => headerOk header
  | .fabricAccessTimeout _ => true
  | .fabricEndpointWrite ctx value => ctxOk ctx && valueOk value
  | .fabricFlowWrite flow _ => flowOk flow
  | .guaranteedAdmit flow _ _ => flowOk flow
  | .lateNotice header => headerOk header
  | .delivered header => headerOk header
  | .deliveredTimer _ flow => flowOk flow
  | .unconfirmedTimeout flow _ => flowOk flow
  | .partResetRequest value => valueOk value
  | .partReset header => headerOk header
  | .collectiveStart ctx _ => ctxOk ctx
  | .collReady header => headerOk header
  | .collData _ _ _ _ _ => true
  | .collAbort header => headerOk header
  | .collectiveTimeout _ ctx => ctxOk ctx
  | .timeSyncTimer => true
  | .timeSync port _ => portOk port
  | .timeEcho port _ _ => portOk port
  | .timeRootTimeout => true
  | .ftcSteer => true
  | .vinCoreWarning => true
  | .dipStretchEnd => true
  | .checkRaiseEnd die => dieOk die
  | .vinIoWarning => true
  | .supplySuspectClear supply => supplyOk supply
  | .scoreRecover _ => true
  | .scoreSave => true
  | .deaccession _ => true
  | .commonCauseEnd domain => domainOk domain
  | .fieldCatalogueAppend => true
  | .replacementDrained die tile => dieOk die && tileOk tile
  | .replacementRoutesWritten die tile => dieOk die && tileOk tile
  | .replacementAbandon die tile => dieOk die && tileOk tile
  | .catReaccession value => valueOk value
  | .licInstall _ => true
  | .opticalLoopbackCheck port _ => portOk port
  | .rxPowerCheck port _ => portOk port
  | .laserPowerCheck ioDie _ => ioDieOk ioDie
  | .pllLockLoss _ _ => true
  | .pllJitterCheck _ _ _ => true
  | .hbmEyeCheck stack channel _ => stackOk stack && channelOk channel
  | .vsenseCrossCheck rail _ => railOk rail
  | .analogueRetry _ _ _ => true
  | .rehearsalConsentWrite ctx value => ctxOk ctx && valueOk value
  | .rehCancel record => recordOk record
  | .rehTileFault record => recordOk record
  | .rehCheckMismatch record => recordOk record
  | .rehPoison record => recordOk record
  | .rehLinkDrop record => recordOk record
  | .rehQueueStall record => recordOk record
  | .rehHang record => recordOk record
  | .rehBrownoutWarn record => recordOk record
  | .rehearsalAtFtc _ => true
  | .rehearsalEnd _ => true
  | .vinAnaPresent => true
  | .vinIoPresent => true
  | .vinCorePresent => true
  | .supplyAbsent supply => supplyOk supply
  | .heldRelease => true
  | .overvoltage supply => supplyOk supply
  | .vinAnaLoss => true
  | .brownoutReset supply => supplyOk supply
  | .regulatorsUp _ => true
  | .controllerBoot _ _ _ => true
  | .catalogueLoad => true
  | .powerupBist _ _ _ _ _ => true
  | .hbmTraining _ => true
  | .opticalCalibration _ => true
  | .ready => true
  | .powerSleep => true
  | .powerWake => true
  | .thermalSample sensor _ => sensorOk sensor
  | .powerSample supply _ => supplyOk supply
  | .dutyStep die => dieOk die
  | .thermalShutdown => true
  | .idleEnter die site => dieOk die && siteOk site
  | .is4Enter => true
  | .idleWakeDone die site => dieOk die && siteOk site
  | .idleWakeUsWrite ctx value => ctxOk ctx && valueOk value
  | .hostBar4Read port fn _ _ => hostPortOk port && fnOk fn
  | .hostBar4Write port fn _ bytes _ => hostPortOk port && fnOk fn && bytesOk bytes
  | .hostFetchAdd port fn _ _ _ => hostPortOk port && fnOk fn
  | .hostSwap port fn _ _ _ => hostPortOk port && fnOk fn
  | .hostCas port fn _ _ _ _ => hostPortOk port && fnOk fn
  | .mailboxGo port fn value => hostPortOk port && fnOk fn && valueOk value
  | .perstAssert port => hostPortOk port
  | .perstDeassert port _ _ _ => hostPortOk port
  | .hostHotReset port => hostPortOk port
  | .pfFlr port => hostPortOk port
  | .vfEnableClear port => hostPortOk port
  | .vfFlr port vf => hostPortOk port && fnOk vf
  | .d3hotEnter port fn => hostPortOk port && fnOk fn
  | .refreshInterval stack pc => stackOk stack && pseudoOk pc
  | .hbmRetrainPause stack channel => stackOk stack && channelOk channel
  | .t1sFrameRx _ _ _ payload _ _ => bytesOk payload
  | .dielfenMessage => true
  | .dfGet priv _ _ _ => privOk priv
  | .dfSet priv _ _ _ _ data => privOk priv && bytesOk data
  | .dfGetSeg priv _ _ _ _ _ => privOk priv
  | .dfSetSeg priv _ _ _ _ _ data => privOk priv && bytesOk data
  | .dfDescribe priv _ _ => privOk priv
  | .dfKeyWrite _ slot data => keySlotOk slot && bytesOk data
  | .odRestoreDefaults value => valueOk value
  | .persistStore => true
  | .t1sNodeIdApply => true
  | .plcaFallback => true
  | .plcaResume => true
  | .nodeClashClear => true
  | .monHelp _ => true
  | .monId => true
  | .monLogin slot => slot.all keySlotOk
  | .monLoginResponse _ => true
  | .monLock => true
  | .monOdGet _ _ _ => true
  | .monOdSet _ _ _ data => bytesOk data
  | .monOdDesc _ _ => true
  | .monLog _ => true
  | .monLogBoot => true
  | .monBist => true
  | .monBistFails => true
  | .monCtx c => c.all ctxOk
  | .monCtxActivate c => ctxOk c
  | .monCtxReset c => ctxOk c
  | .monCtxResetKeep c => ctxOk c
  | .monTile die tile => dieOk die && tileOk tile
  | .monPeek _ _ => true
  | .monPoke _ bytes => bytesOk bytes
  | .monResetWarmKeep _ => true
  | .monResetWarmClear _ => true
  | .monResetModule _ => true
  | .monTraceAcc => true
  | .monTraceCtx c => ctxOk c
  | .monTraceOff => true
  | .monBreak => true
  | .monLockTimeout => true
  | .registerWrite _ _ _ _ bytes => bytesOk bytes
  | .normalRouteReturn _ => true
  | .msixHoldoffEnd port fn vector => hostPortOk port && fnOk fn && vectorOk vector
  | .t1sCollision _ => true
  | .hostLinkRetrain port _ _ _ => hostPortOk port
  | .refreshIntervalEnd stack pc => stackOk stack && pseudoOk pc
  | .hbmRetrainPauseEnd stack channel => stackOk stack && channelOk channel
  | .monLineError _ => true
  | .monCtrlC => true

/-- A well-formed command. -/
abbrev WellFormed (i : Instr) : Prop := i.wf = true

end Sys2Proof
end

