-- ==== Sys2Proof/Decode.lean ====
section
/-! DEFINITION. The command that a word spells. spec/opcode_table.json gives no row any bits: the block takes commands, not
encoded instructions, so no word spells one (log entry 32). -/

namespace Sys2Proof

/-- The command of a word of `nbits` bits: none, for the table gives no row bits. -/
def decodeTableWord (_nbits _w : Nat) : Option Instr := none

end Sys2Proof
end

