-- ==== Sys2Proof/Config.lean ====
section
/-! DEFINITION. The values the manual leaves open, as constants without a body: nothing in Lean can evaluate
one or prove a value of it, so a statement about the machine holds whatever they are. Each names the rule
that leaves it open and its log entry. -/

namespace Sys2Proof.Config

/-- Which of the two neighbours of the exact value a faithfully rounded operation takes (R98, R119): a
fixed function (R100) of the operation (0 division, 1 square root, 2 RECIP), the destination format and the
operand values' bits. True takes the neighbour of greater magnitude. Log entry 4. -/
opaque roundUp : (op fmt a b : Nat) → Bool

/-- Which of the results within its error bound a VEC_ACT approximation takes (R176): a fixed function of FUNC, the two formats
and the input bits. Log entry 5. -/
opaque vecAct : (func fmtA fmtD bits : Nat) → Nat

/-- CRC-16 of a flit, over its data and bits 31:16 of its sideband (R234): the polynomial is not given. Log entry 74. -/
opaque weftCrc : Nat → BitVec 16

/-- Which of a compute die's two I/O-die links a packet for another device takes where both are there: true east. Log entry 74. -/
opaque outEast : (die device : Nat) → Bool

/-- The order in which the legal ways between two routers become the darner's templates (R491): the curator's choice, by how many
are still to be taken. Log entry 83. -/
opaque template : (die site spare left : Nat) → Nat

/-- How far the FTC counter of an I/O die stands from that of I/O die 0, in sixteenths of a nanosecond, folded into -8 to 8 by
`State.dieSkew`: the four agree within 1 ns (R447). Log entry 28. -/
opaque dieSkew : (ioDie : Nat) → Nat

/-- Which of the sites that may serve becomes a tile's replay tile (R478): the curator's choice, by the free counter. Log entry 81. -/
opaque replayPick : (die tile time : Nat) → Nat

/-- A byte the manual leaves unspecified (R181), by the model's free counter. Log entry 3. -/
opaque freeByte : Nat → Byte

/-- A challenge of the serial monitor (R612): "unpredictable", by the free counter. Log entry 3. -/
opaque challenge : Nat → Nat

/-- Whether the licence record's signature verifies (R63): the key is Bergstrand's. Log entry 6. -/
opaque licenceSigned : Nat → Bool

/-- Factory calibration of an element (R539), by object index: written at final test. Log entry 30. -/
opaque factoryCal : (index el : Nat) → Nat

/-- Version of an image (0 tile controller, 1 Ummiwell controller, 2 I/O die) in its first or second copy (R602). Log entry 30. -/
opaque fwVersion : (image copy : Nat) → Nat

/-- The on-die sensor's reading of a rail as F32 bits, before calibration, and its regulator's telemetry (R517, R539), at a controller
uptime and a set point in mV (R518, R551): no command reports them. Log entry 30. -/
opaque railReading : (rail time : Nat) → (setPoint : Int) → Nat
opaque railTelemetry : (rail time : Nat) → (setPoint : Int) → Nat

/-- The calibrated limit of a laser's bias, mA as F32 bits (R539). Log entry 30. -/
opaque laserLimit : (laser : Nat) → Nat

/-- A trim code of an HBM channel as training finds it (R539). Log entry 30. -/
opaque hbmTrained : (channel code : Nat) → Int

/-- A measured quantity of 0x2010:01 or 0x2010:02 (key index * 256 + sub), element, controller uptime (R551): no command reports it; the
time in the band of R532 is counted from it. Log entry 30. -/
opaque reading : (key el time : Nat) → Nat

end Sys2Proof.Config
end

