-- ==== Sys2Proof/Machine/Bits.lean ====
section
/-! DEFINITION. Fields and bits of registers and records: bit 0 is the least significant, a field is written high:low (R9). -/

namespace Sys2Proof

/-- The field of width `w` whose least significant bit is bit `lo` of `x` (R9). -/
def fld (x : Nat) (lo w : Nat) : Nat := x / 2 ^ lo % 2 ^ w

/-- Bit `i` of `x`. -/
def bitOf (x i : Nat) : Bool := x.testBit i

/-- A Boolean as a one-bit field. -/
def b2n (b : Bool) : Nat := if b then 1 else 0

/-- Place `v`, cut to `w` bits, at bit `lo`: one field of a record that is put together as a sum. -/
def at_ (lo w v : Nat) : Nat := (v % 2 ^ w) * 2 ^ lo

end Sys2Proof
end

