-- ==== Sys2Proof/Machine/Formats.lean ====
section
/-! DEFINITION. The number formats and how values are rounded into them (chapter Number formats and numeric
behaviour, R90 to R121): exact values, one rounding to nearest with ties to even, saturation, flushing, the
IEEE flags of strict contexts, and BS4 blocks. -/

namespace Sys2Proof.Machine

/-- The formats of R155 in code order. -/
inductive Fmt where
  | none | fp32 | bf16 | fp16 | e4m3 | e5m2 | bs4 | int8 | int32 | anc128 | b64
  deriving DecidableEq, Repr

/-- The format of a code of R155; codes 0xB to 0xF are reserved values. -/
def Fmt.ofCode : Nat → Option Fmt
  | 0 => some .none | 1 => some .fp32 | 2 => some .bf16 | 3 => some .fp16 | 4 => some .e4m3
  | 5 => some .e5m2 | 6 => some .bs4 | 7 => some .int8 | 8 => some .int32 | 9 => some .anc128
  | 10 => some .b64 | _ => Option.none

def Fmt.code : Fmt → Nat
  | .none => 0 | .fp32 => 1 | .bf16 => 2 | .fp16 => 3 | .e4m3 => 4 | .e5m2 => 5 | .bs4 => 6
  | .int8 => 7 | .int32 => 8 | .anc128 => 9 | .b64 => 10

/-- Element size in bytes (R155); a BS4 block of 16 elements takes 9 bytes. -/
def Fmt.size : Fmt → Nat
  | .none => 0 | .fp32 => 4 | .bf16 => 2 | .fp16 => 2 | .e4m3 => 1 | .e5m2 => 1 | .bs4 => 9
  | .int8 => 1 | .int32 => 4 | .anc128 => 16 | .b64 => 8

/-- The five floating-point formats of R91. -/
def Fmt.isFloat : Fmt → Bool
  | .fp32 | .bf16 | .fp16 | .e4m3 | .e5m2 => true
  | _ => false

def Fmt.isInt : Fmt → Bool
  | .int8 | .int32 => true
  | _ => false

def Fmt.isFp8 : Fmt → Bool
  | .e4m3 | .e5m2 => true
  | _ => false

/-- Bytes of a row of `n` elements, packed (R94, R155). -/
def Fmt.rowBytes (f : Fmt) (n : Nat) : Nat := if f = .bs4 then n / 16 * 9 else n * f.size

/-- Exponent bits, fraction bits, bias (R90). -/
def Fmt.ebits : Fmt → Nat
  | .fp32 | .bf16 => 8 | .fp16 | .e5m2 => 5 | .e4m3 => 4 | _ => 2
def Fmt.mbits : Fmt → Nat
  | .fp32 => 23 | .bf16 => 7 | .fp16 => 10 | .e4m3 => 3 | .e5m2 => 2 | _ => 1
def Fmt.bias : Fmt → Nat
  | .fp32 | .bf16 => 127 | .fp16 | .e5m2 => 15 | .e4m3 => 7 | _ => 1
/-- Whether the format has infinities (R90). -/
def Fmt.hasInf : Fmt → Bool
  | .fp32 | .bf16 | .fp16 | .e5m2 => true
  | _ => false

/-- Exponent of the least significant bit of a subnormal. -/
def Fmt.lsb (f : Fmt) : Int := 1 - f.bias - f.mbits

/-- Code of +infinity, or one above the largest finite code where there is none. -/
def Fmt.infCode (f : Fmt) : Nat :=
  if f.hasInf then (2 ^ f.ebits - 1) * 2 ^ f.mbits
  else if f = .e4m3 then 0x7F else 8

/-- Code of the largest finite magnitude (R91 table, R92). -/
def Fmt.maxCode (f : Fmt) : Nat := f.infCode - 1

/-- The canonical NaN (R112, table under R91). -/
def Fmt.nanCode (f : Fmt) : Nat :=
  if f.hasInf then f.infCode + 2 ^ (f.mbits - 1) else 0x7F

/-- The sign bit. -/
def Fmt.signBit (f : Fmt) (neg : Bool) : Nat := if neg then 2 ^ (f.ebits + f.mbits) else 0

/-- An exact value: a NaN, an infinity, or (−1)^neg × mag × 2^exp. -/
inductive Num where
  | nan (signalling : Bool)
  | inf (neg : Bool)
  | fin (neg : Bool) (mag : Nat) (exp : Int)
  deriving DecidableEq, Repr

def Num.zero : Num := .fin false 0 0

/-- What one result element did: counted saturated (R101), counted flushed (R102), and the sticky bits of
CTX_NUMERIC it sets, in their places (R106): 10 INEXACT, 11 UNDERFLOW, 12 OVERFLOW, 13 DIVZERO, 14 INVALID,
15 SUB_FLUSHED. -/
structure Ev where
  sat : Bool := false
  flush : Bool := false
  sticky : Nat := 0
  deriving DecidableEq, Repr

def Ev.join (a b : Ev) : Ev := ⟨a.sat || b.sat, a.flush || b.flush, a.sticky ||| b.sticky⟩

def stInexact : Nat := 2 ^ 10
def stUnderflow : Nat := 2 ^ 11
def stOverflow : Nat := 2 ^ 12
def stDivZero : Nat := 2 ^ 13
def stInvalid : Nat := 2 ^ 14
def stSubFlushed : Nat := 2 ^ 15

/-- The numeric regime of an operation: FLUSH_SUB in effect, and strict rules (R107, R109, R111, R126). -/
structure Regime where
  flush : Bool := false
  strict : Bool := false
  deriving DecidableEq, Repr

/-- Two's complement of `w` bits. -/
def toInt (w x : Nat) : Int := if x % 2 ^ w < 2 ^ (w - 1) then x % 2 ^ w else (x % 2 ^ w : Nat) - (2 ^ w : Nat)
/-- The `w`-bit code of an integer. -/
def ofInt (w : Nat) (i : Int) : Nat := (i % (2 ^ w : Nat)).toNat

def Num.ofInt (i : Int) : Num := .fin (decide (i < 0)) i.natAbs 0

/-- Width in bits of an integer format (R96). -/
def Fmt.iw (f : Fmt) : Nat := if f = .int8 then 8 else 32

/-- The exact value that the bits of an element stand for (R91, R92, R96). -/
def Fmt.decode (f : Fmt) (bits : Nat) : Num :=
  if f.isInt then Num.ofInt (toInt f.iw bits)
  else
    let neg := bits.testBit (f.ebits + f.mbits)
    let e := fld bits f.mbits f.ebits
    let m := fld bits 0 f.mbits
    if f.hasInf && e == 2 ^ f.ebits - 1 then
      if m = 0 then .inf neg else .nan (!m.testBit (f.mbits - 1))
    else if f = .e4m3 ∧ e = 15 ∧ m = 7 then .nan false
    else if e = 0 then .fin neg m f.lsb
    else .fin neg (2 ^ f.mbits + m) (f.lsb + e - 1)

/-- Whether the element is a subnormal (R91); E2M1 and the integers have none (R92). -/
def Fmt.isSubnormal (f : Fmt) (bits : Nat) : Bool :=
  f.isFloat && fld bits f.mbits f.ebits == 0 && fld bits 0 f.mbits != 0

/-- Read an operand element: with FLUSH_SUB a subnormal is read as zero of its sign and counted (R109). -/
def Fmt.read (f : Fmt) (g : Regime) (bits : Nat) : Num × Ev :=
  if g.flush && f.isSubnormal bits then
    (.fin (bits.testBit (f.ebits + f.mbits)) 0 0, { flush := true, sticky := stSubFlushed })
  else (f.decode bits, {})

/-- Nearest integer to `m × 2^s`, ties to even (R98), and whether it is inexact. -/
def roundEven (m : Nat) (s : Int) : Nat × Bool :=
  if 0 ≤ s then (m * 2 ^ s.toNat, false)
  else
    let d := 2 ^ (-s).toNat
    let q := m / d
    let r := m % d
    (if 2 * r > d ∨ (2 * r = d ∧ q % 2 = 1) then q + 1 else q, r != 0)

/-- Truncation of `m × 2^s` to an integer. -/
def truncTo (m : Nat) (s : Int) : Nat × Bool :=
  if 0 ≤ s then (m * 2 ^ s.toNat, false)
  else (m / 2 ^ (-s).toNat, m % 2 ^ (-s).toNat != 0)

/-- `m1 × 2^e1 > m2 × 2^e2`. -/
def gtMag (m1 : Nat) (e1 : Int) (m2 : Nat) (e2 : Int) : Bool :=
  let e := min e1 e2
  m1 * 2 ^ (e1 - e).toNat > m2 * 2 ^ (e2 - e).toNat

/-- floor(log₂(mag × 2^exp)) for mag ≠ 0. -/
def lead (mag : Nat) (exp : Int) : Int := Nat.log2 mag + exp

/-- The exponent of the grid on which a magnitude is rounded. -/
def Fmt.grid (f : Fmt) (mag : Nat) (exp : Int) : Int := max f.lsb (lead mag exp - f.mbits)

/-- The magnitude code of `q` units of the grid 2^t: consecutive codes are consecutive values, and a carry
out of the fraction enters the exponent. -/
def Fmt.codeAt (f : Fmt) (q : Nat) (t : Int) : Nat := (t - f.lsb).toNat * 2 ^ f.mbits + q

/-- The value of a magnitude code as (significand, exponent). -/
def Fmt.codeVal (f : Fmt) (c : Nat) : Nat × Int :=
  let e := c / 2 ^ f.mbits
  let m := c % 2 ^ f.mbits
  if e = 0 then (m, f.lsb) else (2 ^ f.mbits + m, f.lsb + e - 1)

/-- Whether the exact magnitude lies beyond the largest finite value (R101, R103). -/
def Fmt.beyond (f : Fmt) (mag : Nat) (exp : Int) : Bool :=
  gtMag mag exp (f.codeVal f.maxCode).1 (f.codeVal f.maxCode).2

/-- Tiny after rounding with an unbounded exponent (R129). -/
def Fmt.tiny (f : Fmt) (mag : Nat) (exp : Int) : Bool :=
  let s := lead mag exp - f.mbits
  gtMag 1 (1 - f.bias) (roundEven mag (exp - s)).1 s

/-- Finish a floating-point result whose rounded magnitude code is `c` (possibly above the largest finite
code), of the non-zero exact value mag × 2^exp: R101 to R103, R109, and the flags of R128 and R129. -/
def Fmt.finish (f : Fmt) (g : Regime) (neg : Bool) (mag : Nat) (exp : Int) (c : Nat) (inexact : Bool) : Nat × Ev :=
  let tooBig := c > f.maxCode
  let b := f.beyond mag exp
  let c1 := if tooBig then (if f.hasInf then f.infCode else f.maxCode) else c
  let fl0 := c1 = 0
  let fsub := g.flush && !g.strict && f.isFloat && c1 != 0 && decide (c1 < 2 ^ f.mbits)
  let c2 := if fsub then 0 else c1
  let st := if fsub then stSubFlushed
    else if g.strict then
      (if inexact || b then stInexact else 0)
      ||| (if tooBig then stOverflow else 0)
      ||| (if (inexact && f.tiny mag exp) then stUnderflow else 0)
    else 0
  (f.signBit neg + c2, { sat := b, flush := fl0 || fsub, sticky := st })

/-- Round an exact value to an integer format (R103): beyond the ends it saturates; NaN gives 0. In a strict
context a value that does not fit sets IEEE_INVALID (R128). "Largest finite value" is taken to be the end on the value's own side,
2^(w−1) − 1 above and 2^(w−1) below zero (DESIGN CHOICE, log entry 67). -/
def Fmt.encodeInt (f : Fmt) (g : Regime) (x : Num) : Nat × Ev :=
  let hi : Nat := 2 ^ (f.iw - 1) - 1
  let lo : Nat := 2 ^ (f.iw - 1)
  let inv := if g.strict then stInvalid else 0
  match x with
  | .nan _ => (0, { sat := true, sticky := inv })
  | .inf neg => (if neg then lo else hi, { sat := true, sticky := inv })
  | .fin neg mag exp =>
    let q := (roundEven mag exp).1
    let top := if neg then lo else hi
    let b := gtMag mag exp top 0
    let out := decide (q > top)
    let v : Int := if neg then -(min q top : Nat) else (min q top : Nat)
    (ofInt f.iw v, { sat := b, sticky := if out then inv else 0 })

/-- Round an exact value once to a format (R98, R99, R103). -/
def Fmt.encode (f : Fmt) (g : Regime) (x : Num) : Nat × Ev :=
  if f.isInt then f.encodeInt g x
  else match x with
    | .nan s => (f.nanCode, { sticky := if g.strict && s then stInvalid else 0 })
    | .inf neg =>
      if f.hasInf then (f.signBit neg + f.infCode, {})
      else (f.signBit neg + f.maxCode, { sat := true })
    | .fin neg mag exp =>
      if mag = 0 then (f.signBit neg, {})
      else
        let t := f.grid mag exp
        let r := roundEven mag (exp - t)
        f.finish g neg mag exp (f.codeAt r.1 t) r.2

/-- Faithful rounding (R98, R119): one of the two neighbours of the exact value, the greater in magnitude
when `up`; a value the format holds is itself. -/
def Fmt.encodeFaithful (f : Fmt) (g : Regime) (up : Bool) (x : Num) : Nat × Ev :=
  match x with
  | .fin neg mag exp =>
    if mag = 0 then (f.signBit neg, {})
    else
      let t := f.grid mag exp
      let r := truncTo mag (exp - t)
      let c := f.codeAt r.1 t
      let c' := if r.2 && up then c + 1 else c
      let c'' := if c > f.maxCode then (if up then f.infCode else f.maxCode) else c'
      f.finish g neg mag exp c'' r.2
  | _ => f.encode g x

-- ---------------------------------------------------------------- exact operations (R113)

/-- A NaN made from two operands of which at least one is NaN. A fused multiply-add of 0, infinity and a quiet NaN is taken as
invalid, as IEEE 754-2019 lets an implementation choose (DESIGN CHOICE, log entry 68). -/
def Num.nanOf : Num → Num → Num
  | .nan a, .nan b => .nan (a || b)
  | .nan a, _ => .nan a
  | _, .nan b => .nan b
  | _, _ => .nan true

def Num.isNan : Num → Bool
  | .nan _ => true
  | _ => false

def Num.neg : Num → Num
  | .nan s => .nan s
  | .inf n => .inf (!n)
  | .fin n m e => .fin (!n) m e

def Num.abs : Num → Num
  | .nan s => .nan s
  | .inf _ => .inf false
  | .fin _ m e => .fin false m e

def Num.isZero : Num → Bool
  | .fin _ 0 _ => true
  | _ => false

def Num.isNeg : Num → Bool
  | .inf n => n
  | .fin n _ _ => n
  | .nan _ => false

/-- Exact product; zero times infinity is NaN (R113), and an invalid operation. -/
def Num.mul (a b : Num) : Num :=
  match a, b with
  | .fin n1 m1 e1, .fin n2 m2 e2 => .fin (n1 ^^ n2) (m1 * m2) (e1 + e2)
  | .inf n1, .fin n2 m2 _ => if m2 = 0 then .nan true else .inf (n1 ^^ n2)
  | .fin n1 m1 _, .inf n2 => if m1 = 0 then .nan true else .inf (n1 ^^ n2)
  | .inf n1, .inf n2 => .inf (n1 ^^ n2)
  | a, b => Num.nanOf a b

/-- Exact sum of two values; infinities of both signs give NaN; an exact zero sum is −0 only when both terms are. -/
def Num.add (a b : Num) : Num :=
  match a, b with
  | .fin n1 m1 e1, .fin n2 m2 e2 =>
    if m1 = 0 then (if m2 = 0 then .fin (n1 && n2) 0 0 else b)
    else if m2 = 0 then a
    else
      let e := min e1 e2
      let x : Int := (m1 * 2 ^ (e1 - e).toNat : Nat)
      let y : Int := (m2 * 2 ^ (e2 - e).toNat : Nat)
      let s := (if n1 then -x else x) + (if n2 then -y else y)
      if s = 0 then .zero else .fin (decide (s < 0)) s.natAbs e
  | .inf n1, .inf n2 => if n1 = n2 then .inf n1 else .nan true
  | .inf n, .fin _ _ _ => .inf n
  | .fin _ _ _, .inf n => .inf n
  | a, b => Num.nanOf a b

def Num.sub (a b : Num) : Num := a.add b.neg

/-- Exact sum of several terms (R115). An infinity meeting a NaN or the other infinity anywhere in the list
gives NaN; a zero is −0 only when every term is −0. -/
def Num.sum : List Num → Num
  | [] => .zero
  | [a] => a
  | a :: as => a.add (Num.sum as)

/-- Quotient with a sticky last bit below 200 kept bits (R99: rounded once from the exact value), and the
IEEE divide-by-zero event. -/
def Num.div (a b : Num) : Num × Bool :=
  match a, b with
  | .fin n1 m1 e1, .fin n2 m2 e2 =>
    if m2 = 0 then (if m1 = 0 then (.nan true, false) else (.inf (n1 ^^ n2), true))
    else if m1 = 0 then (.fin (n1 ^^ n2) 0 0, false)
    else
      let k := 200 + Nat.log2 m2
      let q := m1 * 2 ^ k / m2
      let r := m1 * 2 ^ k % m2
      (.fin (n1 ^^ n2) (2 * q + (if r = 0 then 0 else 1)) (e1 - e2 - k - 1), false)
  | .inf n1, .fin n2 _ _ => (.inf (n1 ^^ n2), false)
  | .fin n1 _ _, .inf n2 => (.fin (n1 ^^ n2) 0 0, false)
  | .inf _, .inf _ => (.nan true, false)
  | a, b => (Num.nanOf a b, false)

/-- Integer square root by bits, most significant first. -/
def isqrtAux (n : Nat) : Nat → Nat → Nat
  | 0, r => r
  | k + 1, r =>
    let r' := r + 2 ^ k
    isqrtAux n k (if r' * r' ≤ n then r' else r)
def isqrt (n : Nat) : Nat := isqrtAux n (Nat.log2 n / 2 + 1) 0

/-- Square root with a sticky last bit; below −0 it is NaN (R113), and √−0 is −0. -/
def Num.sqrt : Num → Num
  | .nan s => .nan s
  | .inf n => if n then .nan true else .inf false
  | .fin n m e =>
    if m = 0 then .fin n 0 0
    else if n then .nan true
    else
      let m2 := if e % 2 = 0 then m else 2 * m
      let e2 := if e % 2 = 0 then e else e - 1
      let v := m2 * 2 ^ 200
      let r := isqrt v
      .fin false (2 * r + (if r * r = v then 0 else 1)) (e2 / 2 - 101)

/-- Order of two values that are not NaN: −1, 0 or 1. −0 equals +0. -/
def Num.cmp (a b : Num) : Int :=
  match a, b with
  | .inf n1, .inf n2 => if n1 = n2 then 0 else if n1 then -1 else 1
  | .inf n, _ => if n then -1 else 1
  | _, .inf n => if n then 1 else -1
  | .fin n1 m1 e1, .fin n2 m2 e2 =>
    let e := min e1 e2
    let x : Int := (m1 * 2 ^ (e1 - e).toNat : Nat)
    let y : Int := (m2 * 2 ^ (e2 - e).toNat : Nat)
    let x := if n1 then -x else x
    let y := if n2 then -y else y
    if x < y then -1 else if x = y then 0 else 1
  | _, _ => 0

/-- minimum and maximum of IEEE 754-2019: NaN if either is; −0 below +0 (R175). -/
def Num.min (a b : Num) : Num :=
  if a.isNan || b.isNan then Num.nanOf a b
  else if a.cmp b < 0 then a
  else if a.cmp b = 0 then (if a.isNeg then a else b)
  else b
def Num.max (a b : Num) : Num :=
  if a.isNan || b.isNan then Num.nanOf a b
  else if a.cmp b > 0 then a
  else if a.cmp b = 0 then (if a.isNeg then b else a)
  else b

-- ---------------------------------------------------------------- BS4 blocks (R93 to R95, R105)

/-- Byte `i` of a list of bytes; 0 beyond its end. -/
def byteAt (bs : List Nat) (i : Nat) : Nat := bs.getD i 0

/-- Element `j` of the BS4 block whose 9 bytes begin at `o` (R93). -/
def bs4Elem (bs : List Nat) (o j : Nat) : Num :=
  let scale := byteAt bs o
  if scale = 0xFF then .nan false
  else
    let b := byteAt bs (o + 1 + j / 2)
    let c := if j % 2 = 0 then b % 16 else b / 16 % 16
    match Fmt.decode .bs4 c with
    | .fin n m e => .fin n m (e + scale - 127)
    | x => x

/-- Greatest magnitude of a list of finite values, as its leading exponent; none when all are zero. -/
def maxLead : List Num → Option Int
  | [] => none
  | .fin _ m e :: xs =>
    match maxLead xs with
    | none => if m = 0 then none else some (lead m e)
    | some l => some (if m = 0 then l else max l (lead m e))
  | _ :: xs => maxLead xs

/-- The block scale of R105; a block that holds an infinity takes 254 (R643, LIM-01). -/
def bs4Scale (xs : List Num) : Nat :=
  if xs.any (fun x => match x with | .inf _ => true | _ => false) then 254
  else match maxLead xs with
    | none => 127
    | some l => (max 0 (min 254 (l - 2 + 127))).toNat

/-- The E2M1 code of one element under a scale, rounded once (R105); an infinity is 6 × the block scale. -/
def bs4Code (scale : Nat) (x : Num) : Nat × Ev :=
  match x with
  | .fin n m e => Fmt.encode .bs4 {} (.fin n m (e + 127 - scale))
  | x => Fmt.encode .bs4 {} x

/-- Pair up nibbles, low one first. -/
def packNibbles : List Nat → List Nat
  | a :: b :: r => (a + 16 * b) :: packNibbles r
  | [a] => [a]
  | [] => []

/-- CAST of 16 elements to a BS4 block (R105): 9 bytes, elements saturated, elements flushed. -/
def bs4Encode (xs : List Num) : List Nat × Nat × Nat :=
  if xs.any Num.isNan then (0xFF :: List.replicate 8 0, 0, 0)
  else
    let scale := bs4Scale xs
    let cs := xs.map (bs4Code scale)
    (scale :: packNibbles (cs.map (·.1)), (cs.filter (·.2.sat)).length, (cs.filter (·.2.flush)).length)

end Sys2Proof.Machine
end

