-- ==== Sys2Proof/Machine/Anchored.lean ====
section
/-! DEFINITION. The ANC128 word and its arithmetic (chapter Anchored accumulation, R131 to R146). An element
is held as its integer; the three special codes are the integers of R131. -/

namespace Sys2Proof.Machine

/-- POS_OVF, NEG_OVF and ANC_NAN as integers (R131). -/
def posOvf : Int := 2 ^ 127 - 1
def negOvf : Int := -(2 ^ 127 - 1)
def ancNan : Int := -(2 ^ 127)

def ancSpecial (x : Int) : Bool := x == posOvf || x == negOvf || x == ancNan

/-- An anchor in the range of R132. -/
def anchorOk (a : Int) : Bool := decide (-320 ≤ a) && decide (a ≤ 192)

/-- A term on its way to an element (R134): special, or a finite integer of any size. -/
inductive Term where
  | nan | pos | neg
  | fin (q : Int)
  deriving DecidableEq, Repr

/-- An element, or a stored element, as a term: special exactly when it holds a code of R131 (R135). -/
def Term.ofElem (x : Int) : Term :=
  if x = ancNan then .nan else if x = posOvf then .pos else if x = negOvf then .neg else .fin x

/-- A product rounded once onto the grid of multiples of 2^A (R134), and whether it was flushed. -/
def ancTerm (anchor : Int) (p : Num) : Term × Bool :=
  match p with
  | .nan _ => (.nan, false)
  | .inf n => (if n then .neg else .pos, false)
  | .fin n m e =>
    let q := (roundEven m (e - anchor)).1
    (.fin (if n then -(q : Int) else q), q == 0 && m != 0)

def Term.val : Term → Int
  | .fin q => q
  | _ => 0

/-- anc_add (R135): the new element and whether a finite sum saturated. -/
def ancAdd (x : Int) (terms : List Term) : Int × Bool :=
  let all := Term.ofElem x :: terms
  if all.contains .nan then (ancNan, false)
  else if all.contains .pos && all.contains .neg then (ancNan, false)
  else if all.contains .pos then (posOvf, false)
  else if all.contains .neg then (negOvf, false)
  else
    let s := (all.map Term.val).sum
    if s ≥ 2 ^ 127 - 1 then (posOvf, true)
    else if s ≤ -(2 ^ 127 - 1) then (negOvf, true)
    else (s, false)

/-- The value that an element folds to (R146). -/
def ancNum (anchor x : Int) : Num :=
  if x = ancNan then .nan false
  else if x = posOvf then .inf false
  else if x = negOvf then .inf true
  else .fin (decide (x < 0)) x.natAbs anchor

/-- The 128-bit code of an element, and the element of a code. -/
def ancCode (x : Int) : Nat := ofInt 128 x
def ancOfCode (c : Nat) : Int := toInt 128 c

-- ---------------------------------------------------------------- scan entries (R141)

/-- What a scan has seen. -/
structure Scan where
  hasNan : Bool := false
  hasInf : Bool := false
  emax : Option Int := none
  deriving DecidableEq, Repr

def maxOpt : Option Int → Option Int → Option Int
  | none, b => b
  | a, none => a
  | some a, some b => some (max a b)

def Scan.join (a b : Scan) : Scan := ⟨a.hasNan || b.hasNan, a.hasInf || b.hasInf, maxOpt a.emax b.emax⟩

/-- One element of a tensor. -/
def Scan.ofNum : Num → Scan
  | .nan _ => { hasNan := true }
  | .inf _ => { hasInf := true }
  | .fin _ m e => { emax := if m = 0 then none else some (lead m e) }

/-- One element of an anchored set: A plus the position of the most significant bit. -/
def Scan.ofAnc (anchor x : Int) : Scan :=
  if x = ancNan then { hasNan := true }
  else if ancSpecial x then { hasInf := true }
  else { emax := if x = 0 then none else some (anchor + Nat.log2 x.natAbs) }

def Scan.all (xs : List Scan) : Scan := xs.foldr Scan.join {}

/-- The 32-bit scan entry. -/
def Scan.entry (s : Scan) : Nat :=
  at_ 31 1 (b2n s.hasNan) + at_ 30 1 (b2n s.hasInf)
  + (match s.emax with | none => 0x8000 | some e => ofInt 16 e)

-- ---------------------------------------------------------------- anchored blocks (R144)

/-- Little-endian bytes of a value (R9). -/
def leBytes : (n v : Nat) → List Nat
  | 0, _ => []
  | n + 1, v => v % 256 :: leBytes n (v / 256)

/-- The value of little-endian bytes. -/
def leVal : List Nat → Nat
  | [] => 0
  | b :: bs => b + 256 * leVal bs

def satCount (n : Nat) : Nat := min n 65535

/-- The header of an anchored block. -/
def ancHeader (anchor : Int) (xs : List Int) : Nat :=
  at_ 0 16 0xA128 + at_ 16 8 0x01 + at_ 32 16 (ofInt 16 anchor)
  + at_ 48 16 (satCount (xs.filter (fun x => x == posOvf || x == negOvf)).length)
  + at_ 64 16 (satCount (xs.filter (fun x => x == ancNan)).length)

/-- The 16,448 bytes of an anchored block. -/
def ancBlock (anchor : Int) (xs : List Int) : List Nat :=
  leBytes 64 (ancHeader anchor xs) ++ (xs.map (fun x => leBytes 16 (ancCode x))).flatten

/-- Whether MAGIC, VERSION and the reserved header fields are as given (R145); NAN_COUNT and OVF_COUNT are
not read. -/
def ancHeaderOk (h : Nat) : Bool :=
  fld h 0 16 == 0xA128 && fld h 16 8 == 1 && fld h 24 8 == 0 && fld h 80 432 == 0

def ancHeaderAnchor (h : Nat) : Int := toInt 16 (fld h 32 16)

/-- The elements of a block's bytes after its header. -/
def ancElems (bs : List Nat) : List Int :=
  (List.range 1024).map (fun i => ancOfCode (leVal ((bs.drop (64 + 16 * i)).take 16)))

end Sys2Proof.Machine
end

