-- ==== Sys2Proof/Machine/SMap.lean ====
section
/-! DEFINITION. Sparse stores in ONE canonical form: a list of (key, value) pairs with strictly rising
keys that lists no key whose value is the default `d`. Equal stores are equal data. Memory bytes,
poison bits, tiles, sites, queues and dictionary values are all held this way. -/

namespace Sys2Proof.Machine

/-- A sparse store: pairs of a key and a value that is not the default. -/
abbrev SMap (α : Type) := List (Nat × α)

namespace SMap

/-- The value at key `k`; an unlisted key reads as `d`. -/
def get {α : Type} (d : α) : SMap α → Nat → α
  | [], _ => d
  | (j, v) :: m, k => if j = k then v else get d m k

/-- Leave out the entry of key `k`. -/
def erase {α : Type} (m : SMap α) (k : Nat) : SMap α := m.filter (fun e => e.1 != k)

/-- Put an entry where its key belongs. -/
def insert {α : Type} : SMap α → Nat → α → SMap α
  | [], k, v => [(k, v)]
  | (j, w) :: m, k, v => if k < j then (k, v) :: (j, w) :: m else (j, w) :: insert m k v

/-- Write `v` at key `k`, keeping the canonical form: writing the default removes the entry. -/
def set {α : Type} [DecidableEq α] (d : α) (m : SMap α) (k : Nat) (v : α) : SMap α :=
  if v = d then erase m k else insert (erase m k) k v

/-- Apply `f` to the value at key `k`. -/
def upd {α : Type} [DecidableEq α] (d : α) (m : SMap α) (k : Nat) (f : α → α) : SMap α :=
  set d m k (f (get d m k))

/-- Every listed key is above `b`, keys rise strictly, no value is the default. -/
def wfFrom {α : Type} [DecidableEq α] (d : α) : Option Nat → SMap α → Bool
  | _, [] => true
  | b, (j, v) :: m => (match b with | none => true | some k => decide (k < j)) && decide (v ≠ d) && wfFrom d (some j) m

/-- The canonical form. -/
def wf {α : Type} [DecidableEq α] (d : α) (m : SMap α) : Bool := wfFrom d none m

/-- Drop every entry whose key satisfies `p`: those keys read as the default again. -/
def clear {α : Type} (p : Nat → Bool) (m : SMap α) : SMap α := m.filter (fun e => !p e.1)

end SMap

end Sys2Proof.Machine
end

