-- ==== Sys2Proof/Machine/TileState.lean ====
section
/-! DEFINITION. The state of one tile and of what it exchanges with its die: card slots, queues, send
channels, stream ports, arrays, tile-ops in flight (chapters The tile, Tile-op reference, The warp
network and message channels, Pattern cards and sections). Every field's default is its reset value. -/

namespace Sys2Proof.Machine

/-- The status codes of R20 and R163, with those the chapters add (R269 CLAIM, R334 BAD_GRAPH, R493 RETIRED). -/
inductive Status where
  | ok | closed | fenced | poison | nackReset | checkFail | peerReset | late | queueStall | joinStall
  | hang | discardOld | badOp | epoch | format | accMode | anchor | bounds | window | cardSlot
  | claim | badGraph | retired
  deriving DecidableEq, Repr

/-- The encoding of a status in every record that carries one (R163, R269, R334, R493). -/
def Status.code : Status → Nat
  | .ok => 0x00 | .closed => 0x01 | .fenced => 0x02 | .poison => 0x03 | .nackReset => 0x04
  | .checkFail => 0x05 | .peerReset => 0x06 | .late => 0x07 | .queueStall => 0x08 | .joinStall => 0x09
  | .hang => 0x0A | .discardOld => 0x0B | .badOp => 0x10 | .epoch => 0x11 | .format => 0x12
  | .accMode => 0x13 | .anchor => 0x14 | .bounds => 0x15 | .window => 0x16 | .cardSlot => 0x17
  | .claim => 0x18 | .badGraph => 0x19 | .retired => 0x1A

/-- A predicate register: TRUE, FALSE or VOID (R159). -/
inductive Pred where
  | true_ | false_ | void
  deriving DecidableEq, Repr

/-- A queue descriptor (R275) with the poison bit of its line (R211). -/
structure QDesc where
  word : BitVec 256 := 0
  poison : Bool := false
  deriving DecidableEq, Repr

/-- A 64-byte line: its bytes as one number, byte 0 least significant (R9), and its poison bit (R211). -/
structure Line where
  data : Nat := 0
  poison : Bool := false
  deriving DecidableEq, Repr

/-- The STATE of a card slot (R297). -/
inductive SlotSt where
  | empty | loading | loaded | current | finished | halted
  deriving DecidableEq, Repr

def SlotSt.code : SlotSt → Nat
  | .empty => 0 | .loading => 1 | .loaded => 2 | .current => 3 | .finished => 4 | .halted => 5

/-- A card that has been loaded into the slot (R264). -/
def SlotSt.isLoaded : SlotSt → Bool
  | .empty | .loading => false
  | _ => true

/-- PEER of a send channel: the last notice from the sink (R274). -/
inductive Peer where
  | open_ | closed | fenced | paused
  deriving DecidableEq, Repr

def Peer.code : Peer → Nat
  | .open_ => 0 | .closed => 1 | .fenced => 2 | .paused => 3

/-- Send channel c of a card slot: SC_CFG, SC_STATE, SC_TOTALS (R274), the outstanding count of R278,
the sequence number of R275 and the transmit buffer of R276 (two descriptors). -/
structure SendChan where
  cfg : W64 := 0
  peer : Peer := .open_
  credits : Nat := 0
  pending : Nat := 0
  out : Nat := 0
  seq : W32 := 0
  sent : W32 := 0
  spilled : W32 := 0
  tx : List QDesc := []
  /-- PEER as it was before CHAN_PAUSE (R291). -/
  peerSaved : Peer := .open_
  /-- frame up to which credits of the previous card's epoch are accepted, and that epoch (R312). -/
  graceUntil : Nat := 0
  graceEpoch : Nat := 0
  deriving DecidableEq, Repr

/-- The STATE of a queue (R273). -/
inductive QSt where
  | idle | open_ | closed | fenced
  deriving DecidableEq, Repr

def QSt.code : QSt → Nat
  | .idle => 0 | .open_ => 1 | .closed => 2 | .fenced => 3

/-- Queue q: Q_CFG, Q_RING, Q_STATE, Q_TOTALS (R273) and its descriptors. The ring's contents lie in
memory at RING_BASE; `ringHead` is the index of its oldest descriptor. -/
structure Queue where
  cfg : W64 := 0
  ringCfg : W64 := 0
  st : QSt := .idle
  /-- STATE before a selvedge or a test slice fenced the queue (R289). -/
  stSaved : QSt := .idle
  items : List QDesc := []
  ringHead : Nat := 0
  ringCount : Nat := 0
  reserved : Nat := 0
  arrived : W32 := 0
  discarded : W32 := 0
  /-- a JOIN_STALL has named this queue as F and no token has left it since (R288) -/
  joinNamed : Bool := false
  /-- epoch of the card that was current when the queue was last configured or dropped, which its returns carry while its
  context has no current card on the tile (R312) -/
  lastEpoch : Nat := 0
  /-- a rehearsed stall keeps the queue from returning credits, and those it holds back (R521) -/
  rehStall : Bool := false
  heldCredits : Nat := 0
  deriving DecidableEq, Repr

/-- Stream port s: SP_STATE (R284) and its landing buffer of 512 lines. -/
structure StreamPort where
  ctx : Nat := 0
  circuit : Nat := 0
  streamer : Nat := 0
  valid : Bool := false
  paused : Bool := false
  /-- credits that the port's streamer holds, for its 512 lines (R284, R311) -/
  credits : Nat := 0
  lines : List Line := []
  deriving DecidableEq, Repr

/-- Where a switch of a card stands (R307, R309). -/
inductive SwPhase where
  | none
  /-- waiting until the old card is ready (R307) -/
  | waiting
  /-- ARRIVE has been sent (R309 step 1) -/
  | arrived
  deriving DecidableEq, Repr

/-- Card slot s: SLOT_STATE (R297), SLOT_HEADER, the items of R293 and the progress registers of R85. -/
structure Slot where
  st : SlotSt := .empty
  ctx : Nat := 0
  gen : Nat := 0
  epoch : Nat := 0
  cardMatch : Nat := 0
  swPhase : SwPhase := .none
  swCut : Bool := false
  swTarget : Nat := 0
  swWait : Nat := 0
  /-- the pending switch is a section switch (R319) and not one of a CARD tile-op -/
  swSection : Bool := false
  loadStatus : Status := .ok
  pass : Nat := 0
  header : W512 := 0
  prog : List W512 := []
  routes : SMap Nat := []
  /-- 1 + the site whose router holds these entries, 0 where that is the tile's own: a re-placed tile's cards leave theirs (R35) -/
  home : Nat := 0
  /-- route entries that the darner has written for the card's circuits (R491, R495): key site * 80 + output port * 16 + pick,
  value 1 + the entry -/
  darned : SMap Nat := []
  queueImgs : SMap Nat := []
  ringImgs : SMap Nat := []
  chanImgs : SMap Nat := []
  streamImgs : SMap Nat := []
  syncs : SMap Nat := []
  /-- the queue, ring, send-channel and stream-port images as the card gives them, those that configure nothing too (R302) -/
  wiring : List Nat := []
  streamers : List (BitVec 256) := []
  preds : List Pred := List.replicate 8 .true_
  /-- next descriptor to issue, and whether the last pass has been issued -/
  pc : Nat := 0
  issuedAll : Bool := false
  retired : W32 := 0
  beat : W32 := 0
  sent : W32 := 0
  received : W32 := 0
  /-- data tile-ops numbered since the card's load (R477) -/
  dataOps : Nat := 0
  /-- the descriptor that halted the card (R383) and its status -/
  haltDesc : W512 := 0
  haltStatus : Status := .ok
  /-- its stall cycles, where it retired (R383) -/
  haltStall : Option Nat := none
  chans : SMap SendChan := []
  /-- address of the image and the node whose card this is, while one is loaded (R300, R339) -/
  image : Nat := 0
  node : Nat := 0
  /-- milliseconds the card's progress registers have not changed, the values last seen, and whether a
  card HANG was posted in this episode (R386) -/
  stillMs : Nat := 0
  lastOps : Nat := 0
  lastTokens : Nat := 0
  hangPosted : Bool := false
  /-- a rehearsed hang keeps the card from issuing (R521) -/
  rehHang : Bool := false
  deriving DecidableEq, Repr

/-- The type a FLAT set carries (R168). -/
inductive AccTy where
  | none | fp32 | int32
  deriving DecidableEq, Repr

/-- One accumulator set: 16 x 64 elements (key 64 i + j), the 81 checksum entries (key 0-63 column sums,
64-79 row sums, 80 the total), the anchor of an ANCHORED set, K_c and the format class of R468. -/
structure AccSet where
  ty : AccTy := .none
  elems : SMap Nat := []
  sums : SMap Nat := []
  anchor : Int := 0
  poison : Bool := false
  kc : Nat := 0
  /-- FP8 or BS4 inputs were accumulated: T = 12 in R468 -/
  narrow : Bool := false
  /-- elements counted saturated in INT8 mode (R469) -/
  satElems : SMap Bool := []
  deriving DecidableEq, Repr

/-- One MAC array: its configuration and sets (R73), its A- and B-buffer bytes and the poison of their
64-byte lines, and how many tile-ops hold copies in the rollback store (R470). -/
structure ArrayU where
  anchored : Bool := false
  sets : SMap AccSet := []
  abuf : SMap Nat := []
  bbuf : SMap Nat := []
  apoison : SMap Bool := []
  bpoison : SMap Bool := []
  deriving DecidableEq, Repr

/-- A location compared for hazards (R78): `kind` 0 A-buffer, 1 B-buffer, 2 set, 3 tile-memory line,
4 queue, 5 predicate register, 6 send channel; `unit` the array or slot; the keys `lo` to `hi`. -/
structure HLoc where
  kind : Nat
  unit : Nat
  lo : Nat
  hi : Nat
  deriving DecidableEq, Repr

/-- The engines of R76. -/
inductive Engine where
  | array0 | array1 | vector | queueUnit | controller
  deriving DecidableEq, Repr

/-- A tile-op's place in its engine (R77). -/
inductive OpPhase where
  | waiting | executing | done
  deriving DecidableEq, Repr

/-- The comparison of a tile-op (R70, R160, R471). -/
inductive CmpSt where
  | none | pending | passed | failed
  deriving DecidableEq, Repr

/-- A tile-op in flight, from issue to retirement (R77), with what its completion record will carry (R162). -/
structure InFlight where
  id : Nat := 0
  slot : Nat := 0
  desc : W512 := 0
  engine : Engine := .controller
  phase : OpPhase := .executing
  status : Status := .ok
  detail : Nat := 0
  /-- the effect has been applied to the tile; false while operands are still on their way -/
  applied : Bool := true
  /-- what a RECV, SEND or SELECT does with its queues and predicate register is still to be done: it waits in
  its engine, blocked or not yet begun (R77, R182 to R184) -/
  todo : Bool := false
  voided : Bool := false
  dip : Bool := false
  forced : Bool := false
  hold : Bool := false
  cmp : CmpSt := .none
  checkResult : Nat := 0
  mismatches : Nat := 0
  reexec : Bool := false
  reexecutable : Bool := true
  poisonOut : Bool := false
  /-- QUEUE_STALL or JOIN_STALL was raised while it was blocked (R162) -/
  stallRaised : Bool := false
  voidToken : Bool := false
  spilled : Bool := false
  sat : Nat := 0
  flush : Nat := 0
  ieee : Nat := 0
  reads : List HLoc := []
  writes : List HLoc := []
  /-- stream lines still to be taken from a stream port, per port, and the lines collected (R284) -/
  streamNeed : Nat := 0
  streamPort : Nat := 0
  streamNeedB : Nat := 0
  streamPortB : Nat := 0
  linesA : List Line := []
  linesB : List Line := []
  /-- weft accesses not yet answered, and the lines their reads returned, by part number (R187) -/
  awaiting : Nat := 0
  readLines : SMap Line := []
  accFailed : Bool := false
  /-- the set copied into the rollback store before the first k-step (R470), with its array and number -/
  rollback : Option (Nat × Nat × AccSet) := none
  /-- the tile-op is selected for replay (R477), and the digest awaited -/
  replay : Bool := false
  /-- 1 + the site of its replay tile, 0 where it has none (R478) -/
  replayAt : Nat := 0
  replayDone : Bool := true
  /-- the poisoned line consumed, or 0, and its origin, for the POISON event (R485) -/
  poisonAddr : Nat := 0
  poisonOrigin : Nat := 1
  /-- a SYNC waiting for its group's release, or a CARD waiting for its switch -/
  syncWait : Bool := false
  /-- a SYNC GROUP whose arrival has reached the barrier, and whose group is complete (R186) -/
  arrived : Bool := false
  syncGo : Bool := false
  /-- the tile-op failed a check of R158 and never issued -/
  rejected : Bool := false
  /-- effective level at issue (R466) -/
  level : Nat := 0
  /-- the first digest of the outputs, and the replay tile's (R477) -/
  outDigest : Option Nat := none
  replayDigest : Option Nat := none
  /-- what failed: 1 checksum, 2 replay, 3 twin (R476) -/
  failKind : Nat := 0
  /-- its comparison was made to mismatch by a rehearsal (R521) -/
  reh : Bool := false
  /-- the retired tile-ops, comparison still to be made, whose destination it read (R473) -/
  derived : List Nat := []
  /-- the descriptor a SEND or CHOOSE_Q has put into the transmit buffer, with its channel -/
  sentTo : Option (Nat × QDesc) := none
  deriving DecidableEq, Repr

/-- A retired tile-op whose comparison is still to be made, its outputs released (R79, R472): what its completion
record was written from, and whether it was written. -/
structure Check where
  op : InFlight := {}
  seq : Nat := 0
  cycle : Nat := 0
  epoch : Nat := 0
  stalls : List (Nat × Nat) := []
  written : Bool := false
  deriving DecidableEq, Repr

/-- One bank of tile memory: TILE_BANK_OWNER entry (R201) and the zeroing of R203. -/
structure Bank where
  valid : Bool := false
  ctx : Nat := 0
  zeroing : Bool := false
  deriving DecidableEq, Repr

/-- One line of the gather buffer: the tile-memory line it holds and whether it is dirty (R197). -/
structure GbLine where
  line : Nat
  dirty : Bool
  deriving DecidableEq, Repr

/-- A logical tile: what moves with it at a re-placement (R492 step 5). -/
structure Tile where
  slots : SMap Slot := []
  active : Option Nat := none
  queues : SMap Queue := []
  streams : SMap StreamPort := []
  arrays : SMap ArrayU := []
  ops : List InFlight := []
  /-- comparisons outstanding of tile-ops that have retired, oldest first -/
  checks : List Check := []
  nextOp : Nat := 0
  banks : SMap Bank := []
  /-- ACTIVE_MODE of TILE_PORT_MODE: SPLIT in force (R199) -/
  split : Bool := false
  gb : List GbLine := []
  /-- context and generation that last ran on the tile, for the clearing of R83 and R362 -/
  lastCtx : Option (Nat × Nat) := none
  /-- CHAN_PAUSE in force for a re-placement (R291), and issue stopped (R492 step 4) -/
  paused : Bool := false
  stopped : Bool := false
  /-- under an online test slice, its work isolated (R353, R511) -/
  underTest : Bool := false
  /-- the re-placed tile's deaccession is deferred: L2 while it is (R466) -/
  deferredL2 : Bool := false
  /-- comparisons the tile must still report as mismatched (R521 CHECK_MISMATCH) -/
  rehMismatch : Nat := 0
  rehCtx : Nat := 0
  /-- the per-tile counters of 0x8010 by subindex: stall sources 1-9, 0x0A to 0x0D (R80, R81, R193) -/
  counters : SMap Nat := []
  deriving DecidableEq, Repr

end Sys2Proof.Machine
end

