-- ==== Sys2Proof/Machine/CtxState.lean ====
section
/-! DEFINITION. The state of the contexts, of the graph sequencer and of a compute die's networks
(chapters Scratchpads and memory, The weft mesh and the I/O ring, The warp network, The graph
sequencer, Contexts, fencing, hangs and resets, Fabric time). Every field's default is its reset value. -/

namespace Sys2Proof.Machine

/-- STATE of a context (R360). -/
inductive CtxSt where
  | inactive | active | fencing | draining | sampling | clearing | quiet
  deriving DecidableEq, Repr

def CtxSt.code : CtxSt → Nat
  | .inactive => 0 | .active => 1 | .fencing => 2 | .draining => 3 | .sampling => 4 | .clearing => 5 | .quiet => 6

/-- The cause codes of R371. -/
inductive Cause where
  | none | self | admin | hang | poison | partition | flr | hostReset | warm
  deriving DecidableEq, Repr

def Cause.code : Cause → Nat
  | .none => 0 | .self => 1 | .admin => 2 | .hang => 3 | .poison => 4 | .partition => 5 | .flr => 6
  | .hostReset => 7 | .warm => 8

/-- What the sequencer latches at a doorbell: FLUSH_SUB, STRICT (R107), the check level (R465) and the
containment mode (R483). -/
structure Latched where
  flush : Bool := false
  strict : Bool := false
  level : Nat := 0
  contain : Nat := 0
  deriving DecidableEq, Repr

/-- A graph waiting in the submission queue (R332), with the fabric time of its doorbell (R463). -/
structure Submission where
  tag : Nat := 0
  addr : Nat := 0
  latched : Latched := {}
  ftc : Nat := 0
  deriving DecidableEq, Repr

/-- Where a node stands (R321, R335, R338). -/
inductive NodeSt where
  /-- read and checked, not yet in flight -/
  | resident
  /-- launched, or its first card load requested under PRELOAD -/
  | inFlight
  /-- complete, its completion entry waiting for room in the completion queue (R347) -/
  | posting
  deriving DecidableEq, Repr

/-- A resident node (R335) with what its completion entry will carry (R346). -/
structure Node where
  idx : Nat := 0
  die : Nat := 0
  kind : Nat := 0
  st : NodeSt := .resident
  launched : Bool := false
  sect : Nat := 0
  tag : Nat := 0
  preload : Bool := false
  post : Bool := false
  work : Nat := 0
  preds : List Nat := []
  /-- the card list: (tile, image) (R326) -/
  cards : List (Nat × Nat) := []
  /-- the slot each tile's card was loaded into (R339) -/
  slots : SMap Nat := []
  status : Status := .ok
  detail : Nat := 0
  failTile : Nat := 0
  /-- status of the first halt the sequencer saw (R341) -/
  haltStatus : Status := .ok
  haltDetail : Nat := 0
  haltTile : Nat := 0
  ftcLaunch : Nat := 0
  poisonOut : Bool := false
  reexec : Bool := false
  relieved : Bool := false
  replaced : Bool := false
  dip : Bool := false
  /-- last tile of the node whose card finished -/
  lastTile : Nat := 0
  deriving DecidableEq, Repr

/-- A completion entry waiting for room (R347): the entry without PHASE, and the node it frees. -/
structure CqWait where
  entry : Nat := 0
  /-- die and index of the node -/
  node : Option (Nat × Nat) := none
  /-- its graph has ended: the node stays in flight until the entry is written (R338, R347) -/
  past : Bool := false
  /-- the ledger record that follows a GRAPH_DONE entry, or 0 (R462) -/
  ledger : Nat := 0
  deriving DecidableEq, Repr

/-- The running graph of a context (R334 to R343). -/
structure Graph where
  tag : Nat := 0
  addr : Nat := 0
  latched : Latched := {}
  header : W512 := 0
  checked : Bool := false
  ftcDoorbell : Nat := 0
  ftcStart : Nat := 0
  sections : List (BitVec 128) := []
  /-- next node entry each die's sequencer reads -/
  nextRead : SMap Nat := []
  nodes : List Node := []
  done : SMap Bool := []
  /-- completions the other die's sequencer has learned of (R337): key 2 i + die -/
  noticed : SMap Bool := []
  released : SMap Bool := []
  nodesDone : Nat := 0
  /-- per die: 0 no section current, else 1 + index of the current one; and 1 + the section being switched to -/
  curSect : SMap Nat := []
  switching : SMap Nat := []
  failed : Bool := false
  failStatus : Status := .ok
  failDetail : Nat := 0
  failDie : Nat := 0
  failTile : Nat := 0
  finished : Bool := false
  closing : SMap Bool := []
  closed : SMap Bool := []
  /-- gates of the graph: number of its first gate, those opened (key 0 the graph's own, 1 + section) per die -/
  gateBase : Nat := 0
  gatesOpen : SMap Bool := []
  /-- 1 + the fabric time at which the sequencer reached a gate (R454): key 2 * gate + die -/
  gateReached : SMap Nat := []
  ftcGate : Nat := 0
  gateLate : Nat := 0
  -- what the ledger record needs (R463)
  collNs : Nat := 0
  cardsNs : Nat := 0
  cardsSince : Nat := 0
  dEnd : SMap Nat := []
  slowNs : Nat := 0
  slowNode : Nat := 0
  lastNode : Nat := 0
  lastTile : Nat := 0
  lastDie : Nat := 0
  ndcOrder0 : Nat := 0
  ndcTiming0 : Nat := 0
  /-- counts of R463 by the low bit of their field -/
  tally : SMap Nat := []
  rehearsal : Bool := false
  /-- completion entries of die 1's nodes of which die 0's sequencer has not learned (R347) -/
  untold : List CqWait := []
  /-- nodes concerned in a boundary delay (R354): key node index; key 2^24 + 2 section + die a section whose switch was delayed -/
  delayed : SMap Bool := []
  deriving DecidableEq, Repr

/-- A ring queue of the context page: the completion queue, the event queue or the ledger (R345, R462). -/
structure RingQ where
  base : W64 := 0
  enable : Bool := false
  host : Bool := false
  irq : Bool := false
  holdoff : Nat := 0
  log2 : Nat := 4
  tail : W32 := 0
  head : W32 := 0
  deriving DecidableEq, Repr

/-- A context reset under way (R372), with what its vitrine header carries (R382). -/
structure ResetRun where
  cause : Cause := .none
  endsActive : Bool := false
  warm : Bool := false
  rehearsal : Bool := false
  arg0 : Nat := 0
  arg1 : Nat := 0
  ftcTrigger : Nat := 0
  ftcFenced : Nat := 0
  ranges : SMap Nat := []
  seqStatus : Nat := 0
  nacked : Nat := 0
  timedOut : Nat := 0
  discarded : Nat := 0
  drainTimeout : Bool := false
  /-- tile records (R383) as they stood at the selvedge: (die, tile, slot, record) -/
  records : List (Nat × Nat × Nat × Nat) := []
  deriving DecidableEq, Repr

/-- A tile-op of the context completed with POISON and containment has not started (R484): the poisoned
line's local address or 0, the origin of R485, SEQ of the record, and the tile. -/
structure PoisonUse where
  addr : Nat := 0
  origin : Nat := 1
  seq : Nat := 0
  /-- the poison is a rehearsal's (R524) -/
  rehearsal : Bool := false
  die : Nat := 0
  tile : Nat := 0
  slot : Nat := 0
  node : Nat := 0xFFFFFF
  nodeTag : Nat := 0
  deriving DecidableEq, Repr

/-- A context: its registers, windows, grants, sequencer state, launch state and hang detector. -/
structure Ctx where
  st : CtxSt := .inactive
  gen : BitVec 8 := 0
  lastCause : Cause := .none
  resets : BitVec 16 := 0
  reset? : Option ResetRun := none
  numeric : W32 := 0
  cmdStatus : Nat := 0
  windows : SMap Nat := []
  staging : SMap Nat := []
  stagingOn : SMap Bool := []
  heldWindows : SMap Nat := []
  heldWindowOn : SMap Bool := []
  tiles : SMap Nat := []
  slotMask : Nat := 0
  heldTiles : Option (SMap Nat) := none
  heldSlots : Option Nat := none
  vranges : SMap Nat := []
  cq : RingQ := {}
  eq : RingQ := {}
  ledger : RingQ := {}
  ledgerSeq : Nat := 0
  submitRefused : Bool := false
  eqLost : Bool := false
  lastStatus : Status := .ok
  subs : List Submission := []
  graph : Option Graph := none
  cqWait : List CqWait := []
  /-- what was latched at the last doorbell (R107, R465, R483) -/
  latched : Latched := {}
  /-- quotas in force since the last graph start (R357) -/
  residentQuota : Nat := 512
  inflightQuota : Nat := 256
  launchAt : W64 := 0
  stepNs : W32 := 0
  gatesPassed : BitVec 16 := 0
  gateNext : Nat := 0
  -- hang detector (R385 to R388)
  stillMs : Nat := 0
  moved : Bool := false
  stuckPosted : Nat := 0
  /-- this hang has been reported, and the context has not moved since (R387) -/
  hangSaid : Bool := false
  stallKind : Nat := 0
  stallEnd : Nat := 0
  /-- containment has started and its reset has not run (R484) -/
  containing : Bool := false
  poisonUses : List PoisonUse := []
  deriving DecidableEq, Repr

/-- A flit admitted to a circuit and not yet at its sink (R262): a descriptor or a stream line. -/
structure Flit where
  ctx : Nat := 0
  stream : Bool := false
  tile : Nat := 0
  sink : Nat := 0
  word : QDesc := {}
  line : Line := {}
  frame : Nat := 0
  pick : Nat := 0
  srcTile : Nat := 0
  srcChan : Nat := 0
  srcSlot : Nat := 0
  hops : Nat := 0
  deriving DecidableEq, Repr

/-- A credit or notice on its way back along a circuit (R271). `tile` and `chan` name the source; a
stream credit goes to streamer `chan` of the die. -/
structure Credit where
  stream : Bool := false
  ctx : Nat := 0
  tile : Nat := 0
  chan : Nat := 0
  notice : Nat := 0
  epoch : Nat := 0
  circuit : Nat := 0
  count : Nat := 0
  frame : Nat := 0
  deriving DecidableEq, Repr

/-- An arrival counted by the switch unit (R309): the tile, its slot and the target slot. -/
structure Arrival where
  tile : Nat := 0
  slot : Option Nat := none
  target : Option Nat := none
  deriving DecidableEq, Repr

/-- A group of the switch unit: arrivals of a context and group, or of a section switch (R309, R319). -/
structure SwGroup where
  ctx : Nat := 0
  group : Nat := 0
  isSection : Bool := false
  sect : Nat := 0
  closing : Bool := false
  cut : Bool := false
  size : Nat := 1
  arrivals : List Arrival := []
  /-- the last arrival has come and COMMIT names frame F -/
  commit : Option Nat := none
  /-- frame F - 64 has come: the context's sources admit nothing (R309 step 3) -/
  quiet : Bool := false
  deriving DecidableEq, Repr

/-- A stream that a memory streamer serves for a loaded card (R251, R253). -/
structure Stream where
  tile : Nat := 0
  slot : Nat := 0
  ctx : Nat := 0
  desc : BitVec 256 := 0
  fetched : Nat := 0
  buffer : List Line := []
  delivered : Nat := 0
  deriving DecidableEq, Repr

/-- A physical site: island registers (R86), memory error register (R216) and health of the tile there. -/
structure Site where
  vstep : Nat := 0
  fstep : Nat := 0
  /-- how many of the voltage steps in force are die-wide ones, which end with the boot (R487, R498) -/
  ccSteps : Nat := 0
  /-- frequency code in force, below the OPPOINT maximum by this many steps (R88) -/
  fapplied : Nat := 0
  memErr : W64 := 0
  /-- idle state IS0 to IS4 (R546) -/
  idle : Nat := 0
  /-- controller uptime at which the tile last became idle (R547) -/
  idleSince : Nat := 0
  /-- an access refused while the tile was in IS3 has asked for its wake (R549) -/
  wake : Bool := false
  deriving DecidableEq, Repr

/-- One weft routing-table change under way (R245): asked for; written, with the old bank, whose packets are still on their way;
made at start-up or in a warm reset, before the networks run (R243, log entry 74). -/
structure TableSwitch where
  active : Bool := false
  written : Bool := false
  bank : Nat := 0
  boot : Bool := false
  deriving DecidableEq, Repr

/-- A compute die's networks, switch unit and sequencer load state. -/
structure Die where
  frame : Nat := 0
  pickAcc : Nat := 0
  flits : List Flit := []
  credits : List Credit := []
  groups : List SwGroup := []
  streams : SMap (List Stream) := []
  /-- owner of each data pick (R263); key pick, default context 0 -/
  pickOwner : SMap Nat := []
  /-- logical to physical translation: key logical tile, value 1 + site index; 0 unmapped (R58, R60) -/
  l2p : SMap Nat := []
  tilesN : Nat := 0
  spares : List Nat := []
  /-- old sites still forwarding to a re-placed tile (R242): key old site, value 1 + logical tile -/
  forward : SMap Nat := []
  /-- routing-table entries the curator has written (R241): key ((router * 2 + bank) * 353 + entry), value 1 + the entry; every
  other entry is the default one once `tablesOn` says that the default tables are loaded (R243), and VALID 0 before -/
  tables : SMap Nat := []
  tablesOn : Bool := false
  tableBank : Nat := 0
  tableSw : TableSwitch := {}
  /-- routers and links that the table change under way, and each before it, leads around: key as a catalogue address (R53) -/
  routeOut : SMap Bool := []
  /-- routers and links retired while a change waits for its old bank: the next change is theirs -/
  routeNext : SMap Bool := []
  /-- links that leave service whose circuits the darner has not yet led around them (R495) -/
  darnLinks : List Nat := []
  /-- end of the check-level raise after a dip: 0 none, else 1 + the controller uptime at which it ends (R466) -/
  raise : Nat := 0
  /-- raise with no known end: dip stretch, suspect supply, common-cause hold -/
  raiseOpen : SMap Bool := []
  /-- suspended by retraining of the network or held in reset (R392 step 6) -/
  held : Bool := false
  deriving DecidableEq, Repr

/-- Who waits for a weft access: an operand of a tile-op in flight, or nobody. -/
inductive Req where
  | op (die tile id part : Nat)
  | none
  deriving DecidableEq, Repr

/-- Where a weft access stands. -/
inductive AccSt where
  | sent | answered
  deriving DecidableEq, Repr

/-- A weft access under way (R235): `kind` is OP of the header flit, the address is local (R225) when
`device` is the module's own, `data` holds whole lines (WRITE) or one line (WRITE_MASKED, with its mask). -/
structure Access where
  id : Nat := 0
  kind : Nat := 0
  device : Nat := 0
  addr : Nat := 0
  len : Nat := 0
  mask : Nat := 0
  data : List Line := []
  ctx : Nat := 0
  gen : Nat := 0
  die : Nat := 0
  tile : Nat := 0
  req : Req := .none
  st : AccSt := .sent
  status : Status := .ok
  /-- the access waits on held data (R79) and may not be sent yet -/
  held : Bool := false
  /-- issued before the selvedge (R374): its response is discarded and counted -/
  orphan : Bool := false
  /-- SRC_NODE and DEST_NODE of the packet under way, request or response (R235, R242) -/
  src : Nat := 0
  dst : Nat := 0
  /-- TBANK: bit `d` is the bank of die `d` that was active when the packet was injected (R241, R242) -/
  banks : Nat := 0
  /-- the packet was on, or queued for, a link or router that failed hard (R246) -/
  lost : Bool := false
  deriving DecidableEq, Repr

end Sys2Proof.Machine
end

