-- ==== Sys2Proof/Machine/ModState.lean ====
section
/-! DEFINITION. The state of what surrounds the compute dies: the Varoa fabric, fabric time, the curator,
self-test and rehearsal, supplies and power states, the host ports, the HBM stacks, the management port,
the dictionary and the serial monitor (chapters The Varoa fabric to Serial monitor). Every field's default
is its reset value. -/

namespace Sys2Proof.Machine

-- ---------------------------------------------------------------- The Varoa fabric

/-- STATE of a Varoa port (R408). -/
inductive PortSt where
  | down | training | up | degraded | retired | absent
  deriving DecidableEq, Repr

def PortSt.code : PortSt → Nat
  | .down => 0 | .training => 1 | .up => 2 | .degraded => 3 | .retired => 4 | .absent => 5

/-- A flit on a Varoa link: the header of the packet it belongs to, HEAD, TAIL and POISON of FLIT_FLAGS, its 64 bytes (R401, R415). -/
structure VaroaFlit where
  hdr : Nat := 0
  head : Bool := false
  tail : Bool := false
  poison : Bool := false
  data : Nat := 0
  deriving DecidableEq, Repr

/-- A frame of the replay buffer (R401, R403): SEQ, its flits, the credits it returns (8 × class + virtual channel, flits). -/
structure VaroaFrame where
  seq : Nat := 0
  flits : List VaroaFlit := []
  credits : List (Nat × Nat) := []
  deriving DecidableEq, Repr

/-- A packet that waits at its output port (R420): the port it came in by, its header with the virtual channel it came on, that on
which it leaves, its data. -/
structure TxPacket where
  inPort : Option Nat := none
  header : Nat := 0
  vc : Nat := 0
  lines : List Line := []
  deriving DecidableEq, Repr

/-- A Varoa port: PORT_STATUS (R408), its link layer (R401 to R404) and its time exchange (R445). -/
structure Port where
  st : PortSt := .down
  width : Nat := 0
  reason : Nat := 0
  peerPort : Nat := 0
  peerDevice : Nat := 0
  fibreM : Nat := 0
  wlGood : Nat := 0
  /-- link-up is running: HELLO frames are sent every 1 ms (R406) -/
  linkUp : Bool := false
  /-- the last HELLO received: 1 + its STAMP less the local time of its receipt, modulo 2^32; 0 none (R406) -/
  echo : Nat := 0
  /-- highest SEQ received in order, next SEQ to send (R401; log entry 76) -/
  rxSeq : Nat := 0
  txSeq : Nat := 1
  /-- resends of the frame at the head of the replay buffer (R404) -/
  resends : Nat := 0
  /-- frames sent and not yet acknowledged, oldest first (R403) -/
  replay : List VaroaFrame := []
  /-- packets that wait for this output, and the flits to come of the one being sent (R402, R420) -/
  waiting : List TxPacket := []
  sending : List VaroaFlit := []
  /-- frames sent since the last that carried CTRL (R420) -/
  sinceCtrl : Nat := 63
  /-- by 8 × class + virtual channel: flits in the far end's buffers, and credits not yet returned to it (R402) -/
  used : SMap Nat := []
  owed : SMap Nat := []
  /-- the packet whose flits arrive: its header and the lines so far -/
  arriving : Option (Nat × List Line) := none
  /-- held down by a rehearsed LINK_DROP (R521) -/
  rehDown : Bool := false
  /-- wavelengths switched off in IS4 (R550) -/
  dimmed : Bool := false
  /-- loopback passed at the last check, receive power good (R517) -/
  loopFail : Bool := false
  -- fabric time over this port (R444 to R449)
  ests : List Int := []
  delay : Nat := 0
  nSync : Bool := false
  nDist : Nat := 255
  nTime : Nat := 0
  /-- the offset exceeded 50 ns and is not yet back within 5 ns for 1 s, and 1 + the time since when it has been (R449) -/
  alarm : Bool := false
  calmSince : Nat := 0
  /-- the port has not been UP since the module reset -/
  neverUp : Bool := true
  deriving DecidableEq, Repr

/-- A flow's transfer admitted and not yet covered (R424, R426). -/
structure Transfer where
  seq : Nat := 0
  birth : Nat := 0
  collId : Nat := 0
  reported : Bool := false
  deriving DecidableEq, Repr

/-- A flow of the source (R422) with its token bucket in thousandths of a byte (R424), the transfers
under way, and as destination the highest FLOW_SEQ delivered in order (R426). -/
structure Flow where
  entry : BitVec 128 := 0
  bucket : Nat := 0
  nextSeq : Nat := 0
  transfers : List Transfer := []
  /-- packets of the engines that wait for tokens, oldest first: header and data (R424) -/
  waiting : List (Nat × List Line) := []
  deriving DecidableEq, Repr

/-- A flow seen at its destination: the next FLOW_SEQ in order, DELIVERED owed (R426). -/
structure RxFlow where
  src : Nat := 0
  flow : Nat := 0
  highest : Nat := 0
  owed : Bool := false
  deriving DecidableEq, Repr

/-- A remote access that the requester's I/O die holds (R419). -/
structure Remote where
  tag : Nat := 0
  acc : Nat := 0
  ctx : Nat := 0
  gen : Nat := 0
  device : Nat := 0
  isRead : Bool := true
  sentAt : Nat := 0
  deriving DecidableEq, Repr

/-- Data that a collective operation sends once its receiver's READY has come (R434): rank, chunk, part (0 a
contribution, 1 a result), lines. -/
structure CollSend where
  rank : Nat := 0
  chunk : Nat := 0
  part : Nat := 0
  lines : List Line := []
  deriving DecidableEq, Repr

/-- A collective operation of an engine (R432 to R438). -/
structure Coll where
  ctx : Nat := 0
  node : Nat := 0
  /-- local address of its descriptor, and the descriptor -/
  addr : Nat := 0
  desc : W512 := 0
  /-- running, or queued behind the engine's 16 operations (R434) -/
  running : Bool := false
  members : List Nat := []
  /-- ranks whose READY has arrived: 1 + the scratch address (R434) -/
  ready : SMap Nat := []
  /-- ranks whose contribution to the own chunk has come, those held, and the sum so far -/
  arrived : List Nat := []
  held : SMap (List Line) := []
  acc : List Line := []
  /-- chunks of the output in place, and chunks whose sum has been passed on (RING) -/
  landed : SMap Bool := []
  passed : SMap Bool := []
  toSend : List CollSend := []
  poison : Bool := false
  orderCounted : Bool := false
  deriving DecidableEq, Repr

/-- The fabric side of the module. -/
structure Fabric where
  ports : SMap Port := []
  endpoints : SMap Nat := []
  partitions : SMap Nat := []
  flows : SMap Flow := []
  rxFlows : List RxFlow := []
  remotes : List Remote := []
  colls : List Coll := []
  /-- READYs that came before the operation began here: (context, COLL_ID, sending device, scratch address) -/
  earlyReady : List (Nat × Nat × Nat × Nat) := []
  /-- packets of this module that wait for fabric time to be synchronised, oldest first: header without BIRTH_FTC, data (R407) -/
  unsent : List (Nat × List Line) := []
  /-- fail-over in force at the routers: key port role bundle or group link, true while the normal route is lost (R412) -/
  failover : SMap Bool := []
  deriving DecidableEq, Repr

-- ---------------------------------------------------------------- Fabric time

/-- Fabric time of the module: FTC with four fractional bits and FTC_STATUS (R441 to R450). The counters of
the I/O dies agree within 1 ns (R447); the model keeps one. -/
structure FTime where
  /-- in sixteenths of a nanosecond -/
  ftc16 : Nat := 0
  synced : Bool := false
  holdover : Bool := false
  rootDist : Nat := 0xFF
  parents : Nat := 0
  offset : Int := 0
  /-- rate correction in force, in parts per billion, and its accumulator -/
  rate : Int := 0
  rateAcc : Int := 0
  /-- exchanges with a SYNCED neighbour since the first (R446), by port -/
  exchanges : SMap Nat := []
  /-- the last 16 offsets over the slice link of I/O dies a < b, by 4 a + b (R444, R445) -/
  slices : SMap (List Int) := []
  deriving DecidableEq, Repr

-- ---------------------------------------------------------------- Integrity and the curator

/-- A re-placement under way (R492). -/
structure Replacement where
  die : Nat := 0
  tile : Nat := 0
  oldSite : Nat := 0
  newSite : Nat := 0
  /-- the spare has passed its test slice, and the spares that admit no template for some circuit (R490, R491) -/
  spareOk : Bool := false
  refused : List Nat := []
  cause : Nat := 0
  drained : Bool := false
  startNs : Nat := 0
  relief : Bool := false
  exchange : Option Nat := none
  rehearsal : Bool := false
  scoreBefore : Nat := 0
  deriving DecidableEq, Repr

/-- A common-cause hold of a domain (R498): domain 0 and 1 compute dies, 2 VIN_CORE, 3 VIN_IO, 4 to 7 I/O dies. -/
structure Hold where
  domain : Nat := 0
  units : List Nat := []
  /-- controller uptime at which it ends -/
  until_ : Nat := 0
  /-- a rehearsed flag is among its causes (R524) -/
  rehearsal : Bool := false
  deriving DecidableEq, Repr

/-- A field catalogue entry not yet appended (R50, R51): the unit, KIND, REHEARSAL, NO_SPARE and the time of the change. -/
structure OwedEntry where
  unit : Nat := 0
  kind : Nat := 0
  rehearsal : Bool := false
  noSpare : Bool := false
  time : Nat := 0
  deriving DecidableEq, Repr

/-- The curator. Units are keyed by their catalogue address (R53): SUBUNIT 27:24, DIE 23:20, CLASS 19:16, UNIT 15:0. -/
structure Curator where
  /-- health score below 255, as the points missing (R486): default 0 is a healthy unit -/
  lost : SMap Nat := []
  /-- corrected errors and retries not yet making up a point, key unit x 32 + cause -/
  partials : SMap Nat := []
  /-- controller uptime of a unit's last event or recovery (R486) -/
  eventAt : SMap Nat := []
  flagged : SMap Bool := []
  /-- cause of a unit's last flag, plus 256 when it was rehearsed -/
  causeOf : SMap Nat := []
  /-- flags within CC_WINDOW_MS: (unit, time in ns) (R498) -/
  recentFlags : List (Nat × Nat) := []
  retrained : SMap Bool := []
  due : SMap Bool := []
  /-- due units that failed hard (R489) -/
  hard : SMap Bool := []
  deferred : SMap Bool := []
  /-- deaccessions within DEACC_WINDOW_S: (die, time in ns) (R497) -/
  recentDeacc : List (Nat × Nat) := []
  /-- out of service since boot, a rehearsed deaccession included (R52, R524) -/
  retired : SMap Bool := []
  /-- field catalogue entries owed (R51) -/
  pendingAppends : List OwedEntry := []
  holds : List Hold := []
  /-- units that wait for the retest after a common-cause hold (R498) -/
  retests : List Nat := []
  replacements : List Replacement := []
  log : List (BitVec 256) := []
  seq : W32 := 0
  /-- dips of VIN_CORE and VIN_IO within 10 minutes, and supplies marked suspect (R482) -/
  dips : List (Nat × Nat) := []
  /-- SEQ of the DIP records of the stretch in force, whose DURATION_US is still open (R500) -/
  dipSeqs : List Nat := []
  suspect : SMap Bool := []
  /-- suspect supplies that a rehearsed dip has marked (R524) -/
  suspectReh : SMap Bool := []
  /-- where the poison of a line comes from: key 2 * line + (0 a collective output, 1 a rehearsal), value 1 + what the line then held;
  it holds while the line is poisoned and keeps its contents (R485, R524) -/
  poisonFrom : SMap Nat := []
  /-- replay tile of each tile: key die*288 + tile, value 1 + site (R478) -/
  replayOf : SMap Nat := []
  /-- points that rehearsed events took, key unit (R524) -/
  rehLost : SMap Nat := []
  deriving DecidableEq, Repr

-- ---------------------------------------------------------------- Self-test and rehearsal

/-- Where an online test slice of a site stands (R510 to R513). -/
inductive SliceSt where
  | none | due | running | reinit | isolated
  deriving DecidableEq, Repr

/-- Whether a site runs nothing but its test, or has failed it (R84, R511, R514). -/
def SliceSt.testing : SliceSt → Bool
  | .running | .reinit | .isolated => true
  | _ => false

/-- A site's slices: state, grant code and SLICE_LAST (R516). -/
structure SliceRec where
  st : SliceSt := .none
  grant : Nat := 0
  startNs : Nat := 0
  last : BitVec 128 := 0x3 <<< 44
  overdue : Bool := false
  /-- controller uptime at which the last slice ended, and slices completed: the eighth of the patterns and the mode of the next
  (R510, R512) -/
  endNs : Nat := 0
  turn : Nat := 0
  dueSince : Nat := 0
  retest : Bool := false
  rehearsed : Bool := false
  /-- it was granted at a boundary, whose switch it delays (R354) -/
  boundary : Bool := false
  /-- the slice was aborted: the site stays due after its re-initialisation -/
  again : Bool := false
  /-- a rehearsed TILE_FAULT waits for the site's re-initialisation (R521) -/
  rehNext : Bool := false
  deriving DecidableEq, Repr

/-- An injection pending or active (R520 to R523). -/
structure Inject where
  record : BitVec 256 := 0
  active : Bool := false
  mask : Nat := 0
  startFtc : Nat := 0
  /-- controller uptime at which it started -/
  startNs : Nat := 0
  /-- the unit its faults are charged to, by catalogue address (R524) -/
  unit : Nat := 0
  /-- the domain whose duration has run out, its consequences still running (R523) -/
  spent : Bool := false
  deriving DecidableEq, Repr

structure SelfTest where
  slices : SMap SliceRec := []
  sliceFails : List (BitVec 128) := []
  coverage : List (BitVec 128) := []
  fails : List (BitVec 128) := []
  bistMs : Nat := 0
  bistKind : Nat := 0
  bistFailed : Nat := 0
  /-- spare rows substituted for this boot: memory macro, failing row, spare row (R505) -/
  repairs : List (Nat × Nat × Nat) := []
  /-- scratchpad banks (die * 48 + bank) that a BIST has taken out of service for this boot (R505) -/
  spadOut : List Nat := []
  /-- cross-checks passed in a row since the last failure, key rail (R518) -/
  analogue : SMap Bool := []
  analoguePass : SMap Nat := []
  /-- checks failed once and awaiting their retry, key check*2^32 + unit: 1 + the controller uptime of the failure (R517) -/
  retry : SMap Nat := []
  injects : List Inject := []
  rehStatus : W32 := 0
  rehLog : List (BitVec 256) := []
  deriving DecidableEq, Repr

-- ---------------------------------------------------------------- Supplies and power states

/-- STATE of MODULE_STATE (R533). -/
inductive ModSt where
  | standby | booting | ready | warmReset | sleep | held | thermalOff
  deriving DecidableEq, Repr

def ModSt.code : ModSt → Nat
  | .standby => 0 | .booting => 1 | .ready => 2 | .warmReset => 3 | .sleep => 4 | .held => 5 | .thermalOff => 6

/-- How far a compute warm reset has come (R392). -/
inductive WarmSt where
  | none | draining | sampled | bist
  deriving DecidableEq, Repr

structure Power where
  st : ModSt := .standby
  phase : Nat := 0
  /-- the controller runs: VIN_ANA is present -/
  ctrlOn : Bool := false
  ana : Bool := false
  io : Bool := false
  core : Bool := false
  /-- VIN_IO and VIN_CORE are absent (R527); between that and present a supply is neither -/
  ioAbsent : Bool := true
  coreAbsent : Bool := true
  /-- controller uptime at which the later of them became absent (R528) -/
  absentSince : Nat := 0
  anaSince : Nat := 0
  ioSince : Nat := 0
  /-- only the serial monitor runs, from the boot ROM (R535, R620) -/
  romOnly : Bool := false
  /-- start-up follows WAKE: phase 2 does not restart the controller (R537) -/
  waking : Bool := false
  /-- controller firmware, tile and I/O images come from their second copies (R535, R602) -/
  copies : Nat := 0
  stretch : Bool := false
  stretchSince : Nat := 0
  /-- what keeps the stretch: a dip of the supply, a rehearsed one -/
  stretchReal : Bool := false
  stretchReh : Bool := false
  warm : WarmSt := .none
  warmClear : Bool := false
  /-- a module reset has been asked for and has not begun (R395) -/
  resetReq : Bool := false
  /-- that reset was asked for by SLEEP: it stops after the rails are off (R537) -/
  toSleep : Bool := false
  /-- HELD for a wrong order of the supplies: left only when both have been absent for 100 ms (R528) -/
  heldSeq : Bool := false
  /-- array duty below 16, by compute die: 16 - D (R542) -/
  duty : SMap Nat := []
  /-- by compute die, controller uptime of its last step of D, and 1 + that since when D has been 4 under a thermal cause (R542, R544) -/
  dutyAt : SMap Nat := []
  floorSince : SMap Nat := []
  /-- power causes on VIN_CORE and on VIN_IO (R543) -/
  powCore : Bool := false
  powIo : Bool := false
  /-- groups throttled (R541): 0 and 1 compute dies, 2 to 5 I/O dies, 6 to 13 stacks, 14 to 19 regulator groups -/
  hot : SMap Bool := []
  is4 : Bool := false
  /-- 1 + the controller uptime since when the conditions of R550 have held; 0: they do not -/
  calmSince : Nat := 0
  /-- readings in their published F32 form: supplies 0-8, rails from 16, temperatures from 64 (R540, R551) -/
  readings : SMap Nat := []
  uptime : Nat := 0
  /-- ALERT_N is driven low: its state before a module reset, which it keeps until start-up ends (R631) -/
  alert : Bool := false
  /-- controller uptime, 1 added, at the start of the last start-up (key 0) and at the end of each of its phases (R616) -/
  bootTimes : SMap Nat := []
  deriving DecidableEq, Repr

-- ---------------------------------------------------------------- Host ports, HBM

/-- An MSI-X vector of a function (R563): address, data, mask, pending, and the holdoff of its queue (R345). -/
structure Vector_ where
  addr : W64 := 0
  data : W32 := 0
  ctrl : W32 := 1
  pending : Bool := false
  holdoff : Bool := false
  waiting : Bool := false
  deriving DecidableEq, Repr

/-- A function of a host port: mailbox registers and buffers, MSI-X, D3hot, Bus Master Enable. -/
structure Fn where
  reqLen : Nat := 0
  busy : Bool := false
  done : Bool := false
  result : Nat := 0
  respLen : Nat := 0
  req : SMap Nat := []
  resp : SMap Nat := []
  vectors : SMap Vector_ := []
  msixOn : Bool := false
  d3hot : Bool := false
  busMaster : Bool := false
  deriving DecidableEq, Repr

/-- A request of a host function that its port holds until those before it are performed and its address may be reached (R203, R559,
R565, R568, R570): kind 0 a read through BAR4, 1 a write, 2 FetchAdd, 3 Swap, 4 CAS, 5 a write through BAR0; offset and length; the data and
EP of a write; the operands of an AtomicOp. -/
structure HostReq where
  fn : Nat := 0
  kind : Nat := 0
  off : Nat := 0
  len : Nat := 0
  bytes : List Nat := []
  ep : Bool := false
  x : Nat := 0
  cmp : Nat := 0
  deriving DecidableEq, Repr

/-- A host port (R553, R565, R572). Key of `fns`: function 0 to 15. -/
structure HostPort where
  st : PortSt := .down
  speed : Nat := 0
  width : Nat := 0
  flit : Bool := false
  numVfs : Nat := 0
  vfEnable : Bool := false
  perst : Bool := false
  everUp : Bool := false
  fns : SMap Fn := []
  /-- requests that wait, oldest first (R559) -/
  held : List HostReq := []
  deriving DecidableEq, Repr

/-- The HBM stacks and their ports. -/
structure Hbm where
  /-- channels out of the mapping since boot, and fenced in service (R215): key stack*16 + channel -/
  retired : SMap Bool := []
  fenced : SMap Bool := []
  selfRefresh : SMap Bool := []
  /-- pseudo-channels in a refresh interval: key stack*32 + pc, with the mask of contexts already delayed (R568) -/
  refresh : SMap Nat := []
  /-- channels in a retrain pause, and pauses left of a retrain (R570) -/
  pause : SMap Nat := []
  retrainLeft : SMap Nat := []
  trained : Bool := false
  /-- USER_HBM_TRIM as the last training applied it: key stack*16 + channel (R539, R569) -/
  trims : SMap Nat := []
  deriving DecidableEq, Repr

/-- The last atomic to a line (R218): line, function and time in ns. -/
structure LastAtomic where
  line : Nat := 0
  fn : Nat := 0
  at_ : Nat := 0
  deriving DecidableEq, Repr

-- ---------------------------------------------------------------- Management

/-- A message accepted on a key slot, kept in its response cache (R588): REPLAY, TID and tag of the request, the response's
bytes, and the controller uptime at which it was sent. -/
structure Cached where
  replay : Nat := 0
  tid : Nat := 0
  tag : Nat := 0
  resp : List Nat := []
  sentAt : Nat := 0
  deriving DecidableEq, Repr

/-- A key slot (R585) with its replay state (R588) and response cache. -/
structure KeySlot where
  key : BitVec 256 := 0
  mac : Nat := 0
  macBound : Bool := false
  enable : Bool := false
  priv : Nat := 0
  highest : Nat := 0
  floor : Nat := 0
  /-- the value S kept in flash (R588) -/
  stored : Nat := 0
  /-- the last 8 messages accepted, newest first -/
  cache : List Cached := []
  deriving DecidableEq, Repr

/-- A snapshot of a BLOB (R584): who took it, of which object, its bytes, and the controller uptime at which it was last read.
Most recently read first. -/
structure Snapshot where
  id : Nat := 0
  readAt : Nat := 0
  owner : Nat := 0
  index : Nat := 0
  sub : Nat := 0
  bytes : List Nat := []
  deriving DecidableEq, Repr

/-- A Dielfen message waiting for the controller (R583): path 0 segment, 1 mailbox, 2 monitor. -/
structure Message where
  path : Nat := 0
  port : Nat := 0
  fn : Nat := 0
  srcMac : Nat := 0
  auth : Bool := false
  slot : Nat := 0
  priv : Nat := 0
  bytes : List Nat := []
  deriving DecidableEq, Repr

structure Mgmt where
  /-- node ID in force and whether it came from the straps (R574) -/
  nodeId : Nat := 31
  strapped : Bool := true
  straps : Nat := 31
  newNodeId : Option Nat := none
  /-- controller uptime of the write of T1S_NODE_ID that has not yet taken effect (R574) -/
  newNodeAt : Nat := 0
  csma : Bool := false
  clash : Bool := false
  /-- collisions in the module's own transmit opportunity within 1 s, controller uptimes (R575) -/
  collisions : List Nat := []
  /-- unauthenticated frames executed in a second of controller uptime, and that second (R586) -/
  unauthCount : Nat := 0
  unauthSecond : Nat := 0
  keys : SMap KeySlot := []
  queue : List Message := []
  snaps : List Snapshot := []
  nextSnap : BitVec 16 := 0
  /-- object values (RW and RWP) that differ from their default: key (index*256 + sub)*2^20 + element -/
  objs : SMap Nat := []
  /-- counters: the same keys -/
  counts : SMap Nat := []
  deriving DecidableEq, Repr

/-- The serial monitor (R607 to R620). -/
structure Monitor where
  /-- 0 locked, 1 VIEW, 2 OPERATE, 3 ADMIN (MON_STATE) -/
  state : Nat := 0
  slot : Option Nat := none
  baud : Nat := 115200
  /-- the challenge issued and the slot it is for (R612) -/
  challenge : Option (Nat × Nat) := none
  challengeAt : Nat := 0
  /-- failed logins within 60 s, times in ns, and the time until which no challenge is issued (R614) -/
  fails : List Nat := []
  blockedUntil : Nat := 0
  /-- trace: 0 off, 1 accession records, 2 + c events of context c (R618) -/
  trace : Nat := 0
  deriving DecidableEq, Repr

-- ---------------------------------------------------------------- Factory and flash

/-- What final test wrote (R46 to R49, R594 to R601) and the fixed strap-like facts of the module. Fuse bits
are keyed by the unit's catalogue address, as bit 0 DEFECT, bit 1 VARIANT. -/
structure Factory where
  computeDies : Nat := 2
  ioDies : Nat := 4
  stackMask : Nat := 0xFF
  ports : Nat := 0xFFFF
  host1 : Bool := true
  gradeTiles : Nat := 272
  grade : Nat := 0x41
  vendor : Nat := 0
  serial : List Nat := []
  orderCode : List Nat := [0x4C, 0x4D, 0x58, 0x2D, 0x32, 0x43, 0x38, 0x4D, 0x34, 0x4E, 0x2D, 0x41]
  mac : Nat := 0
  fuses : SMap Nat := []
  /-- feature limits lifted by a FUSE entry with VARIANT clear: bit 0 CONTEXTS_EXT, bit 1 FABRIC_EXT (R45, R62) -/
  lifted : Nat := 0
  /-- OPPOINT: voltage in mV and maximum frequency code by site; a site not listed has the factory's common point -/
  oppMv : Nat := 800
  oppCode : Nat := 6
  noOpp : SMap Bool := []
  oppMvOf : SMap Nat := []
  oppCodeOf : SMap Nat := []
  memRepairs : List W64 := []
  /-- SPARE entries: sites as die * 288 + site, in the order of R55 (R48); reset: column 17 of both dies -/
  spareSites : List Nat := (List.range 16).map (fun r => r * 18 + 17) ++ (List.range 16).map (fun r => 288 + r * 18 + 17)
  /-- the 64-byte header, whose layout the manual does not give, and the 96-byte signature (R46); whether it verifies -/
  header : W512 := 0
  signature : BitVec 768 := 0
  signatureOk : Bool := true
  keysProgrammed : Nat := 0xF
  keysRevoked : Nat := 0
  deriving DecidableEq, Repr

/-- One copy of the field catalogue (R50): module serial number and write count of its header, its entries oldest first, and
whether its signature verifies. -/
structure FieldCopy where
  serial : List Nat := []
  writes : W32 := 0
  entries : List (BitVec 128) := []
  ok : Bool := false
  deriving DecidableEq, Repr

/-- The module flash (R50, R63, R592, R487). -/
structure Flash where
  /-- the two copies of the field catalogue (R50); at reset the first is valid and empty, the second unwritten -/
  fieldA : FieldCopy := { ok := true }
  fieldB : FieldCopy := {}
  licences : List (BitVec 1152) := []
  /-- scores and margin steps saved (R487): points lost by unit; steps 16*FSTEP + VSTEP by site -/
  lost : SMap Nat := []
  steps : SMap Nat := []
  /-- RWP values as stored (R592) and writes not yet stored -/
  rwp : SMap Nat := []
  /-- the other of the two copies, the last but one stored, and the number of stores (R592) -/
  rwpOld : SMap Nat := []
  rwpStores : Nat := 0
  dirty : SMap Bool := []
  restore : Bool := false
  /-- LAST_FAULT of MODULE_STATE (R533) -/
  lastFault : Nat := 0
  /-- the module is in THERMAL_OFF, or has lost its supplies there (R544) -/
  thermal : Bool := false
  deriving DecidableEq, Repr

/-- The catalogue as loaded at boot (R55, R64, R604). -/
structure Catalogue where
  state : Nat := 0
  licStatus : Nat := 0xFF
  userContexts : Nat := 4
  fabricDevices : Nat := 4096
  portsOn : Nat := 0
  /-- units the field catalogue held out of service when it was loaded, by unit name (R53) -/
  fieldOut : SMap Bool := []
  distGen : W32 := 0
  deriving DecidableEq, Repr

/-- What leaves the module (R21): host writes and MSI-X, frames on the fibres and the segment, console lines. -/
inductive Output where
  /-- a write to host memory of `len` bytes through port and function (R562) -/
  | hostWrite (port fn addr len data : Nat)
  | msix (port fn vector : Nat) (addr data : Nat)
  /-- the completion of a host request: status 0 success, 1 Completer Abort, 2 Unsupported Request; for each 64-byte line that the
  data comes from, whether EP is set on the TLPs that carry it (R560) -/
  | completion (port fn status : Nat) (data : List Nat) (ep : List Bool)
  /-- an advisory non-fatal error logged in AER (R558, R560): 0 refused, 1 poisoned TLP received -/
  | aer (port fn kind : Nat)
  /-- the Device Readiness Status message of a host port (R553) -/
  | readiness (port : Nat)
  /-- a Varoa frame: header, four flit slots, CRC-32 (R401) -/
  | frame (port header : Nat) (slots : List Nat) (crc : Nat)
  | t1s (dest : Nat) (payload : List Nat)
  /-- the answer to a Dielfen operation: RESULT (R582) and data -/
  | dfAnswer (result : Nat) (data : List Nat)
  | console (line : List String)
  deriving DecidableEq, Repr

end Sys2Proof.Machine
end

