-- ==== Sys2Proof/Machine/State.lean ====
section
/-! DEFINITION. The state of the whole block, with the queue of waiting commands, and State.reset. A
field's default value is its value at reset; `State.reset` is every field at its default: the module with
no supply present (R528), which is where every one of its lives begins. -/

namespace Sys2Proof.Machine

/-- Faults: none. Every command of this block has an effect in every state, so no step stops with a fault;
the one constructor is kept for the interface and nothing raises it. Safe. -/
inductive Fault where
  /-- Raised by nothing. Safe. -/
  | unreachable
  deriving DecidableEq, Repr

/-- Refusals: a command without its meaning. -/
inductive Refusal where
  /-- Raised by an arm of `exec` for a command that has no meaning yet. Safe: the machine stops. -/
  | notModelled (mnemonic : String)
  deriving DecidableEq, Repr

/-- The whole block (R21). -/
structure State where
  factory : Factory := {}
  flash : Flash := {}
  cat : Catalogue := {}
  pwr : Power := {}
  /-- every byte of HBM, shared scratchpad and tile memory, keyed by local address (R225) -/
  mem : List Host.Cell := []
  /-- poisoned 64-byte lines, keyed by local address / 64 (R211) -/
  poison : SMap Bool := []
  /-- logical tiles, key die * 288 + tile -/
  tiles : SMap Tile := []
  /-- physical sites, key die * 288 + row * 18 + column -/
  sites : SMap Site := []
  dies : SMap Die := []
  /-- contexts 1 to 15; context 0 has its own field because its reset value differs (R365) -/
  ctxs : SMap Ctx := []
  ctx0 : Ctx := { st := .active }
  accs : List Access := []
  nextAcc : Nat := 0
  atomics : List LastAtomic := []
  fab : Fabric := {}
  time : FTime := {}
  cur : Curator := {}
  test : SelfTest := {}
  host : SMap HostPort := []
  hbm : Hbm := {}
  mgmt : Mgmt := {}
  mon : Monitor := {}
  /-- copies of the latest vitrine headers, key context (R384) -/
  vheaders : SMap Nat := []
  /-- the model's own: how many free values have been taken (log entry 3) -/
  free : Nat := 0
  /-- what has left the module, newest first (R21) -/
  out : List Output := []
  /-- the commands waiting, first in, first out -/
  pending : List Instr := []
  deriving DecidableEq, Repr

/-- The machine right after reset: no supply present, every register at the value its chapter gives. -/
def State.reset : State := {}

end Sys2Proof.Machine
end

