-- ==== Sys2Proof/Machine/Objects.lean ====
section
/-! DEFINITION. The writable objects of the Dielfen dictionary (R580, R591 to R601): index, subindex, element
size and count, default, privilege, persistence and the range of one element. The read-only objects are
computed where the dictionary is read. -/

namespace Sys2Proof.Machine

/-- A writable object. `priv` 0 VIEW, 1 OPERATE, 2 ADMIN; `lo` to `hi` the values one element accepts. -/
structure ObjDef where
  index : Nat
  sub : Nat
  bytes : Nat
  count : Nat
  dflt : Nat
  persist : Bool
  priv : Nat
  lo : Nat
  hi : Nat
  deriving DecidableEq, Repr

/-- The management objects of 0x1000 to 0x1FFF. -/
def objsMgmt : List ObjDef := [
  ⟨0x1012, 0, 1, 1, 2, true, 2, 0, 2⟩,
  ⟨0x1020, 1, 1, 1, 0xFF, true, 2, 0, 0xFF⟩,
  ⟨0x1020, 2, 1, 1, 8, true, 2, 1, 32⟩,
  ⟨0x1020, 3, 1, 1, 0, true, 2, 0, 255⟩,
  ⟨0x1020, 4, 1, 1, 0x20, true, 2, 0, 255⟩,
  ⟨0x1020, 5, 1, 1, 0, true, 2, 0, 1⟩,
  ⟨0x1021, 1, 2, 1, 20, true, 2, 5, 1000⟩,
  ⟨0x1021, 2, 1, 1, 3, true, 2, 1, 8⟩,
  ⟨0x1021, 3, 2, 1, 200, true, 2, 0, 1000⟩,
  ⟨0x1030, 1, 4, 1, 115200, true, 2, 9600, 3000000⟩,
  ⟨0x1030, 2, 2, 1, 600, true, 2, 0, 3600⟩]

/-- Power, health and memory objects of 0x2000 to 0x4FFF. -/
def objsHealth : List ObjDef := [
  ⟨0x2030, 1, 4, 16, 2, true, 1, 0, 1000000⟩,
  ⟨0x2030, 2, 8, 1, 0, true, 2, 0, 2 ^ 64 - 1⟩,
  ⟨0x3010, 1, 1, 1, 2, true, 2, 0, 2⟩,
  ⟨0x3010, 2, 8, 1, 0x0000C0E00A030401, true, 2, 0, 2 ^ 64 - 1⟩,
  ⟨0x3010, 3, 4, 1, 600, true, 2, 60, 86400⟩,
  ⟨0x3010, 4, 4, 1, 1000, true, 2, 100, 10000⟩,
  ⟨0x3010, 5, 4, 1, 600, true, 2, 60, 86400⟩,
  ⟨0x3011, 1, 1, 16, 1, true, 1, 0, 4⟩,
  ⟨0x3014, 0, 1, 16, 0, true, 2, 0, 2⟩,
  ⟨0x3029, 0, 4, 1, 100, true, 2, 10, 10000⟩,
  ⟨0x4010, 1, 1, 1, 1, true, 2, 0, 1⟩,
  ⟨0x4010, 2, 2, 1, 20, true, 2, 5, 20⟩,
  ⟨0x4010, 3, 1, 1, 9, true, 2, 1, 9⟩,
  ⟨0x4011, 0, 2, 16, 0, false, 1, 0, 65535⟩]

/-- Context, channel and sequencer objects of 0x5000 to 0x5FFF. -/
def objsCtx : List ObjDef := [
  ⟨0x5014, 1, 4, 16, 200, true, 1, 10, 60000⟩,
  ⟨0x5014, 2, 4, 16, 20, true, 1, 1, 60000⟩,
  ⟨0x5014, 3, 1, 16, 1, true, 2, 0, 1⟩,
  ⟨0x5015, 0, 4, 1, 4000, true, 2, 1000, 100000⟩,
  ⟨0x5016, 1, 8, 1, 0, true, 2, 0, 2 ^ 64 - 1⟩,
  ⟨0x5017, 0, 1, 16, 0, true, 2, 0, 1⟩,
  ⟨0x5020, 0, 4, 16, 1000, true, 1, 10, 1000000⟩,
  ⟨0x5022, 0, 8, 2, 0, false, 2, 0, 2 ^ 64 - 1⟩,
  ⟨0x5024, 1, 2, 16, 512, true, 2, 512, 8192⟩,
  ⟨0x5024, 2, 2, 16, 256, true, 2, 1, 4096⟩,
  ⟨0x5024, 3, 2, 1, 10, true, 2, 1, 40⟩]

/-- Fabric and time objects of 0x6000 to 0x6FFF. -/
def objsFabric : List ObjDef := [
  ⟨0x6001, 0, 1, 1, 0, true, 2, 0, 3⟩,
  ⟨0x6002, 0, 4, 1, 0, true, 2, 0, 2 ^ 32 - 1⟩,
  ⟨0x6003, 0, 4, 1, 0, true, 2, 0, 2 ^ 18 - 1⟩,
  ⟨0x6004, 0, 1, 16, 0, true, 2, 0, 0x20⟩,
  ⟨0x6020, 0, 8, 16, 0, false, 2, 0, 2 ^ 64 - 1⟩,
  ⟨0x6021, 0, 16, 16, 0, false, 2, 0, 2 ^ 128 - 1⟩,
  ⟨0x6030, 0, 16, 4096, 0, false, 2, 0, 2 ^ 128 - 1⟩,
  ⟨0x6031, 0, 4, 16, 0, true, 2, 0, 149400⟩,
  ⟨0x6032, 0, 4, 1, 1800, true, 2, 100, 20000⟩,
  ⟨0x6033, 0, 4, 1, 30000, true, 1, 100, 3600000⟩,
  ⟨0x6041, 0, 4, 1, 0, true, 2, 0, 2 ^ 32 - 1⟩]

/-- User calibration of 0x7400 to 0x77FF (R539). F32 values are held by their bits; a rail's scale lies
below its offset. -/
def objsUser : List ObjDef := [
  ⟨0x7400, 0, 8, 29, 0x3F800000, true, 2, 0, 2 ^ 64 - 1⟩,
  ⟨0x7401, 0, 4, 86, 0, true, 2, 0, 2 ^ 32 - 1⟩,
  ⟨0x7402, 0, 4, 32, 0x3F800000, true, 2, 0, 2 ^ 32 - 1⟩,
  ⟨0x7403, 0, 4, 128, 0, true, 2, 0, 2 ^ 32 - 1⟩,
  ⟨0x7404, 0, 1, 576, 0, true, 2, 0, 255⟩,
  ⟨0x7405, 0, 2, 29, 0, true, 2, 0, 65535⟩]

def objDefs : List ObjDef := objsMgmt ++ objsHealth ++ objsCtx ++ objsFabric ++ objsUser

def objDef? (index sub : Nat) : Option ObjDef := objDefs.find? (fun o => o.index == index && o.sub == sub)

/-- The key of an element in `Mgmt.objs`, `Mgmt.counts` and `Flash.rwp`. -/
def okey (index sub el : Nat) : Nat := (index * 256 + sub) * 2 ^ 20 + el

/-- The value of an element of a writable object: stored as 1 + the value, so that 0 is "at its default". -/
def State.obj (s : State) (index sub el : Nat) : Nat :=
  match SMap.get 0 s.mgmt.objs (okey index sub el) with
  | 0 => match objDef? index sub with
    | some o => o.dflt
    | none => 0
  | v + 1 => v

/-- Give an element of a writable object a value. -/
def State.setObj (s : State) (index sub el v : Nat) : State :=
  let d := match objDef? index sub with
    | some o => o.dflt
    | none => 0
  { s with mgmt := { s.mgmt with objs := SMap.set 0 s.mgmt.objs (okey index sub el) (if v = d then 0 else v + 1) } }

/-- A counter of the dictionary. -/
def State.counter (s : State) (index sub el : Nat) : Nat := SMap.get 0 s.mgmt.counts (okey index sub el)

/-- Add to a counter of the dictionary: 64 bits wide, it does not wrap (R606). -/
def State.count (s : State) (index sub el n : Nat) : State :=
  { s with mgmt := { s.mgmt with
      counts := SMap.upd 0 s.mgmt.counts (okey index sub el) (fun v => min (2 ^ 64 - 1) (v + n)) } }

/-- Set a counter or a value that the module itself keeps in the dictionary. -/
def State.setCounter (s : State) (index sub el v : Nat) : State :=
  { s with mgmt := { s.mgmt with counts := SMap.set 0 s.mgmt.counts (okey index sub el) v } }

end Sys2Proof.Machine
end

