-- ==== Sys2Proof/Machine/Ops.lean ====
section
/-! DEFINITION. The named operations over the state: reading and writing tiles, contexts, dies and memory,
the address map and the windows (chapter Scratchpads and memory, R190 to R231; R42, R56 to R60). -/

namespace Sys2Proof.Machine

-- ---------------------------------------------------------------- tiles, dies, contexts

/-- Key of a logical tile or of a site. -/
def tkey (die tile : Nat) : Nat := die * 288 + tile

def State.tile (s : State) (die tile : Nat) : Tile := SMap.get {} s.tiles (tkey die tile)
def State.setTile (s : State) (die tile : Nat) (t : Tile) : State :=
  { s with tiles := SMap.set {} s.tiles (tkey die tile) t }
def State.updTile (s : State) (die tile : Nat) (f : Tile → Tile) : State :=
  s.setTile die tile (f (s.tile die tile))

def State.site (s : State) (die site : Nat) : Site := SMap.get {} s.sites (tkey die site)
def State.updSite (s : State) (die site : Nat) (f : Site → Site) : State :=
  { s with sites := SMap.set {} s.sites (tkey die site) (f (s.site die site)) }

def State.die (s : State) (d : Nat) : Die := SMap.get {} s.dies d
def State.updDie (s : State) (d : Nat) (f : Die → Die) : State :=
  { s with dies := SMap.set {} s.dies d (f (s.die d)) }

def State.ctx (s : State) (c : Nat) : Ctx := if c = 0 then s.ctx0 else SMap.get {} s.ctxs c
def State.setCtx (s : State) (c : Nat) (x : Ctx) : State :=
  if c = 0 then { s with ctx0 := x } else { s with ctxs := SMap.set {} s.ctxs c x }
def State.updCtx (s : State) (c : Nat) (f : Ctx → Ctx) : State := s.setCtx c (f (s.ctx c))

def Tile.slot (t : Tile) (k : Nat) : Slot := SMap.get {} t.slots k
def Tile.updSlot (t : Tile) (k : Nat) (f : Slot → Slot) : Tile :=
  { t with slots := SMap.set {} t.slots k (f (t.slot k)) }
def Tile.queue (t : Tile) (q : Nat) : Queue := SMap.get {} t.queues q
def Tile.updQueue (t : Tile) (q : Nat) (f : Queue → Queue) : Tile :=
  { t with queues := SMap.set {} t.queues q (f (t.queue q)) }
def Tile.stream (t : Tile) (p : Nat) : StreamPort := SMap.get {} t.streams p
/-- The stream port of a tile at which a circuit of a context ends, by its streamer (R284). -/
def Tile.portOf (t : Tile) (ctx circuit streamer : Nat) : Option Nat :=
  (List.range 4).find? (fun p =>
    let x := t.stream p
    x.valid && x.ctx == ctx && x.circuit == circuit && x.streamer == streamer)
def Tile.updStream (t : Tile) (p : Nat) (f : StreamPort → StreamPort) : Tile :=
  { t with streams := SMap.set {} t.streams p (f (t.stream p)) }
def Tile.array (t : Tile) (a : Nat) : ArrayU := SMap.get {} t.arrays a
def Tile.updArray (t : Tile) (a : Nat) (f : ArrayU → ArrayU) : Tile :=
  { t with arrays := SMap.set {} t.arrays a (f (t.array a)) }
def ArrayU.set (a : ArrayU) (k : Nat) : AccSet := SMap.get {} a.sets k
def ArrayU.updSet (a : ArrayU) (k : Nat) (f : AccSet → AccSet) : ArrayU :=
  { a with sets := SMap.set {} a.sets k (f (a.set k)) }
def Slot.chan (k : Slot) (c : Nat) : SendChan := SMap.get {} k.chans c
def Slot.updChan (k : Slot) (c : Nat) (f : SendChan → SendChan) : Slot :=
  { k with chans := SMap.set {} k.chans c (f (k.chan c)) }
def Tile.bank (t : Tile) (b : Nat) : Bank := SMap.get {} t.banks b

/-- Add to one of the tile's counters of 0x8010 (R80, R81, R193). -/
def Tile.bump (t : Tile) (sub n : Nat) : Tile :=
  { t with counters := SMap.upd 0 t.counters sub (fun v => (v + n) % 2 ^ 64) }

/-- Whether a context's work still goes on: its selvedge has not been drawn (R373). -/
def CtxSt.running : CtxSt → Bool
  | .active | .fencing => true
  | _ => false

/-- A sparse store from the values of keys 0 to n − 1, in canonical form. -/
def SMap.ofList {α : Type} [DecidableEq α] (d : α) : Nat → List α → SMap α
  | _, [] => []
  | k, v :: vs => if v = d then SMap.ofList d (k + 1) vs else (k, v) :: SMap.ofList d (k + 1) vs

/-- The values of keys lo to lo + n − 1. -/
def SMap.toList {α : Type} (d : α) (m : SMap α) (lo n : Nat) : List α :=
  (List.range n).map (fun i => SMap.get d m (lo + i))

/-- Take the next free value's number (log entry 3). -/
def State.takeFree (s : State) (n : Nat) : State := { s with free := s.free + n }

/-- Send something out of the module. -/
def State.emit (s : State) (o : Output) : State := { s with out := o :: s.out }

-- ---------------------------------------------------------------- sites and logical tiles (R42, R54 to R60)

/-- Catalogue address (R53): SUBUNIT 27:24, DIE 23:20, CLASS 19:16, UNIT 15:0. -/
def catAddr (sub die cls unit : Nat) : Nat := at_ 24 4 sub + at_ 20 4 die + at_ 16 4 cls + at_ 0 16 unit

/-- Column and row of a site index. -/
def siteCol (i : Nat) : Nat := i % 18
def siteRow (i : Nat) : Nat := i / 18
/-- A site packed as column in 15:8 and row in 7:0 (R349). -/
def sitePack (i : Nat) : Nat := siteCol i * 256 + siteRow i

/-- Catalogue address of a tile site: class 0, unit column in 15:8 and row in 7:0. -/
def siteAddr (die site : Nat) : Nat := catAddr 0 die 0 (sitePack site)

/-- The site a logical tile is translated to, none while unmapped (R58, R60). -/
def State.siteOf (s : State) (die tile : Nat) : Option Nat :=
  match SMap.get 0 (s.die die).l2p tile with
  | 0 => none
  | k + 1 => some k

/-- A site is awake; it counts its delay from now (R549). -/
def State.wakeSite (s : State) (die site : Nat) : State :=
  s.updSite die site (fun x => { x with idle := 0, wake := false, idleSince := s.pwr.uptime })

/-- The logical tile at a site. -/
def State.tileAt (s : State) (die site : Nat) : Option Nat :=
  ((s.die die).l2p.find? (fun e => e.2 == site + 1)).map (·.1)

/-- The online test slice record of a site (R510). -/
def State.sliceAt (s : State) (die site : Nat) : SliceRec := SMap.get {} s.test.slices (tkey die site)

/-- Whether a context's tile grant includes a tile (R369). -/
def Ctx.granted (x : Ctx) (die tile : Nat) : Bool := (SMap.get 0 x.tiles die).testBit tile

/-- A tile that has come to hold no card is idle from now on (R547). -/
def State.noteIdle (s : State) (die tile : Nat) : State :=
  match s.siteOf die tile with
  | some i =>
    if (List.range 4).all (fun k => ((s.tile die tile).slot k).st == .empty) then
      s.updSite die i (fun x => { x with idleSince := s.pwr.uptime })
    else s
  | none => s

def State.unitRetired (s : State) (u : Nat) : Bool := SMap.get false s.cur.retired u

/-- The module's own device ID (R405). -/
def State.device (s : State) : Nat := s.obj 0x6003 0 0

-- ---------------------------------------------------------------- time

/-- Fabric time in ns; 0 until it has been acquired (R441, R446). -/
def State.ftc (s : State) : Nat := s.time.ftc16 / 16 % 2 ^ 64

/-- The time that records carry (R500): fabric time once acquired, before that controller uptime. -/
def State.recordTime (s : State) : Nat := if s.time.ftc16 = 0 then s.pwr.uptime else s.ftc

-- ---------------------------------------------------------------- the address map (R225, R226)

/-- What a local address names. -/
inductive Place where
  | hbm (stack off : Nat)
  | spad (die off : Nat)
  | tileWin (die tile off : Nat)
  | page (ctx off : Nat)
  | nowhere
  deriving DecidableEq, Repr

def place (a : Nat) : Place :=
  if a < 0x004800000000 then .hbm (a / 0x900000000) (a % 0x900000000)
  else if a < 0x100000000000 then .nowhere
  else if a < 0x100006000000 then .spad 0 (a - 0x100000000000)
  else if a < 0x100008000000 then .nowhere
  else if a < 0x10000E000000 then .spad 1 (a - 0x100008000000)
  else if a < 0x200000000000 then .nowhere
  else if a < 0x200024000000 then .tileWin 0 ((a - 0x200000000000) / 0x200000) (a % 0x200000)
  else if a < 0x200040000000 then .nowhere
  else if a < 0x200064000000 then .tileWin 1 ((a - 0x200040000000) / 0x200000) (a % 0x200000)
  else if a < 0x300000000000 then .nowhere
  else if a < 0x300000100000 then .page ((a - 0x300000000000) / 0x10000) (a % 0x10000)
  else .nowhere

/-- Local address of offset `off` of a tile's window. -/
def tileAddr (die tile off : Nat) : Nat :=
  (if die = 0 then 0x200000000000 else 0x200040000000) + tile * 0x200000 + off

/-- Pseudo-channels of a stack in the mapping, ascending (R206, R215). -/
def State.inService (s : State) (stack : Nat) : List Nat :=
  (List.range 32).filter (fun pc => !SMap.get false s.hbm.retired (stack * 16 + pc / 2))

/-- Whether the stack is fitted (R25). -/
def State.stackFitted (s : State) (stack : Nat) : Bool := s.factory.stackMask.testBit stack

/-- Capacity of a stack in bytes (R206, R215): 1.125 GiB for each pseudo-channel in service. -/
def State.stackCapacity (s : State) (stack : Nat) : Nat :=
  if s.stackFitted stack then (s.inService stack).length * 0x48000000 else 0

/-- The channel (stack × 16 + channel) that holds offset `off` of a stack (R206). -/
def State.channelOf (s : State) (stack off : Nat) : Nat :=
  let is := s.inService stack
  stack * 16 + (is.getD (off / 256 % is.length) 0) / 2

def State.diePresent (s : State) (d : Nat) : Bool := decide (d < s.factory.computeDies)

/-- A logical tile that exists: its die is fitted and it has a site (R3, R56, R59). -/
def State.tilePresent (s : State) (d t : Nat) : Bool := s.diePresent d && (s.siteOf d t).isSome

/-- Offsets of a tile window that are registers (R227). -/
def isTileReg (off : Nat) : Bool := decide (0x1C0000 ≤ off) && decide (off < 0x1C8000)

/-- Bytes of the unit at an address that bounds an access: a stack's range, a scratchpad bank; else the whole map. -/
def unitBytes (a : Nat) : Nat :=
  match place a with
  | .hbm _ _ => 0x900000000
  | .spad _ _ => 0x200000
  | _ => 2 ^ 46

/-- A range cut where it crosses from one HBM stack or scratchpad bank into the next: each part is an access of its own (chapter
Scratchpads and memory, corner cases). -/
def unitPieces (a n : Nat) : List (Nat × Nat) :=
  let c := unitBytes a
  if a % c + n ≤ c then [(a, n)]
  else (List.range ((a + n - 1) / c + 1 - a / c)).map (fun i =>
    let lo := max a ((a / c + i) * c)
    (lo, min (a + n) ((a / c + i + 1) * c) - lo))

/-- Whether every byte of `[a, a + n)` lies in one present unit (R222, R225 to R227); the reserved ranges of a tile window
are none. -/
def State.presentIn (s : State) (a n : Nat) : Bool :=
  match place a with
  | .hbm st off => decide (off + n ≤ s.stackCapacity st)
  | .spad d off => s.diePresent d && decide (off + n ≤ 0x6000000) && !s.test.spadOut.contains (48 * d + off / 0x200000)
  | .tileWin d t off => s.tilePresent d t && (decide (off + n ≤ 0x180000) || (isTileReg off && decide (off + n ≤ 0x1C8000)))
  | .page c off => decide (c < 16) && decide (off + n ≤ 0x10000)
  | .nowhere => false

/-- Whether a range is of present units: one unit, but for HBM stacks that it crosses. -/
def State.present (s : State) (a n : Nat) : Bool := (unitPieces a n).all (fun p => s.presentIn p.1 p.2)

-- ---------------------------------------------------------------- memory (R208 to R215, R230)

/-- Read one byte; a byte nothing has written reads 0 (R230: every store is written to zero at start-up). -/
def State.memByte (s : State) (a : Nat) : Nat := (SMap.get (0 : Byte) s.mem a).toNat

/-- Whether a line (address / 64) lies in an HBM channel fenced in service (R215). -/
def State.lineFenced (s : State) (line : Nat) : Bool :=
  match place (line * 64) with
  | .hbm st off => !s.hbm.fenced.isEmpty && SMap.get false s.hbm.fenced (s.channelOf st off)
  | _ => false

/-- The poison bit of a line (R211); a fenced HBM line reads as poisoned (R215). -/
def State.linePoison (s : State) (line : Nat) : Bool := SMap.get false s.poison line || s.lineFenced line

/-- The lines that `[a, a + n)` touches. -/
def linesOf (a n : Nat) : List Nat := if n = 0 then [] else (List.range ((a + n - 1) / 64 + 1 - a / 64)).map (· + a / 64)

/-- Read bytes, and whether any line they touch is poisoned (R212). -/
def State.memRead (s : State) (a n : Nat) : List Nat × Bool :=
  ((List.range n).map (fun i => s.memByte (a + i)), (linesOf a n).any s.linePoison)

/-- Write one byte. -/
def memSet (m : List Host.Cell) (a v : Nat) : List Host.Cell := SMap.set (0 : Byte) m a (BitVec.ofNat 8 v)

/-- Write consecutive bytes. -/
def memSets : List Host.Cell → Nat → List Nat → List Host.Cell
  | m, _, [] => m
  | m, a, b :: bs => memSets (memSet m a b) (a + 1) bs

/-- The poison bit of a line after a write of `[a, a + n)` (R212): that of the data when the whole line is
written, else set if it was set or the data is poisoned. -/
def poisonAfter (p : SMap Bool) (a n : Nat) (poison : Bool) : List Nat → SMap Bool
  | [] => p
  | l :: ls =>
    let whole := decide (a ≤ l * 64) && decide (l * 64 + 64 ≤ a + n)
    poisonAfter (SMap.set false p l (if whole then poison else poison || SMap.get false p l)) a n poison ls

/-- Write bytes that lie in one line or in lines none of which is fenced. -/
def State.memWriteRaw (s : State) (a : Nat) (bs : List Nat) (poison : Bool) : State :=
  { s with mem := memSets s.mem a bs, poison := poisonAfter s.poison a bs.length poison (linesOf a bs.length) }

/-- Write the part of `bs` (which begins at `a`) that lies in each of the given lines; a write to a fenced
HBM line is discarded and counted (R215). -/
def State.memWriteLines (s : State) (a : Nat) (bs : List Nat) (poison : Bool) : List Nat → State
  | [] => s
  | l :: ls =>
    let lo := max a (l * 64)
    let hi := min (a + bs.length) (l * 64 + 64)
    let s' := if s.lineFenced l then s.count 0x8040 0x0B 0 1
      else s.memWriteRaw lo ((bs.drop (lo - a)).take (hi - lo)) poison
    s'.memWriteLines a bs poison ls

/-- Write bytes with their poison (R212, R215). -/
def State.memWrite (s : State) (a : Nat) (bs : List Nat) (poison : Bool) : State :=
  if s.hbm.fenced.isEmpty then s.memWriteRaw a bs poison
  else s.memWriteLines a bs poison (linesOf a bs.length)

/-- Mark the lines of `[a, a + n)` poisoned, leaving their bytes. -/
def State.memPoison (s : State) (a n : Nat) : State :=
  { s with poison := (linesOf a n).foldl (fun p l => SMap.set false p l true) s.poison }

/-- Write `[a, a + n)` to zero with poison clear. -/
def State.memZero (s : State) (a n : Nat) : State :=
  { s with mem := SMap.clear (fun k => decide (a ≤ k) && decide (k < a + n)) s.mem,
           poison := SMap.clear (fun l => decide (a ≤ l * 64) && decide (l * 64 < a + n)) s.poison }

/-- Write `[a, a + n)` to zero as an agent of the module does in service: lines of a fenced HBM channel keep what they hold, and
each counts as a discarded write (R215). -/
def State.zeroOut (s : State) (a n : Nat) : State :=
  if s.hbm.fenced.isEmpty then s.memZero a n
  else
    let s1 : State := { s with
      mem := SMap.clear (fun k => decide (a ≤ k) && decide (k < a + n) && !s.lineFenced (k / 64)) s.mem
      poison := SMap.clear (fun l => decide (a ≤ l * 64) && decide (l * 64 < a + n) && !s.lineFenced l) s.poison }
    s1.count 0x8040 0x0B 0 ((linesOf a n).filter s.lineFenced).length

/-- Shared scratchpad and tile memory are written to zero with poison clear (R230). -/
def State.zeroSram (s : State) : State := s.memZero 0x100000000000 0x200000000000

/-- Whether the rails that VIN_IO and VIN_CORE feed are on. -/
def ModSt.railsOn : ModSt → Bool
  | .booting | .ready | .warmReset => true
  | _ => false

/-- Whether the compute dies take accesses: in READY and during a compute warm reset. -/
def State.diesRun (s : State) : Bool := s.pwr.st == .ready || s.pwr.st == .warmReset

/-- The line at a local address, as one number with its poison bit. -/
def State.memLine (s : State) (a : Nat) : Line :=
  let r := s.memRead (a / 64 * 64) 64
  { data := leVal r.1, poison := r.2 }

/-- Note where the poison of a line comes from: 0 a collective output, 1 a rehearsal (R485, R524). -/
def State.markPoison (s : State) (kind a : Nat) : State :=
  { s with cur := { s.cur with poisonFrom := SMap.set 0 s.cur.poisonFrom (2 * (a / 64) + kind) (1 + (s.memLine a).data) } }
/-- Whether a poisoned line still is as it was then; address 0 stands for a line not known. -/
def State.poisonMarked (s : State) (kind a : Nat) : Bool :=
  a != 0 && (s.memLine a).poison && SMap.get 0 s.cur.poisonFrom (2 * (a / 64) + kind) == 1 + (s.memLine a).data

/-- Read the little-endian number of `n` bytes. -/
def State.memNat (s : State) (a n : Nat) : Nat := leVal (s.memRead a n).1

-- ---------------------------------------------------------------- windows and bank owners (R201, R202, R220 to R222)

/-- A window entry's fields (R220). -/
def winBase (w : Nat) : Nat := fld w 30 34 * 4096
def winEnd (w : Nat) : Nat := fld w 76 34 * 4096 + 4096
def winValid (w : Nat) : Bool := bitOf w 2

/-- The kinds of access a window can grant, by their bit in the entry. -/
inductive Need where
  | read | write | atomic
  deriving DecidableEq, Repr

def Need.bit : Need → Nat
  | .read => 0 | .write => 1 | .atomic => 5

/-- The lower ends of HBM and scratchpad ranges that one window may not cross. -/
def sameUnit (a b : Nat) : Bool :=
  match place a, place b with
  | .hbm s1 _, .hbm s2 _ => s1 == s2
  | .spad d1 _, .spad d2 _ => d1 == d2
  | _, _ => false

/-- The conditions of R221 on an entry: LIMIT at or above BASE, wholly in one present HBM stack's range or
one die's scratchpad window. -/
def State.winFits (s : State) (w : Nat) : Bool :=
  let b := winBase w
  let e := winEnd w
  decide (b < e) && sameUnit b (e - 1) && s.present b (e - b)

/-- Whether one valid entry of context `c` covers `[a, a + n)` and grants every bit in `need` (R221); a range that crosses HBM stacks
is checked part by part. -/
def State.windowGrants (s : State) (c a n : Nat) (need : List Nat) : Bool :=
  (unitPieces a n).all (fun p => (List.range 32).any (fun e =>
    let w := SMap.get 0 (s.ctx c).windows e
    winValid w && decide (winBase w ≤ p.1) && decide (p.1 + p.2 ≤ winEnd w) && need.all (bitOf w)))

/-- Whether context `c` owns every bank that offsets `[off, off + n)` of a tile's memory touch (R202). -/
def State.ownsBanks (s : State) (c die tile off n : Nat) : Bool :=
  c == 0 || ((List.range 24).all (fun b =>
    let lo := b * 0x10000
    if decide (off < lo + 0x10000) && decide (lo < off + n) then
      let k := (s.tile die tile).bank b
      k.valid && k.ctx == c
    else true))

/-- Whether the context holds a card slot on the tile (R228). -/
def Tile.holdsSlot (t : Tile) (c : Nat) : Bool :=
  (List.range 4).any (fun k => (t.slot k).st != .empty && (t.slot k).ctx == c)

/-- Whether context `c` may read registers at offsets `[off, off + n)` of a tile window: those of a tile on which it holds a slot
(R228), and of any tile the line of TILE_BANK_OWNER, which every context may read (R201, log entry 65). -/
def Tile.regReadable (t : Tile) (c off n : Nat) : Bool :=
  isTileReg off && (t.holdsSlot c || decide (off + n ≤ 0x1C0040))

/-- Whether context `c` may reach `[a, a + n)` (R222): context 0 every address of a present unit; a user
context what its windows grant (`extra` bits too: HOST or REMOTE), the tile-memory banks it owns, and, to
read, the registers of tiles on which it holds a slot. -/
def State.reaches (s : State) (c a n : Nat) (need : Need) (extra : List Nat) : Bool :=
  s.present a n && (c == 0 ||
    match place a with
    | .hbm _ _ => s.windowGrants c a n (need.bit :: extra)
    | .spad _ _ => s.windowGrants c a n (need.bit :: extra)
    | .tileWin d t off =>
      if off + n ≤ 0x180000 then s.ownsBanks c d t off n
      else need == .read && (s.tile d t).regReadable c off n
    | .page k _ => k == c
    | .nowhere => false)

-- ---------------------------------------------------------------- CRC-32 of IEEE 802.3

def crc32Step (c b : Nat) : Nat :=
  (List.range 8).foldl (fun c _ => if c % 2 = 1 then (c / 2) ^^^ 0xEDB88320 else c / 2) (c ^^^ b)

/-- CRC-32 of a list of bytes. -/
def crc32 (bs : List Nat) : Nat := (bs.foldl crc32Step 0xFFFFFFFF) ^^^ 0xFFFFFFFF

end Sys2Proof.Machine
end

