-- ==== Sys2Proof/Machine/Units.lean ====
section
/-! DEFINITION. Units by their catalogue address, their fuses, and the entries of the factory catalogue (chapter Catalogue,
grades and licences, R42 to R49, R53). -/

namespace Sys2Proof.Machine

-- ---------------------------------------------------------------- units by catalogue address (R53)

def unitSub (u : Nat) : Nat := fld u 24 4
def unitDie (u : Nat) : Nat := fld u 20 4
def unitClass (u : Nat) : Nat := fld u 16 4
def unitUnit (u : Nat) : Nat := fld u 0 16

/-- The site index of a packed site (column in 15:8, row in 7:0). -/
def siteOfPack (p : Nat) : Nat := fld p 0 8 * 18 + fld p 8 8

/-- Channel unit of a stack: class 4, the compute die that holds its port (R25). -/
def channelAddr (stack ch : Nat) : Nat := catAddr ch (stack / 4) 4 stack
/-- A Varoa port: class 5, on I/O die port / 4. -/
def portAddr (port : Nat) : Nat := catAddr 0 (4 + port / 4) 5 port
/-- A router link, from a site in a direction (0 north, 1 east, 2 south, 3 west). -/
def linkAddr (die site dir : Nat) : Nat := catAddr dir die 3 (sitePack site)

/-- The neighbour of a site in a direction. -/
def neighbour (site dir : Nat) : Option Nat :=
  match dir with
  | 0 => if siteRow site = 0 then none else some (site - 18)
  | 1 => if siteCol site = 17 then none else some (site + 1)
  | 2 => if siteRow site = 15 then none else some (site + 18)
  | _ => if siteCol site = 0 then none else some (site - 1)

def opposite (dir : Nat) : Nat := (dir + 2) % 4

/-- A link has one name for both of its ends: the east or south link of the western or northern site. -/
def linkName (die site dir : Nat) : Nat :=
  if dir = 1 ∨ dir = 2 then linkAddr die site dir
  else match neighbour site dir with
    | some n => linkAddr die n (opposite dir)
    | none => linkAddr die site dir

/-- One name for a unit whichever end of a link names it. -/
def unitName (u : Nat) : Nat :=
  if unitClass u = 3 then linkName (unitDie u) (siteOfPack (unitUnit u)) (unitSub u) else u

/-- The name of a link from its other end; a unit of another class has one name. -/
def otherName (u : Nat) : Option Nat :=
  if unitClass u = 3 then
    (neighbour (siteOfPack (unitUnit u)) (unitSub u)).map (fun n => linkAddr (unitDie u) n (opposite (unitSub u)))
  else none

/-- Fuse bits of a unit: bit 0 DEFECT, bit 1 VARIANT (R44, R45); a link's from either of its sites (R47). -/
def State.fuse (s : State) (u : Nat) : Nat :=
  SMap.get 0 s.factory.fuses u ||| (match otherName u with
    | some v => SMap.get 0 s.factory.fuses v
    | none => 0)

def State.defect (s : State) (u : Nat) : Bool := (s.fuse u).testBit 0

/-- Disabled by its fuses: DEFECT, or VARIANT that no licence clears for this port (R44, R61, R64). -/
def State.fusedOut (s : State) (u : Nat) : Bool :=
  s.defect u || ((s.fuse u).testBit 1 && !(unitClass u == 5 && s.cat.portsOn.testBit (unitUnit u)))

/-- The second host port (class 6). DEDUCED: its DIE is that of the I/O die it sits on (R14). Log entry 59. -/
def hostAddr : Nat := catAddr 0 6 6 0

/-- A host port fitted and not disabled by its fuses (R44, R61). -/
def State.hostFitted (s : State) (p : Nat) : Bool := p == 0 || (p == 1 && s.factory.host1 && !s.fusedOut hostAddr)

-- ---------------------------------------------------------------- the factory catalogue's entries (R46, R48, R49)

/-- An entry of the factory catalogue. -/
def factoryEntry (kind die unit data : Nat) : W64 :=
  BitVec.ofNat 64 (at_ 56 8 kind + at_ 52 4 die + at_ 36 16 unit + at_ 0 36 data)

/-- The FUSE entry of a unit. -/
def fuseEntry (u bits : Nat) : W64 :=
  factoryEntry 0x01 (unitDie u) (unitUnit u) (at_ 32 4 (unitClass u) + at_ 4 4 (unitSub u) + at_ 0 2 bits)

/-- The SPARE entry of a site. -/
def spareEntry (k : Nat) : W64 := factoryEntry 0x02 (k / 288) (sitePack (k % 288)) 0

/-- The OPPOINT entry of a site: voltage in mV and maximum frequency code. -/
def Factory.oppEntry (f : Factory) (k : Nat) : W64 :=
  factoryEntry 0x04 (k / 288) (sitePack (k % 288))
    (at_ 24 12 (SMap.get f.oppMv f.oppMvOf k) + at_ 20 4 (SMap.get f.oppCode f.oppCodeOf k))

/-- The entries of the factory catalogue, ended by one of KIND 0: FUSE (those of the features lifted among them), SPARE,
MEM_REPAIR, OPPOINT. Their order is the model's (log entry 59). -/
def Factory.entries (f : Factory) : List W64 :=
  f.fuses.map (fun e => fuseEntry e.1 e.2)
    ++ ([1, 2].filter (fun i => f.lifted.testBit (i - 1))).map (fun i => fuseEntry (catAddr 0 0xF 7 i) 0)
    ++ f.spareSites.map spareEntry ++ f.memRepairs
    ++ ((List.range (288 * f.computeDies)).filter (fun k => !SMap.get false f.noOpp k)).map f.oppEntry ++ [0]

end Sys2Proof.Machine
end

