-- ==== Sys2Proof/Machine/Reach.lean ====
section
/-! DEFINITION. What an access of any agent meets where it goes: refresh intervals and pauses of HBM (R568, R570), a bank being
zeroed (R203), dirty lines of the gather buffer (R198). -/

namespace Sys2Proof.Machine

/-- Add to a count of the running graph's ledger record, named by the low bit of its field. -/
def State.tally (s : State) (c key n : Nat) : State :=
  match (s.ctx c).graph with
  | some g => s.updCtx c (fun x => { x with graph := some { g with tally := SMap.upd 0 g.tally key (· + n) } })
  | none => s

def State.tallyAll (s : State) (cs : List Nat) (key n : Nat) : State := cs.foldl (fun s c => s.tally c key n) s

-- ---------------------------------------------------------------- refresh intervals and pauses (R568, R570)

/-- The pseudo-channels (stack * 32 + pc) that a range of HBM touches. -/
def State.pcsOf (s : State) (a n : Nat) : List Nat :=
  match place a with
  | .hbm st off =>
    let is := s.inService st
    ((List.range ((off + n - 1) / 256 + 1 - off / 256)).map (fun i =>
      st * 32 + is.getD ((off / 256 + i) % is.length) 0)).eraseDups
  | _ => []

/-- Note that an interval or pause has delayed an access of a context: the interval counts once, and once in the
ledger record of each context it delays. Its value is 1 + 2 * the mask of those contexts. -/
def State.noteDelay (s : State) (c : Nat) (v : Nat) : State :=
  let s1 := if v < 2 then s.count 0x80F0 6 0 1 else s
  if bitOf (v / 2) c then s1 else s1.tally c 592 1

def delayMark (c v : Nat) : Nat := if bitOf (v / 2) c then v else v + 2 * 2 ^ c

def State.delayPc (s : State) (c pc : Nat) : State :=
  let v := SMap.get 0 s.hbm.refresh pc
  let s1 := if v = 0 then s else
    let s0 := s.noteDelay c v
    { s0 with hbm := { s0.hbm with refresh := SMap.set 0 s0.hbm.refresh pc (delayMark c v) } }
  let ch := pc / 32 * 16 + pc % 32 / 2
  let w := SMap.get 0 s1.hbm.pause ch
  if w = 0 then s1 else
    let s2 := s1.noteDelay c w
    { s2 with hbm := { s2.hbm with pause := SMap.set 0 s2.hbm.pause ch (delayMark c w) } }

/-- Whether an interval or a pause is in progress where an access would go: it waits for its end (R568, R570). -/
def State.hbmPaused (s : State) (a n : Nat) : Bool :=
  (s.pcsOf a n).any (fun pc => SMap.get 0 s.hbm.refresh pc != 0 || SMap.get 0 s.hbm.pause (pc / 32 * 16 + pc % 32 / 2) != 0)

/-- Whether an access to a range of HBM must wait now. -/
def State.hbmBusy (s : State) (a n : Nat) : Bool :=
  s.hbmPaused a n || (s.pcsOf a n).any (fun pc => SMap.get false s.hbm.selfRefresh (pc / 32))

/-- An access of a context has reached a range: every interval or pause in progress there has delayed it. -/
def State.hbmDelay (s : State) (c a n : Nat) : State := (s.pcsOf a n).foldl (fun s pc => s.delayPc c pc) s

-- ---------------------------------------------------------------- banks being zeroed and the gather buffer (R198, R203)

/-- Whether a range of tile memory touches a bank that is being zeroed (R203): accesses to it wait. -/
def Tile.zeroingIn (t : Tile) (off n : Nat) : Bool :=
  t.banks.any (fun b => b.2.zeroing && decide (off < (b.1 + 1) * 0x10000) && decide (b.1 * 0x10000 < off + n))

/-- The same of a range of local addresses. -/
def State.zeroingAt (s : State) (a n : Nat) : Bool :=
  match place a with
  | .tileWin d t off => decide (off < 0x180000) && (s.tile d t).zeroingIn off n
  | _ => false

/-- A bank has been written to zero: its contents, and its lines in the gather buffer, are gone (R203). -/
def State.bankZeroed (s : State) (die tile bank : Nat) : State :=
  (s.memZero (tileAddr die tile (bank * 0x10000)) 0x10000).updTile die tile (fun t => { t with
    gb := t.gb.filter (fun g => g.line / 1024 != bank)
    banks := SMap.upd {} t.banks bank (fun b => { b with zeroing := false }) })

/-- A full-line access writes a dirty line back; a full-line write replaces the buffered copy (R198). -/
def Tile.gbFull (t : Tile) (line : Nat) (write : Bool) : Tile :=
  if write then { t with gb := t.gb.filter (fun g => g.line != line) }
  else { t with gb := t.gb.map (fun g => if g.line = line then { g with dirty := false } else g) }

/-- The tile-memory line of a local address, with its tile. -/
def tmemLine (a : Nat) : Option (Nat × Nat × Nat) :=
  match place a with
  | .tileWin d t off => if off < 0x180000 then some (d, t, off / 64) else none
  | _ => none

/-- A weft access to a tile-memory line has a dirty copy in the gather buffer written back (R198). -/
def State.gbWeft (s : State) (a : Nat) (write : Bool) : State :=
  match tmemLine a with
  | some (d, t, l) => s.updTile d t (fun x => x.gbFull l write)
  | none => s

/-- The same of a range of local addresses: lines written whole replace the buffered copies. -/
def State.gbWeftRange (s : State) (a n : Nat) (write : Bool) : State :=
  (linesOf a n).foldl (fun s l => s.gbWeft (64 * l) (write && decide (a ≤ 64 * l) && decide (64 * l + 64 ≤ a + n))) s

/-- A logical tile is awake (R549). -/
def State.wakeTile (s : State) (die tile : Nat) : State :=
  match s.siteOf die tile with
  | some i => if (s.site die i).idle = 0 then s else s.wakeSite die i
  | none => s

/-- An access of an agent of the module for a context, which its own network carries: what delays it is counted, it waits until its tile
is awake and a bank being zeroed has been (log entry 80), and lines of the gather buffer are written back or replaced (R198, R203, R568, R570). -/
def State.reachFor (s : State) (c a n : Nat) (write : Bool) : State :=
  match place a with
  | .tileWin d t off =>
    if off < 0x180000 then
      (((List.range ((off + n - 1) / 0x10000 + 1 - off / 0x10000)).map (· + off / 0x10000)).foldl (fun s b =>
        if ((s.tile d t).bank b).zeroing then s.bankZeroed d t b else s) (s.wakeTile d t)).gbWeftRange a n write
    else s.wakeTile d t
  | _ => s.hbmDelay c a n

-- ---------------------------------------------------------------- accesses of units whose node is not given (R246)

/-- A weft link or router that has failed hard and is still in the tables (R236, R246, R489). -/
def State.weftBroken (s : State) : Bool := s.cur.hard.any (fun e => unitClass e.1 == 2 || unitClass e.1 == 3)

/-- An access of a unit whose node the manual does not give (a sequencer, a loader): while a weft unit has failed hard, whether it
is lost is a free value (log entry 75); a lost one counts. -/
def State.tryWeft (s : State) : Bool × State :=
  if !s.weftBroken then (false, s)
  else if (Config.freeByte s.free).toNat % 2 = 1 then (true, (s.takeFree 1).count 0x8050 3 0 1)
  else (false, s.takeFree 1)

/-- A write of such a unit: whether it is made. A lost one leaves its line with the old or the new contents, as a free value says
(R246). -/
def State.weftMayWrite (s : State) : Bool × State :=
  let w := s.tryWeft
  if !w.1 then (true, w.2) else ((Config.freeByte w.2.free).toNat % 2 == 1, w.2.takeFree 1)

end Sys2Proof.Machine
end

