-- ==== Sys2Proof/Machine/Events.lean ====
section
/-! DEFINITION. The rings a context reports through and what is posted on them: completion, event and ledger
entries (R345 to R351, R462), MSI-X messages (R562, R563) and the accession log (R500). -/

namespace Sys2Proof.Machine

-- ---------------------------------------------------------------- host functions and MSI-X

def State.port (s : State) (p : Nat) : HostPort := SMap.get {} s.host p
def State.updPort (s : State) (p : Nat) (f : HostPort → HostPort) : State :=
  { s with host := SMap.set {} s.host p (f (s.port p)) }
def State.fn (s : State) (p f : Nat) : Fn := SMap.get {} (s.port p).fns f
def State.updFn (s : State) (p f : Nat) (g : Fn → Fn) : State :=
  s.updPort p (fun h => { h with fns := SMap.set {} h.fns f (g (SMap.get {} h.fns f)) })

/-- The host port that carries a context (R556); context 0 reports through port 0 (log entry 20). -/
def State.portOf (s : State) (c : Nat) : Nat := if c = 0 then 0 else s.obj 0x5017 0 c

/-- Whether a host port's link is up (R572). -/
def State.hostUp (s : State) (p : Nat) : Bool := (s.port p).st == .up || (s.port p).st == .degraded

/-- Whether the module may write to host memory for the function (R562, R565). -/
def State.mayWriteHost (s : State) (p f : Nat) : Bool := s.hostUp p && (s.fn p f).busMaster && !(s.fn p f).d3hot

/-- Signal an MSI-X vector (R563): nothing while the link is down; while a holdoff runs the signal waits (R345); masked, it sets the pending
bit; otherwise the message leaves, and a holdoff of the given length starts. -/
def State.signal (s : State) (p f v holdoffUs : Nat) : State :=
  let x := SMap.get {} (s.fn p f).vectors v
  let put (y : Vector_) := s.updFn p f (fun g => { g with vectors := SMap.set {} g.vectors v y })
  if !s.hostUp p then s
  else if x.holdoff then put { x with waiting := true }
  else if x.ctrl.getLsbD 0 || !(s.fn p f).msixOn || !s.mayWriteHost p f then put { x with pending := true }
  else (put { x with holdoff := decide (holdoffUs > 0) }).emit (.msix p f v x.addr.toNat x.data.toNat)

/-- Signal a vector of the PF on every present port (R563, vectors 4 and 5). -/
def State.signalPf (s : State) (v : Nat) : State :=
  let s1 := s.signal 0 0 v 0
  if s.hostFitted 1 then s1.signal 1 0 v 0 else s1

-- ---------------------------------------------------------------- rings (R345, R462)

inductive RingKind where
  | cq | eq | ledger
  deriving DecidableEq, Repr

/-- Bytes of one entry (R346, R348, R463). -/
def RingKind.size : RingKind → Nat
  | .cq => 32 | .eq => 64 | .ledger => 128

/-- MSI-X vector of a ring (R563). -/
def RingKind.vector : RingKind → Nat
  | .cq => 0 | .eq => 1 | .ledger => 3

def Ctx.ring (x : Ctx) : RingKind → RingQ
  | .cq => x.cq | .eq => x.eq | .ledger => x.ledger

def Ctx.setRing (x : Ctx) (k : RingKind) (r : RingQ) : Ctx :=
  match k with
  | .cq => { x with cq := r } | .eq => { x with eq := r } | .ledger => { x with ledger := r }

/-- Whether `[a, a + n)` lies in a window of the context that grants every bit of `need`; for context 0,
whether it is present (R222). -/
def State.inWindow (s : State) (c a n : Nat) (need : List Nat) : Bool :=
  s.present a n && (c == 0 || s.windowGrants c a n need)

/-- The same of a range that several accesses reach: each part of it that lies in one 4 KiB page, the unit of windows (R220). -/
def State.inWindows (s : State) (c a n : Nat) (need : List Nat) : Bool :=
  (List.range ((a + n + 4095) / 4096 - a / 4096)).all (fun i =>
    let lo := max a ((a / 4096 + i) * 4096)
    s.inWindow c lo (min (a + n) ((a / 4096 + i + 1) * 4096) - lo) need)

/-- What a ring does with an entry now. -/
inductive RingRoom where
  | disabled | badTarget | full | room
  deriving DecidableEq, Repr

def RingQ.entries (r : RingQ) : Nat := 2 ^ r.log2
def RingQ.addr (r : RingQ) (size : Nat) : Nat := r.base.toNat + r.tail.toNat % r.entries * size
/-- PHASE (R346): 1 on the first pass, inverted on each later one. -/
def RingQ.phase (r : RingQ) : Nat := b2n (r.tail.toNat / r.entries % 2 == 0)
def RingQ.isFull (r : RingQ) : Bool := (r.tail - r.head).toNat == r.entries

def State.ringRoom (s : State) (c : Nat) (k : RingKind) : RingRoom :=
  let r := (s.ctx c).ring k
  if !r.enable then .disabled
  else if !r.host && !s.inWindow c (r.addr k.size) k.size [1] then .badTarget
  else if r.isFull || (r.host && !s.mayWriteHost (s.portOf c) c) then .full
  else .room

/-- Write one entry, PHASE included, advance TAIL and signal (R345, R346, R562). -/
def State.ringWrite (s : State) (c : Nat) (k : RingKind) (entry : Nat) (withPhase : Bool) : State :=
  let r := (s.ctx c).ring k
  let e := entry + (if withPhase then r.phase else 0)
  let s1 := if r.host then s.emit (.hostWrite (s.portOf c) c (r.addr k.size) k.size e)
    else
      let w := (s.reachFor c (r.addr k.size) k.size true).weftMayWrite
      if w.1 then w.2.memWrite (r.addr k.size) (leBytes k.size e) false else w.2
  let s2 := s1.updCtx c (fun x => x.setRing k { x.ring k with tail := (x.ring k).tail + 1 })
  if r.irq then s2.signal (s.portOf c) c k.vector r.holdoff else s2

-- ---------------------------------------------------------------- events (R348 to R351)

/-- What an event entry carries (R348). -/
structure Event where
  code : Nat
  status : Status := .ok
  arg0 : Nat := 0
  arg1 : Nat := 0
  submitTag : Nat := 0
  nodeTag : Nat := 0
  node : Nat := 0xFFFFFF
  detail : Nat := 0
  die : Nat := 0
  tile : Nat := 0
  slot : Nat := 0
  deriving DecidableEq, Repr

/-- The 64-byte entry without PHASE. -/
def Event.entry (e : Event) (ftc : Nat) : Nat :=
  at_ 448 64 ftc + at_ 384 64 e.arg1 + at_ 320 64 e.arg0 + at_ 304 16 e.submitTag + at_ 288 16 e.nodeTag
  + at_ 264 24 e.node + at_ 256 8 e.status.code + at_ 232 24 e.detail + at_ 231 1 e.die + at_ 222 9 e.tile
  + at_ 220 2 e.slot + at_ 212 8 e.code

/-- A number in lower-case hexadecimal digits, at least one. -/
def hexDigit (n : Nat) : Char := Char.ofNat (if n < 10 then 48 + n else 87 + n)
def hexAux : Nat → Nat → List Char → List Char
  | 0, _, acc => acc
  | k + 1, n, acc => if n < 16 then hexDigit n :: acc else hexAux k (n / 16) (hexDigit (n % 16) :: acc)
def hex (n : Nat) : String := String.ofList (hexAux (Nat.log2 n / 4 + 1) n [])
/-- Decimal digits. -/
def dec (n : Nat) : String := String.ofList (Nat.toDigits 10 n)

/-- The running graph's SUBMIT_TAG, or 0. -/
def State.runTag (s : State) (c : Nat) : Nat :=
  match (s.ctx c).graph with
  | some g => g.tag
  | none => 0

/-- Post an event (R350): written at once, or lost, setting EQ_LOST and counting SEQ_EVENTS_LOST. The
monitor's event trace prints it either way (R618). -/
def State.postEvent (s : State) (c : Nat) (e : Event) : State :=
  let s0 := if s.mon.trace = 2 + c then
      s.emit (.console ["~ " ++ dec s.ftc ++ " " ++ hex (e.entry s.ftc)])
    else s
  match s0.ringRoom c .eq with
  | .room => s0.ringWrite c .eq (e.entry s0.ftc) true
  | _ => (s0.updCtx c (fun x => { x with eqLost := true })).count 0x8080 0x05 c 1

-- ---------------------------------------------------------------- completions (R346, R347, R351)

/-- TAG of a node of the running graph, 0 where it is not resident (R348). -/
def State.nodeTag (s : State) (c i : Nat) : Nat :=
  match (s.ctx c).graph with
  | some g => ((g.nodes.find? (fun n => n.idx == i)).map (·.tag)).getD 0
  | none => 0

/-- Post a completion entry: discarded at once while the queue is disabled or its target fails the window
check, else it joins the entries that wait to be written in order. Answers whether it was discarded. -/
def State.postCompletion (s : State) (c entry : Nat) (node : Option (Nat × Nat)) : State × Bool :=
  match s.ringRoom c .cq with
  | .disabled => (s.count 0x8080 0x08 c 1, true)
  | .badTarget => (s.count 0x8080 0x08 c 1, true)
  | _ => (s.updCtx c (fun x => { x with cqWait := x.cqWait ++ [{ entry := entry, node := node }] }), false)

end Sys2Proof.Machine
end

