-- ==== Sys2Proof/Machine/Catalogue.lean ====
section
/-! DEFINITION. The catalogue: which units are in service, the logical numbering and its translation, the
field catalogue and the licences (chapter Catalogue, grades and licences, R39 to R64). -/

namespace Sys2Proof.Machine

-- ---------------------------------------------------------------- the field catalogue (R50 to R54)

def fieldSeq (e : BitVec 128) : Nat := fld e.toNat 96 32
def fieldKind (e : BitVec 128) : Nat := fld e.toNat 28 4
def fieldRehearsal (e : BitVec 128) : Bool := bitOf e.toNat 27
/-- SUBUNIT, DIE, CLASS and UNIT of a field entry as a catalogue address. -/
def fieldUnit (e : BitVec 128) : Nat := catAddr (fld e.toNat 32 4) (fld e.toNat 20 4) (fld e.toNat 16 4) (fld e.toNat 0 16)

/-- A field catalogue entry without SEQ. -/
def fieldEntry (time kind : Nat) (rehearsal noSpare : Bool) (u : Nat) : BitVec 128 :=
  BitVec.ofNat 128 (at_ 36 60 time + at_ 32 4 (unitSub u) + at_ 28 4 kind + at_ 27 1 (b2n rehearsal)
    + at_ 26 1 (b2n noSpare) + at_ 20 4 (unitDie u) + at_ 16 4 (unitClass u) + unitUnit u)

/-- The latest entry for a unit that later boots apply: a REHEARSAL entry is not applied (R52). -/
def latestField (es : List (BitVec 128)) (u : Nat) : Option (BitVec 128) :=
  (es.reverse).find? (fun e => unitName (fieldUnit e) == unitName u && !fieldRehearsal e)

/-- The units that a list of entries holds out of service, by unit name: each later entry of a unit supersedes the one
before it, and a REHEARSAL entry is not applied (R50, R52, R53). -/
def fieldUnits (es : List (BitVec 128)) : SMap Bool :=
  es.foldl (fun m e => if fieldRehearsal e || fieldKind e == 0 then m
    else SMap.set false m (unitName (fieldUnit e)) (fieldKind e == 1)) []

/-- Whether the field catalogue, as it was loaded at this boot, takes the unit out of service (R53). -/
def State.fieldOut (s : State) (u : Nat) : Bool := SMap.get false s.cat.fieldOut (unitName u)

/-- A copy that verifies and carries this module's serial number (R50). -/
def State.copyValid (s : State) (c : FieldCopy) : Bool := c.ok && c.serial == s.factory.serial

/-- Whether the first copy is the one in use: valid, and no valid second copy has a higher write count (R50). -/
def State.usesA (s : State) : Bool :=
  s.copyValid s.flash.fieldA && !(s.copyValid s.flash.fieldB && decide (s.flash.fieldA.writes < s.flash.fieldB.writes))

/-- The copy of the field catalogue in use, none when neither is valid (R50). -/
def State.fieldCopy (s : State) : Option FieldCopy :=
  if s.usesA then some s.flash.fieldA else if s.copyValid s.flash.fieldB then some s.flash.fieldB else none

/-- The entries of the copy in use; none when the module runs on the factory catalogue alone. -/
def State.field (s : State) : List (BitVec 128) := match s.fieldCopy with
  | some c => c.entries
  | none => []

/-- The entries kept when the copy is compacted at 4,096 (R54): the latest of each unit unless it is a
re-accession, and every REHEARSAL entry of the last 30 days. DESIGN CHOICE (log entry 60): a REHEARSAL entry is never the
latest entry of its unit, so an older one is dropped even where the unit has no other. -/
def compactField (es : List (BitVec 128)) (now : Nat) : List (BitVec 128) :=
  es.filter (fun e =>
    if fieldRehearsal e then decide (now ≤ fld e.toNat 36 60 + 2592000000000000)
    else latestField es (fieldUnit e) == some e && fieldKind e != 2)

/-- Append an entry, numbering it: the copy not in use is written, with the next write count (R50, R51, R54). DESIGN CHOICE
(log entry 86): where compaction frees no room, the copy written holds more than 4,096 entries. -/
def State.appendField (s : State) (e : BitVec 128) : State :=
  let seq := (s.field.map fieldSeq).foldl max 0 + 1
  let e' := e ||| BitVec.ofNat 128 (at_ 96 32 seq)
  let old := if s.field.length ≥ 4096 then compactField s.field s.recordTime else s.field
  let c : FieldCopy := { serial := s.factory.serial, writes := (s.fieldCopy.getD {}).writes + 1, entries := old ++ [e'], ok := true }
  ({ s with flash := if s.usesA then { s.flash with fieldB := c } else { s.flash with fieldA := c } }).count 0x8030 0x01 0 1

/-- Append an entry owed, with the time of its change (R50). -/
def State.appendOwed (s : State) (p : OwedEntry) : State := s.appendField (fieldEntry p.time p.kind p.rehearsal p.noSpare p.unit)

/-- Owe the field catalogue an entry for a change made now (R51). -/
def State.oweField (s : State) (kind : Nat) (rehearsal : Bool) (u : Nat) : State :=
  { s with cur := { s.cur with
      pendingAppends := s.cur.pendingAppends ++ [{ unit := u, kind := kind, rehearsal := rehearsal, time := s.recordTime }] } }

-- ---------------------------------------------------------------- what is in service

/-- Out of service by fuse, by the field catalogue or by a retirement since boot; a link whichever of its sites names it
(R47). -/
def State.unitOut (s : State) (u : Nat) : Bool :=
  s.fusedOut u || s.fieldOut u || s.unitRetired (unitName u)

/-- A link out of service, or none in that direction. -/
def State.linkOut (s : State) (die site dir : Nat) : Bool := (neighbour site dir).isNone || s.unitOut (linkAddr die site dir)

/-- Both routers of a site are in service (classes 1 and 2). -/
def State.routersOk (s : State) (die site : Nat) : Bool :=
  !s.unitOut (catAddr 0 die 1 (sitePack site)) && !s.unitOut (catAddr 0 die 2 (sitePack site))

/-- OPPOINT of a site (R49). -/
def State.oppMv (s : State) (die site : Nat) : Nat :=
  SMap.get s.factory.oppMv s.factory.oppMvOf (tkey die site)
/-- The voltage set point of an island in mV (R538): OPPOINT, the user's offset and 10 mV a margin step, held between OPPOINT − 30 mV
and OPPOINT + 70 mV. -/
def State.setPointMv (s : State) (die site : Nat) : Int :=
  let base : Int := s.oppMv die site
  max (base - 30) (min (base + 70) (base + toInt 8 (s.obj 0x7404 0 (tkey die site)) + 10 * (s.site die site).vstep))

def State.oppCode (s : State) (die site : Nat) : Nat :=
  SMap.get s.factory.oppCode s.factory.oppCodeOf (tkey die site)

/-- A good site (R42, R47, R49). -/
def State.goodSite (s : State) (die site : Nat) : Bool :=
  s.diePresent die && !s.unitOut (siteAddr die site) && s.routersOk die site
    && !SMap.get false s.factory.noOpp (tkey die site)

/-- The fixed order of R55: columns 0 to 16 row by row, even rows west to east and odd rows east to west;
then column 17. -/
def fixedOrder : List Nat :=
  ((List.range 16).map (fun r =>
    (List.range 17).map (fun k => r * 18 + (if r % 2 = 0 then k else 16 - k)))).flatten
  ++ (List.range 16).map (fun r => r * 18 + 17)

def State.goodSites (s : State) (die : Nat) : List Nat := fixedOrder.filter (s.goodSite die)

/-- Number the logical tiles of a die afresh (R55, R56). -/
def State.numberDie (s : State) (die : Nat) : State :=
  let gs := s.goodSites die
  let ns := gs.take s.factory.gradeTiles
  s.updDie die (fun d => { d with
    l2p := SMap.ofList 0 0 (ns.map (· + 1)), tilesN := ns.length, spares := gs.drop s.factory.gradeTiles })

/-- Ports of the module that exist and may be used: fitted, not DEFECT, VARIANT lifted by a licence (R61, R64). -/
def State.portPresent (s : State) (p : Nat) : Bool :=
  decide (p < 4 * s.factory.ioDies) && s.factory.ports.testBit p && !s.fusedOut (portAddr p)

/-- The compute die whose limit a unit counts against (R497): the die of its I/O die or HBM port (R22). -/
def State.ioDieHome (s : State) (io : Nat) : Nat :=
  if s.factory.computeDies = 1 then 0 else if s.factory.ioDies = 2 then io else io / 2
def State.homeDie (s : State) (u : Nat) : Nat :=
  if unitClass u = 5 then s.ioDieHome (unitUnit u / 4) else if unitClass u = 4 then unitUnit u / 4 else unitDie u

-- ---------------------------------------------------------------- licences (R61 to R64)

def licFeature (r : Nat) : Nat := fld r 48 16
def licValue (r : Nat) : Nat := fld r 192 32
def licKey (r : Nat) : Nat := fld r 224 16
def licNonce (r : Nat) : Nat := fld r 320 64
def licSerial (r : Nat) : Nat := fld r 64 128

/-- The module's serial number as the 16 bytes of a licence record. -/
def State.serialNat (s : State) : Nat := leVal s.factory.serial

/-- LIC_STATUS codes of R63 in the order of its table (log entry 21): 0 OK, then 1 to 7. DESIGN CHOICE (log entry 86): a
PORTS licence whose VALUE has a bit set above bit 15 is out of range, LIC_FEATURE. -/
def State.licCheck (s : State) (r : Nat) : Nat :=
  if fld r 0 32 ≠ 0x4C4D4C31 ∨ fld r 32 16 ≠ 1 ∨ fld r 240 16 ≠ 0 then 1
  else if 4 ≤ licKey r ∨ !s.factory.keysProgrammed.testBit (licKey r) ∨ s.factory.keysRevoked.testBit (licKey r) then 2
  else if !Config.licenceSigned r then 3
  else if licSerial r ≠ s.serialNat then 4
  else if !(match licFeature r with
      | 1 => decide (licValue r < 65536)
      | 2 => decide (13 ≤ licValue r) && decide (licValue r ≤ 18)
      | 3 => decide (5 ≤ licValue r) && decide (licValue r ≤ 15)
      | _ => false) then 5
  else if licFeature r = 1 ∧ (List.range 16).any (fun p => (licValue r).testBit p &&
      (decide (4 * s.factory.ioDies ≤ p) || !s.factory.ports.testBit p || s.defect (portAddr p))) then 6
  else if s.flash.licences.length ≥ 32 ∧ !(s.flash.licences.any (fun x => licNonce x.toNat == licNonce r)) then 7
  else 0

/-- Verify the stored licences again at boot, skipping those that fail (R64): the status of the last that
failed, and the records that hold. -/
def State.licensesAtBoot (s : State) : List Nat × Nat :=
  s.flash.licences.foldl (fun (acc : List Nat × Nat) x =>
    let c := s.licCheck x.toNat
    if c = 0 ∨ c = 7 then (acc.1 ++ [x.toNat], acc.2) else (acc.1, c)) ([], s.cat.licStatus)

/-- The limits in force after a boot (R62, R64). -/
def State.applyLicences (s : State) : State :=
  let (rs, st) := s.licensesAtBoot
  let ctxs := (rs.filter (fun r => licFeature r == 3)).map licValue
  let fabs := (rs.filter (fun r => licFeature r == 2)).map licValue
  let mask := ((rs.filter (fun r => licFeature r == 1)).map licValue).foldl (· ||| ·) 0
  { s with cat := { s.cat with
      licStatus := st
      userContexts := if s.factory.lifted.testBit 0 then 15 else ctxs.foldl max 4
      fabricDevices := if s.factory.lifted.testBit 1 then 262144
        else match fabs with
          | [] => 4096
          | _ => 2 ^ fabs.foldl max 13
      portsOn := mask } }

end Sys2Proof.Machine
end

