-- ==== Sys2Proof/Machine/Routes.lean ====
section
/-! DEFINITION. The ways of weft packets (chapter The weft mesh and the I/O ring, R233 to R249): ring stops, nodes, the layouts of
a flit's sideband and of a header flit, the routing tables and the channels a packet takes under them. -/

namespace Sys2Proof.Machine

-- ---------------------------------------------------------------- ring stops (R233, R243, R248)

def edgeDist (site : Nat) : Nat := min (min (siteCol site) (17 - siteCol site)) (min (siteRow site) (15 - siteRow site))

/-- The stop of the edge router nearest to a site, ties north, east, south, west (R233, R243). -/
def exitStop (site : Nat) : Nat :=
  let c := siteCol site
  let r := siteRow site
  let e := edgeDist site
  if r = e then c
  else if 17 - c = e then 17 + r
  else if 15 - r = e then (if c = 17 then 32 else 49 - c)
  else (if r = 15 then 49 else 64 - r)

/-- Segments from stop `a` to stop `b`, clockwise and anticlockwise. -/
def segsCw (a b : Nat) : Nat := (b + 64 - a) % 64
def segs (a b : Nat) : Nat := min (segsCw a b) (segsCw b a)

/-- The nearest of some stops, clockwise on a tie. -/
def nearStop (a : Nat) (bs : List Nat) : Nat :=
  (bs.foldl (fun (best : Option Nat) b => match best with
    | none => some b
    | some x => if segs a b < segs a x ∨ (segs a b = segs a x ∧ segsCw a b < segsCw a x) then some b else best) none).getD a

/-- The stops of the ring units (R248). -/
def hbmStops (p : Nat) : List Nat := match p with
  | 0 => [61, 62, 63] | 1 => [50, 51, 52] | 2 => [18, 19, 20] | _ => [29, 30, 31]
def bankStops (g : Nat) : List Nat := match g with
  | 0 => [1, 2, 3, 4] | 1 => [5, 6, 7, 8] | 2 => [9, 10, 11, 12] | 3 => [13, 14, 15, 16]
  | 4 => [33, 34] | 5 => [35, 36] | 6 => [45, 46] | _ => [47, 48]
def ioStops (east : Bool) : List Nat := if east then [23, 24, 25, 26] else [55, 56, 57, 58]
def bridgeStops : List Nat := [37, 38, 39, 40, 41, 42, 43, 44]

/-- Site of a ring stop's edge router and the direction that faces off the die (R233, R266). -/
def stopSite (s : Nat) : Nat × Nat :=
  if s < 18 then (s, 0)
  else if s < 33 then ((s - 17) * 18 + 17, 1)
  else if s < 50 then (15 * 18 + (49 - s), 2)
  else ((64 - s) * 18, 3)

-- ---------------------------------------------------------------- nodes (R235, R248)

/-- A node as DEST_NODE and SRC_NODE name it: bit 10 die, bit 9 kind, bits 8:0 site index or unit node. -/
def siteNode (die site : Nat) : Nat := at_ 10 1 die + at_ 0 9 site
def unitNode (die unit : Nat) : Nat := at_ 10 1 die + at_ 9 1 1 + at_ 0 9 unit
def nodeDie (n : Nat) : Nat := fld n 10 1
def nodeIsUnit (n : Nat) : Bool := bitOf n 9
def nodeLow (n : Nat) : Nat := fld n 0 9

/-- Stops of the ring unit with a node number (R248); none for a number the table does not give. -/
def unitStops (u : Nat) : List Nat :=
  if u < 4 then hbmStops u
  else if 8 ≤ u ∧ u < 16 then bankStops (u - 8)
  else if u = 0x10 then ioStops false
  else if u = 0x11 then ioStops true
  else if u = 0x18 then bridgeStops
  else if 0x20 ≤ u ∧ u < 0x24 then hbmStops (u - 0x20)
  else if 0x24 ≤ u ∧ u < 0x2C then bankStops (u - 0x24)
  else []

/-- Nodes of the units at which packets begin or end on a die. -/
def unitNodes : List Nat :=
  List.range 4 ++ (List.range 8).map (0x08 + ·) ++ [0x10, 0x11] ++ (List.range 12).map (0x20 + ·)

/-- The node of streamer `n` of a die (R248, R251). -/
def streamerNode (die n : Nat) : Nat := unitNode die (0x20 + n)

/-- The die and side of the compute-die link of an I/O die (R22). -/
def State.ioLink (s : State) (io : Nat) : Nat × Bool :=
  if s.factory.computeDies = 1 then (0, io == 1)
  else if s.factory.ioDies = 2 then (io, false)
  else (io / 2, io % 2 == 1)

/-- The node of the link to an I/O die. -/
def State.ioNode (s : State) (io : Nat) : Nat :=
  let l := s.ioLink io
  unitNode l.1 (if l.2 then 0x11 else 0x10)

/-- The node by which a packet for another device leaves a die. -/
def State.outNode (s : State) (die device : Nat) : Nat :=
  let both := s.factory.computeDies == 1 || s.factory.ioDies == 4
  unitNode die (if both && Config.outEast die device then 0x11 else 0x10)

/-- The node that serves a local address (R204, R242, R248), translated as the die's translation stands; none where no unit
of the weft does. -/
def State.nodeOf (s : State) (a : Nat) : Option Nat :=
  match place a with
  | .hbm st _ => some (unitNode (st / 4) (st % 4))
  | .spad d off => some (unitNode d (0x08 + off / 0x200000 / 6))
  | .tileWin d t _ => (s.siteOf d t).map (siteNode d)
  | _ => none

-- ---------------------------------------------------------------- flits and packets (R234, R235, R237)

/-- A traffic class, as CLASS of the sideband codes it. -/
inductive WeftClass where
  | ctrl | req | rsp | bulk
  deriving DecidableEq, Repr

def WeftClass.code : WeftClass → Nat
  | .ctrl => 0 | .req => 1 | .rsp => 2 | .bulk => 3

/-- Credits of a class per input port and virtual channel, in flits (R237). -/
def WeftClass.credits : WeftClass → Nat
  | .ctrl => 4 | .req => 8 | .rsp => 16 | .bulk => 16

/-- The class of a packet by its OP and its data lines (R235). -/
def weftClass (op len : Nat) : WeftClass :=
  match op with
  | 0x0 | 0x2 | 0x3 => .req
  | 0x1 => if len ≤ 1 then .req else .bulk
  | 0xC => .ctrl
  | _ => .rsp

/-- The class of an access (R235, R237). -/
def Access.cls (a : Access) : WeftClass := weftClass a.kind a.len

/-- A memory streamer's fetches are READs in the class BULK (R237, R250). -/
def fetchClass : WeftClass := .bulk

/-- Data flits that follow the header flit of a packet. -/
def weftFlits (op len : Nat) : Nat :=
  match op with
  | 0x1 | 0x8 => len
  | 0x2 | 0x3 => 1
  | _ => 0

/-- The sideband of a flit (R234). The polynomial of its CRC-16, over the data and bits 31:16, is not in the manual. -/
def sideband (cls : WeftClass) (vc head tail poison tbank : Bool) (data : Nat) : Nat :=
  let top := at_ 30 2 cls.code + at_ 29 1 (b2n vc) + at_ 28 1 (b2n head) + at_ 27 1 (b2n tail) + at_ 26 1 (b2n poison)
    + at_ 25 1 (b2n tbank)
  top + (Config.weftCrc (data * 2 ^ 16 + top / 2 ^ 16)).toNat

/-- The fields of a header flit (R235). -/
structure WeftHdr where
  byteMask : Nat := 0
  addr : Nat := 0
  srcDevice : Nat := 0
  tag : Nat := 0
  gen : Nat := 0
  ctx : Nat := 0
  len : Nat := 0
  status : Nat := 0
  op : Nat := 0
  destNode : Nat := 0
  srcNode : Nat := 0
  ctrlArg : Nat := 0
  deriving DecidableEq, Repr

def WeftHdr.bits (h : WeftHdr) : Nat :=
  at_ 320 64 h.byteMask + at_ 274 46 h.addr + at_ 256 18 h.srcDevice + at_ 240 16 h.tag + at_ 232 8 h.gen + at_ 228 4 h.ctx
  + at_ 220 8 h.len + at_ 212 8 h.status + at_ 208 4 h.op + at_ 197 11 h.destNode + at_ 186 11 h.srcNode + at_ 0 186 h.ctrlArg

/-- The flits of a packet, each its 512 bits and its sideband: the header flit with HEAD, then the data flits, TAIL with the last; a
packet without data is one flit with both (R234, R235). -/
def WeftHdr.flits (h : WeftHdr) (cls : WeftClass) (vc tbank : Bool) (lines : List (Nat × Bool)) : List (Nat × Nat) :=
  let n := weftFlits h.op h.len
  let flit (i data : Nat) (poison : Bool) : Nat × Nat := (data, sideband cls vc (i == 0) (i == n) poison tbank data)
  flit 0 h.bits false :: (List.range n).map (fun i => let l := lines.getD i (0, false); flit (i + 1) l.1 l.2)

/-- The header of a command packet; CTRL_ARG holds the command and its arguments, whose places in it the manual does not give (log
entry 24). -/
def ctrlHeader (device ctx gen src dst arg : Nat) : WeftHdr :=
  { srcDevice := device, ctx := ctx, gen := gen, op := 0xC, destNode := dst, srcNode := src, ctrlArg := arg }

/-- The header flit of an access's request, and of its response once it is answered: RD_DATA, WR_ACK or ERROR, from where it was
served back to the requester. `src` and `dst` are those of the packet under way. -/
def Access.header (a : Access) (device : Nat) : WeftHdr :=
  let h : WeftHdr := {
    addr := a.addr, srcDevice := device, tag := a.id % 65536, gen := a.gen, ctx := a.ctx, destNode := a.dst, srcNode := a.src }
  match a.st with
  | .sent => { h with byteMask := if a.kind = 2 then a.mask else 0, len := a.len, op := a.kind }
  | .answered =>
    if a.status ≠ .ok then { h with op := 0xA, status := a.status.code }
    else if a.kind = 0 then { h with op := 0x8, len := a.data.length }
    else { h with op := 0x9 }

-- ---------------------------------------------------------------- routing tables (R241, R243)

def tblKey (router bank entry : Nat) : Nat := (router * 2 + bank) * 353 + entry

def teValid (e : Nat) : Bool := bitOf e 15
def teTurn (e : Nat) : Bool := bitOf e 14
def tePort (e : Nat) : Nat := fld e 8 3

/-- The defined bits of an entry: the reserved ones read zero. -/
def teBits (v : Nat) : Nat := at_ 14 2 (fld v 14 2) + at_ 8 3 (fld v 8 3)

/-- The port towards the nearest edge, or to the ring at an edge router. -/
def exitPort (site : Nat) : Nat :=
  let e := edgeDist site
  if e = 0 then 5
  else if siteRow site = e then 1
  else if 17 - siteCol site = e then 2
  else if 15 - siteRow site = e then 3
  else 4

/-- The port towards a site, along the row first. -/
def sitePort (site goal : Nat) : Nat :=
  if siteCol site < siteCol goal then 2
  else if siteCol goal < siteCol site then 4
  else if siteRow site < siteRow goal then 3
  else if siteRow goal < siteRow site then 1
  else 0

/-- An entry of the default tables (R243). -/
def defaultEntry (router entry : Nat) : Nat := at_ 15 1 1 + at_ 8 3 (if entry < 288 then sitePort router entry else exitPort router)

/-- An entry of a router's bank: as the curator wrote it, else the default that every entry takes when the catalogue is loaded;
before that VALID is 0. -/
def State.tblEntry (s : State) (die router bank entry : Nat) : Nat :=
  match SMap.get 0 (s.die die).tables (tblKey router bank entry) with
  | 0 => if (s.die die).tablesOn then defaultEntry router entry else 0
  | v + 1 => v

-- ---------------------------------------------------------------- the channels of a way (R240, R243, R249)

/-- A channel that a packet's flits take: a mesh link out of a site in a direction, a ring segment out of a stop, or the bridge
from a stop; with its virtual channel. -/
inductive Hop where
  | mesh (die site dir : Nat) (vc : Bool)
  | ring (die stop : Nat) (cw vc : Bool)
  | bridge (die stop : Nat) (vc : Bool)
  deriving DecidableEq, Repr

/-- Entries of every die's routers: die, router, entry. -/
abbrev Tables := Nat → Nat → Nat → Nat

def defaultTables : Tables := fun _ => defaultEntry

/-- The tables under the banks of a packet: bit `d` of `banks` is the bank of die `d`. -/
def State.tablesOf (s : State) (banks : Nat) : Tables := fun d r e => s.tblEntry d r (fld banks d 1) e

/-- What a router does with a packet. -/
inductive Turn where
  | tile
  | ring
  | link (hop : Hop) (site : Nat) (vc : Bool)
  | none
  deriving DecidableEq, Repr

/-- A router under one entry: to its tile, to the ring at an edge router, or over a link; on VC1 from where an entry sets VC_TURN
(R240). No way out where the entry is not valid, names a reserved port or leads off the die. -/
def meshStep (tb : Tables) (die entry site : Nat) (vc0 : Bool) : Turn :=
  let e := tb die site entry
  let vc := vc0 || teTurn e
  if !teValid e then .none
  else match tePort e with
    | 0 => .tile
    | 5 => if edgeDist site = 0 then .ring else .none
    | p + 1 =>
      match (if p < 4 then neighbour site p else none) with
      | none => .none
      | some n => .link (.mesh die site p vc) n vc

/-- Follow one entry through the mesh of a die: the hops, the router where the packet leaves, and whether it leaves for the ring. -/
def meshWalk (tb : Tables) (die entry : Nat) : Nat → (site : Nat) → (vc : Bool) → Option (List Hop × Nat × Bool)
  | 0, _, _ => none
  | k + 1, site, vc =>
    match meshStep tb die entry site vc with
    | .tile => some ([], site, false)
    | .ring => some ([], site, true)
    | .link h n v => (meshWalk tb die entry k n v).map (fun r => (h :: r.1, r.2))
    | .none => none

/-- The longest way through a mesh passes every router once. -/
def meshFuel : Nat := 289

/-- The shorter way round the ring, clockwise on a tie: on VC1 once the packet is on VC1 or has passed stop 0. -/
def ringWalk (die a b : Nat) (vc : Bool) : List Hop :=
  let cw := decide (segsCw a b ≤ segsCw b a)
  (List.range (segs a b)).map (fun i =>
    if cw then .ring die ((a + i) % 64) true (vc || decide (64 ≤ a + i))
    else .ring die ((a + 64 - i) % 64) false (vc || decide (0 < a ∧ a ≤ i)))

def Hop.vc : Hop → Bool
  | .mesh _ _ _ v => v
  | .ring _ _ _ v => v
  | .bridge _ _ v => v

/-- Where a site's packets for the ring leave its die's mesh, by the entry of stop 0. -/
def exitOf (tb : Tables) (die site : Nat) : Option Nat :=
  match meshWalk tb die 288 meshFuel site false with
  | some (_, e, true) => some (exitStop e)
  | _ => none

/-- From a stop of a die into its mesh, to a site: on VC1 (R240). -/
def enterMesh (tb : Tables) (die stop site : Nat) : Option (List Hop) :=
  match meshWalk tb die site meshFuel (stopSite stop).1 true with
  | some (hs, e, false) => if e = site then some hs else none
  | _ => none

/-- A site's packet to the ring under an entry of its table: the hops and the stop. -/
def leaveMesh (tb : Tables) (die entry site : Nat) : Option (List Hop × Nat) :=
  match meshWalk tb die entry meshFuel site false with
  | some (hs, e, true) => some (hs, exitStop e)
  | _ => none

/-- From the paired stop of the other die on, as if injected there. -/
def fromBridge (tb : Tables) (die stop dst : Nat) (vc : Bool) : Option (List Hop) :=
  if nodeIsUnit dst then some (ringWalk die stop (nearStop stop (unitStops (nodeLow dst))) vc)
  else enterMesh tb die stop (nodeLow dst)

/-- Round the ring to the nearest bridge stop and across. -/
def toBridge (die stop : Nat) : List Hop :=
  let b := nearStop stop bridgeStops
  let hs := ringWalk die stop b false
  hs ++ [.bridge die b ((hs.getLast?.map Hop.vc).getD false)]

/-- To the other die. DEDUCED (log entry 74): a packet keeps its virtual channel across the bridge, since it never returns to
VC0 (R240). -/
def overBridge (tb : Tables) (die stop dst : Nat) : Option (List Hop) :=
  let hs := toBridge die stop
  (fromBridge tb (1 - die) (81 - nearStop stop bridgeStops) dst ((hs.getLast?.map Hop.vc).getD false)).map (fun r => hs ++ r)

/-- The stop at which a unit's packet begins: DESIGN CHOICE (log entry 74), the one at which a packet from its destination would
end, so that an answer goes back the way of its request. -/
def startStop (tb : Tables) (die : Nat) (stops : List Nat) (dst : Nat) : Nat :=
  let there (d : Nat) : Nat := if nodeIsUnit dst then (unitStops (nodeLow dst)).headD 0 else (exitOf tb d (nodeLow dst)).getD 0
  if nodeDie dst = die then nearStop (there die) stops
  else nearStop (81 - nearStop (there (1 - die)) bridgeStops) stops

/-- The way of a packet from a node to another (R243), none where the tables lead it nowhere. -/
def wayOf (tb : Tables) (src dst : Nat) : Option (List Hop) :=
  let die := nodeDie src
  if nodeIsUnit src then
    let a := startStop tb die (unitStops (nodeLow src)) dst
    if nodeDie dst ≠ die then overBridge tb die a dst
    else if nodeIsUnit dst then some (ringWalk die a (nearStop a (unitStops (nodeLow dst))) false)
    else
      match exitOf tb die (nodeLow dst) with
      | some b => (enterMesh tb die b (nodeLow dst)).map (fun hs => ringWalk die a b false ++ hs)
      | none => none
  else
    let x := nodeLow src
    if nodeDie dst ≠ die then
      match leaveMesh tb die 352 x with
      | some (hs, a) => (overBridge tb die a dst).map (fun r => hs ++ r)
      | none => none
    else if nodeIsUnit dst then
      match leaveMesh tb die (288 + nearStop (exitStop x) (unitStops (nodeLow dst))) x with
      | some (hs, a) => some (hs ++ ringWalk die a (nearStop a (unitStops (nodeLow dst))) false)
      | none => none
    else
      match meshWalk tb die (nodeLow dst) meshFuel x false with
      | some (hs, e, false) => if e = nodeLow dst then some hs else none
      | _ => none

-- ---------------------------------------------------------------- what a way crosses (R47, R246)

/-- A site's router, by the name of R53. -/
def routerName (die site : Nat) : Nat := catAddr 0 die 2 (sitePack site)

/-- The weft units that a hop takes: a link, and the routers at its ends, by the names of R53. -/
def Hop.units : Hop → List Nat
  | .mesh die site dir _ => linkName die site dir :: routerName die site :: ((neighbour site dir).map (routerName die)).toList
  | .ring _ _ _ _ => []
  | .bridge _ _ _ => []

def wayUnits (hs : List Hop) : List Nat := (hs.map Hop.units).flatten

/-- A node's own router, which every packet from or to a site takes, though it takes no mesh link. -/
def nodeRouter (n : Nat) : List Nat := if nodeIsUnit n then [] else [routerName (nodeDie n) (nodeLow n)]

/-- The units on a packet's way between two nodes, and those of their routers. -/
def pathUnits (src dst : Nat) (hs : List Hop) : List Nat := nodeRouter src ++ nodeRouter dst ++ wayUnits hs

/-- The banks a packet is injected under now: the active bank of each die (R242). -/
def State.banksNow (s : State) : Nat := at_ 0 1 (s.die 0).tableBank + at_ 1 1 (s.die 1).tableBank

/-- Whether a packet between two nodes meets a unit that has failed hard. -/
def State.cut (s : State) (banks src dst : Nat) : Bool :=
  s.weftBroken && (match wayOf (s.tablesOf banks) src dst with
    | none => true
    | some hs => (pathUnits src dst hs).any (fun u => SMap.get false s.cur.hard u))

/-- Whether an access made at once between a node and a local address, or its answer, is lost (R246). -/
def State.wayLost (s : State) (src a : Nat) : Bool :=
  s.weftBroken && (match s.nodeOf a with
    | some dst => s.cut s.banksNow src dst || s.cut s.banksNow dst src
    | none => false)

/-- An access as its packet is injected (R242): its two nodes, translated now, the active banks, and whether it meets a unit that
has failed hard. -/
def State.packet (s : State) (a : Access) : Access :=
  let src := match s.siteOf a.die a.tile with
    | some x => siteNode a.die x
    | none => siteNode a.die 0
  let dst := if a.device ≠ s.device then s.outNode a.die a.device else (s.nodeOf a.addr).getD src
  { a with src := src, dst := dst, banks := s.banksNow, lost := s.cut s.banksNow src dst }

/-- The answer to an access is injected where it was served, a forwarded one at the tile's new site, back to where it came from. -/
def State.answerPacket (s : State) (a : Access) : Access :=
  let here := if a.device ≠ s.device then a.dst else (s.nodeOf a.addr).getD a.dst
  { a with src := here, dst := a.src, banks := s.banksNow, lost := s.cut s.banksNow here a.src }

/-- A peer's request as the I/O die hands it to the weft (R235, R418): from its link to the die of the target. -/
def State.peerAccess (s : State) (kind from_ addr len mask ctx gen tag : Nat) : Access :=
  let dst := (s.nodeOf addr).getD 0
  let src := s.outNode (nodeDie dst) from_
  { id := tag, kind := kind, device := s.device, addr := addr, len := len, mask := mask, ctx := ctx, gen := gen
    src := src, dst := dst, banks := s.banksNow, lost := s.cut s.banksNow src dst }

/-- The header flit of a peer's request or of the answer to it: SRC_DEVICE is the peer (R235). -/
def Access.peerHeader (a : Access) (from_ : Nat) : WeftHdr := a.header from_

/-- Packets on, or queued for, a unit that fails hard are lost (R246): of those whose way crosses it, a free value says which
are not yet past it. -/
def State.loseOn (s : State) (u : Nat) : State :=
  let on (a : Access) : Bool := !a.held && (match wayOf (s.tablesOf a.banks) a.src a.dst with
    | some hs => (pathUnits a.src a.dst hs).contains u
    | none => true)
  ({ s with accs := s.accs.map (fun a =>
      if on a && (Config.freeByte (s.free + a.id)).toNat % 2 == 1 then { a with lost := true } else a) } : State).takeFree s.nextAcc

-- ---------------------------------------------------------------- a change of the tables (R244, R245)

/-- A router or link leaves the tables: by the change asked for, or by the next one while that one waits for its old bank. -/
def State.routeAround (s : State) (u : Nat) : State :=
  s.updDie (unitDie u) (fun d =>
    if d.tableSw.written then { d with routeNext := SMap.set false d.routeNext (unitName u) true }
    else { d with tableSw := { d.tableSw with active := true }, routeOut := SMap.set false d.routeOut (unitName u) true })

/-- Weft routers and links that the catalogue or a test holds out of service. -/
def State.weftOut (s : State) (die : Nat) : List Nat :=
  (((s.factory.fuses.map (·.1)) ++ (s.cat.fieldOut.map (·.1)) ++ (s.cur.retired.map (·.1))).map unitName).filter (fun u =>
    (unitClass u == 2 || unitClass u == 3) && unitDie u == die && s.unitOut u)

/-- R243, R503. At start-up and in a warm reset the tables are computed without the units that are out: those the tables do not
yet lead around ask for a set before the networks run. -/
def State.bootRoutes (s : State) (die : Nat) : State :=
  let us := (s.weftOut die).filter (fun u => !SMap.get false (s.die die).routeOut u)
  if us.isEmpty then s
  else s.updDie die (fun d => { d with
    tableSw := { active := true, boot := true }, routeOut := us.foldl (fun m u => SMap.set false m u true) d.routeOut })

/-- Whether a die still waits for the tables of a start-up or warm reset. -/
def State.routesDue (s : State) : Bool := [0, 1].any (fun d => (s.die d).tableSw.active && (s.die d).tableSw.boot)

-- ---------------------------------------------------------------- the check of a table set (R244)

/-- The channel dependencies of a way: each channel waits for the next. -/
def waitsOf : List Hop → List (Hop × Hop)
  | a :: b :: hs => (a, b) :: waitsOf (b :: hs)
  | _ => []

/-- Stops of the unit whose entry a stop's is, or the stop itself. -/
def stopUnit (stop : Nat) : List Nat :=
  ((unitNodes.map unitStops).find? (fun ss => ss.contains stop)).getD [stop]

/-- On the ring from the stop where a packet leaves the mesh under an entry. -/
def afterMesh (die entry stop : Nat) : List Hop :=
  if entry = 352 then toBridge die stop else ringWalk die stop (nearStop stop (stopUnit (entry - 288))) false

/-- What a packet injected at a router first takes under an entry, two channels of it: every pair of channels of a way on VC0 is
the first pair of the way from where it begins. -/
def firstTwo (tb : Tables) (die entry site : Nat) : List Hop :=
  match meshStep tb die entry site false with
  | .link h n v =>
    (match meshStep tb die entry n v with
    | .link h2 _ _ => [h, h2]
    | .ring => h :: (afterMesh die entry (exitStop n)).take 1
    | _ => [])
  | _ => []

/-- The whole way from a router whose entry turns a packet to VC1. -/
def turnedWay (tb : Tables) (die entry site : Nat) : List Hop :=
  if teTurn (tb die site entry) then
    match meshWalk tb die entry meshFuel site false with
    | some (hs, e, r) => if r then hs ++ (afterMesh die entry (exitStop e)).take 1 else hs
    | none => []
  else []

/-- The ways into the mesh to a site from a stop, after every channel that comes to the stop. -/
def entryWays (tb : Tables) (die stop site : Nat) : List (List Hop) :=
  let hs := (enterMesh tb die stop site).getD []
  hs :: [false, true].flatMap (fun v =>
    [Hop.ring die ((stop + 63) % 64) true v, .ring die ((stop + 1) % 64) false v, .bridge (1 - die) (81 - stop) v].map (fun h => h :: hs.take 1))

/-- Ways around a die's ring to the units, injected at any stop or come over the bridge, and to the other die. -/
def ringWays (die : Nat) : List (List Hop) :=
  (List.range 64).flatMap (fun a => toBridge die a :: unitNodes.flatMap (fun u =>
    let w (v : Bool) : List Hop := ringWalk die a (nearStop a (unitStops u)) v
    w false :: (if bridgeStops.contains a then [Hop.bridge (1 - die) (81 - a) false :: w false, Hop.bridge (1 - die) (81 - a) true :: w true] else [])))

/-- Every dependency of a die's tables, between the routers that are in service. -/
def tableWaits (tb : Tables) (bad : Nat → Bool) (die : Nat) : List (Hop × Hop) :=
  let sites := (List.range 288).filter (fun x => !bad (routerName die x))
  (((List.range 353).flatMap (fun e => sites.flatMap (fun x => [firstTwo tb die e x, turnedWay tb die e x]))
    ++ sites.flatMap (fun y => ((exitOf tb die y).toList ++ bridgeStops).flatMap (fun b => entryWays tb die b y))
    ++ ringWays die).map waitsOf).flatten

/-- A number of its own for each channel. -/
def Hop.id : Hop → Nat
  | .mesh d x dir v => d * 4096 + (x * 4 + dir) * 2 + b2n v
  | .ring d st cw v => d * 4096 + 2304 + (st * 2 + b2n cw) * 2 + b2n v
  | .bridge d st v => d * 4096 + 2560 + st * 2 + b2n v

/-- The channels each channel waits for. -/
def waitArray (ws : List (Hop × Hop)) : Array (List Nat) :=
  ws.foldl (fun m w => m.modify w.1.id (fun l => if l.contains w.2.id then l else w.2.id :: l)) (Array.replicate 8192 [])

/-- Keep only the channels that wait for one still kept, until none more goes: what is left leads to a cycle. -/
def trimWaits (succ : Array (List Nat)) : Nat → Array Bool → Array Bool
  | 0, m => m
  | k + 1, m =>
    let m' := succ.map (fun l => l.any (fun j => m.getD j false))
    if m' == m then m else trimWaits succ k m'

def acyclic (ws : List (Hop × Hop)) : Bool :=
  let succ := waitArray ws
  !(trimWaits succ 8192 (Array.replicate 8192 true)).any id

/-- A hop along a column, or along a row, of the mesh. -/
def Hop.along (col : Bool) : Hop → Bool
  | .mesh _ _ dir _ => (dir % 2 == 0) == col
  | _ => false

/-- A way under an entry turns from the column direction into the row direction at most once, where its entry carries VC_TURN
(R243). -/
def turnsOk (tb : Tables) (entry : Nat) (hs : List Hop) : Bool :=
  let ts := (waitsOf hs).filter (fun w => w.1.along true && w.2.along false)
  decide (ts.length ≤ 1) && ts.all (fun w => match w.2 with
    | .mesh d x _ _ => teTurn (tb d x entry)
    | _ => false)

/-- Whether the tables serve a site: its router is in service, it reaches every stop's entry and the other die's, and the ring
reaches it, across no unit that is out. -/
def serves (tb : Tables) (bad : Nat → Bool) (die site : Nat) : Bool :=
  !bad (routerName die site) && (List.range 65).all (fun i => match leaveMesh tb die (288 + i) site with
      | some (hs, a) => !(wayUnits hs).any bad && turnsOk tb (288 + i) hs && (match enterMesh tb die a site with
        | some hs => !(wayUnits hs).any bad && turnsOk tb site hs
        | none => false)
      | none => false)

/-- Whether two sites of a die reach each other across no unit that is out. -/
def siteWayOk (tb : Tables) (bad : Nat → Bool) (die x y : Nat) : Bool :=
  match meshWalk tb die y meshFuel x false with
  | some (hs, e, r) => e == y && !r && !(wayUnits hs).any bad && turnsOk tb y hs
  | none => false

/-- R244. A set may be installed: the sites it serves reach each other, and the channel dependencies of both dies make no cycle.
All four classes take the same ways, so one graph stands for each. -/
def setOk (tb : Tables) (bad : Nat → Bool) (sites : List (Nat × Nat)) (dies : Nat) : Bool :=
  sites.all (fun p => sites.all (fun q => p.1 != q.1 || siteWayOk tb bad p.1 p.2 q.2))
  && acyclic ((List.range dies).flatMap (tableWaits tb bad))

end Sys2Proof.Machine
end

