-- ==== Sys2Proof/Machine/Curator.lean ====
section
/-! DEFINITION. The curator (chapter Result integrity and the health curator, R486 to R502): accession
records, health scores, flags, margin actions and common-cause events; and the delays that HBM refresh causes (R568, R570), which the
step ledger counts. -/

namespace Sys2Proof.Machine

-- ---------------------------------------------------------------- accession records (R500)

/-- What an accession record carries besides SEQ and time. -/
structure AccRec where
  kind : Nat
  unit : Nat := 0
  cls : Nat := 0
  arg : Nat := 0
  cause : Nat := 0
  newUnit : Nat := 0
  before : Nat := 0
  after : Nat := 0
  logical : Nat := 0x1FF
  contexts : Nat := 0
  durationUs : Nat := 0
  hard : Bool := false
  rehearsal : Bool := false
  deriving DecidableEq, Repr

def AccRec.bits (r : AccRec) (seq time : Nat) : Nat :=
  at_ 224 32 seq + at_ 160 64 time + at_ 144 16 r.newUnit + at_ 128 16 r.arg + at_ 120 8 r.after + at_ 112 8 r.before
  + at_ 104 8 r.cause + at_ 96 8 r.kind + at_ 87 9 r.logical + at_ 83 4 r.cls + at_ 79 4 (unitDie r.unit)
  + at_ 63 16 (unitUnit r.unit) + at_ 59 4 (unitSub r.unit) + at_ 32 16 r.contexts
  + at_ 16 16 (min r.durationUs 65535) + at_ 2 1 (b2n r.hard) + at_ 1 1 (b2n r.rehearsal)

/-- Contexts that hold a current card on a tile, as a mask and as a list (R297, R298). -/
def SlotSt.isCurrent : SlotSt → Bool
  | .current | .finished | .halted => true
  | _ => false

def Tile.currentSlot (t : Tile) (c : Nat) : Option Nat :=
  (List.range 4).find? (fun k => (t.slot k).st.isCurrent && (t.slot k).ctx == c)

def Tile.ctxsOn (t : Tile) : List Nat := (List.range 16).filter (fun c => (t.currentSlot c).isSome)

def maskOf (cs : List Nat) : Nat := cs.foldl (fun m c => m ||| 2 ^ c) 0

/-- The contexts with a current card on a unit, if the unit is a tile site. -/
def State.unitCtxs (s : State) (u : Nat) : List Nat :=
  if unitClass u = 0 then
    match s.tileAt (unitDie u) (siteOfPack (unitUnit u)) with
    | some t => (s.tile (unitDie u) t).ctxsOn
    | none => []
  else []

/-- Write an accession record: the latest 1,024 are kept; the monitor's trace prints it (R618) and the PF's
vector 4 is signalled (R563). -/
def State.logAcc (s : State) (r : AccRec) : State :=
  let seq := s.cur.seq.toNat + 1
  let bits := r.bits seq s.recordTime
  let s1 := { s with cur := { s.cur with
    seq := s.cur.seq + 1
    log := (s.cur.log ++ [BitVec.ofNat 256 bits]).drop ((s.cur.log.length + 1) - 1024) } }
  let s2 := if s1.mon.trace = 1 then s1.emit (.console ["~ " ++ dec s1.recordTime ++ " " ++ hex bits]) else s1
  s2.signalPf 4

-- ---------------------------------------------------------------- policy (R501)

def State.policy (s : State) : Nat := s.obj 0x3010 2 0
def State.suspectAt (s : State) : Nat := fld s.policy 40 8
def State.probation (s : State) : Nat := fld s.policy 32 8
def State.recoverS (s : State) : Nat := fld s.policy 24 8
def State.ccCount (s : State) : Nat := fld s.policy 16 8
def State.deaccLimit (s : State) : Nat := fld s.policy 8 8
def State.deferRaise (s : State) : Bool := bitOf s.policy 0
def State.healthMode (s : State) : Nat := s.obj 0x3010 1 0

def State.score (s : State) (u : Nat) : Nat := 255 - SMap.get 0 s.cur.lost u
def State.setScore (s : State) (u v : Nat) : State :=
  { s with cur := { s.cur with lost := SMap.set 0 s.cur.lost u (255 - v), eventAt := SMap.set 0 s.cur.eventAt u s.pwr.uptime } }

-- ---------------------------------------------------------------- the step ledger's tallies (R463)

/-- Non-determinism counter: ORDER and TIMING of a context, and the module's part of TIMING (R460). -/
def State.ndcOrder (s : State) (c : Nat) : State := s.count 0x80B0 1 c 1
def State.ndcTiming (s : State) (c : Nat) : State := s.count 0x80B0 2 c 1
def State.ndcModule (s : State) : State := s.count 0x80B0 3 0 1

/-- The running graphs of contexts count a rehearsed event (R463, R524). -/
def State.markRehearsal (s : State) (cs : List Nat) : State :=
  cs.foldl (fun s c => s.updCtx c (fun x => { x with graph := x.graph.map (fun g => { g with rehearsal := true }) })) s

-- ---------------------------------------------------------------- domains (R498)

/-- Domains of a unit: its compute die or I/O die, and its supply (2 VIN_CORE, 3 VIN_IO). -/
def unitDomains (u : Nat) : Nat × Nat := (unitDie u, if unitClass u = 5 then 3 else 2)

/-- The compute dies whose islands a domain holds. -/
def State.domainDies (s : State) (dom : Nat) : List Nat :=
  if dom < 2 then [dom] else if dom = 2 then List.range s.factory.computeDies else []

def State.heldDomain (s : State) (dom : Nat) : Bool := s.cur.holds.any (fun h => h.domain == dom)

/-- A unit under a common-cause hold: of its die or of its supply. -/
def State.unitHeld (s : State) (u : Nat) : Bool :=
  s.heldDomain (unitDomains u).1 || s.heldDomain (unitDomains u).2

-- ---------------------------------------------------------------- raises of the check level (R466)

/-- Raise a die to L2 for a cause without a known end: 0 the stretch, 1 VIN_CORE suspect, 2 + domain a hold. -/
def State.raiseOpen (s : State) (d key : Nat) (on : Bool) : State :=
  s.updDie d (fun x => { x with raiseOpen := SMap.set false x.raiseOpen key on })

def State.raised (s : State) (d : Nat) : Bool := !(s.die d).raiseOpen.isEmpty || (s.die d).raise != 0

-- ---------------------------------------------------------------- margin actions (R86, R488)

/-- Give a site one more voltage step, up to 4. -/
def State.stepVoltage (s : State) (d site : Nat) : State :=
  s.updSite d site (fun x => { x with vstep := min 4 (x.vstep + 1) })

/-- A margin step is applied to a site: the ledgers of the contexts with a current card there count it (R463, R488). -/
def State.tallyMargin (s : State) (d site : Nat) (rehearsal : Bool) : State :=
  let cs := s.unitCtxs (siteAddr d site)
  let s1 := s.tallyAll cs 512 1
  if rehearsal then s1.markRehearsal cs else s1

/-- One voltage step on every island of a die: VSTEP + 1, up to 4 (R498). -/
def State.stepDie (s : State) (d : Nat) (rehearsal : Bool) : State :=
  (List.range 288).foldl (fun s i =>
    if s.goodSite d i ∧ (s.site d i).vstep < 4 then
      ((s.stepVoltage d i).updSite d i (fun x => { x with ccSteps := x.ccSteps + 1 })).tallyMargin d i rehearsal
    else s) s

/-- Whether a unit still has a margin action. -/
def State.hasMargin (s : State) (u : Nat) : Bool :=
  if unitClass u = 0 then
    let x := s.site (unitDie u) (siteOfPack (unitUnit u))
    decide (x.vstep < 4) || decide (x.fstep < s.oppCode (unitDie u) (siteOfPack (unitUnit u)))
  else !SMap.get false s.cur.retrained u

/-- Take a unit's next margin action, log and count it, and set its score to PROBATION (R488). -/
def State.marginAction (s : State) (u cause : Nat) (rehearsal : Bool) : State :=
  let d := unitDie u
  let i := siteOfPack (unitUnit u)
  let before := s.score u
  let cs := s.unitCtxs u
  let r : AccRec := {
    kind := 0x04, unit := u, cls := unitClass u, cause := cause, before := before
    after := s.probation, contexts := maskOf cs, rehearsal := rehearsal, logical := if unitClass u = 0 then (s.tileAt d i).getD 0x1FF else 0x1FF }
  let s1 :=
    if unitClass u = 0 then
      let x := s.site d i
      if x.vstep < 4 then ((s.stepVoltage d i).logAcc { r with kind := 0x02, arg := x.vstep + 1 }).tallyMargin d i rehearsal
      else
        let s2 := (s.updSite d i (fun y => { y with fstep := y.fstep + 1 })).logAcc { r with kind := 0x03, arg := x.fstep + 1 }
        if rehearsal then s2.markRehearsal cs else s2
    else
      let s2 := { s with cur := { s.cur with retrained := SMap.set false s.cur.retrained u true } }
      let s3 := if unitClass u = 5 then
          { s2 with fab := { s2.fab with
              ports := SMap.upd {} s2.fab.ports (unitUnit u) (fun p => if p.st = .up ∨ p.st = .degraded then { p with st := .training, reason := 1 } else p) } }
        else if unitClass u = 4 then
          { s2 with hbm := { s2.hbm with retrainLeft := SMap.set 0 s2.hbm.retrainLeft (unitUnit u * 16 + unitSub u) 8 } }
        else s2
      s3.logAcc r
  (s1.setScore u s.probation).count 0x80C0 0x06 0 1

-- ---------------------------------------------------------------- common causes (R498)

/-- Flags within the window, of one domain. -/
def State.flagsIn (s : State) (dom : Nat) : List Nat :=
  let w := s.obj 0x3010 4 0 * 1000000
  ((s.cur.recentFlags.filter (fun f => decide (s.pwr.uptime ≤ f.2 + w))).map (·.1)).filter
    (fun u => (unitDomains u).1 == dom || (unitDomains u).2 == dom)

/-- Whether the last flag of a unit was rehearsed. -/
def State.flagRehearsed (s : State) (u : Nat) : Bool := decide (256 ≤ SMap.get 0 s.cur.causeOf u)

/-- Declare a common-cause event of a domain: one voltage step on its dies, and L2 on them for CC_HOLD_S. It is an injection's where
a rehearsed flag is among those it counts (R524). -/
def State.commonCause (s : State) (dom : Nat) : State :=
  let us := (s.flagsIn dom).eraseDups
  let dies := s.domainDies dom
  let reh := us.any s.flagRehearsed
  let s1 := (s.logAcc {
      kind := 0x09, unit := catAddr 0 (if dom < 2 ∨ 4 ≤ dom then dom else 0) 0 (if dom = 3 then 1 else 0)
      cls := if dom = 2 ∨ dom = 3 then 8 else 9, arg := us.length, rehearsal := reh }).count 0x80C0 0x09 0 1
  let s2 := dies.foldl (fun s d => (s.stepDie d reh).raiseOpen d (2 + dom) true) s1
  let old := (s2.cur.holds.filter (fun h => h.domain == dom)).map (·.units)
  { s2 with cur := { s2.cur with
      holds := s2.cur.holds.filter (fun h => h.domain != dom) ++ [{
        domain := dom, units := (old.flatten ++ us).eraseDups, until_ := s.pwr.uptime + s.obj 0x3010 5 0 * 1000000000
        rehearsal := reh || s2.cur.holds.any (fun h => h.domain == dom && h.rehearsal) }]
      recentFlags := s2.cur.recentFlags.filter (fun f => !us.contains f.1) } }

/-- Flag a unit (R488, R489): log it, then due for deaccession, whatever HEALTH_MODE, or a margin action; then a common cause. -/
def State.flag (s : State) (u cause : Nat) (before after : Nat) (single rehearsal : Bool) : State :=
  let i := siteOfPack (unitUnit u)
  let s1 := s.logAcc {
    kind := 0x01, unit := u, cls := unitClass u, cause := cause, before := before, after := after
    contexts := maskOf (s.unitCtxs u), rehearsal := rehearsal
    logical := if unitClass u = 0 then (s.tileAt (unitDie u) i).getD 0x1FF else 0x1FF }
  let s2 := { s1 with cur := { s1.cur with
      flagged := SMap.set false s1.cur.flagged u true
      causeOf := SMap.set 0 s1.cur.causeOf u (cause + if rehearsal then 256 else 0)
      recentFlags := s1.cur.recentFlags ++ [(u, s1.pwr.uptime)] } }
  let s3 : State := if single || !s2.hasMargin u then
      { s2 with cur := { s2.cur with due := SMap.set false s2.cur.due u true } }
    else if s2.healthMode = 0 then s2
    else s2.marginAction u cause rehearsal
  let d := unitDomains u
  if (s3.flagsIn d.1).eraseDups.length ≥ s3.ccCount then s3.commonCause d.1
  else if (s3.flagsIn d.2).eraseDups.length ≥ s3.ccCount then s3.commonCause d.2
  else s3

/-- Lower a unit's score for an event (R486): by points, or to 0; flagged when it falls below SUSPECT. -/
def State.scoreHit (s : State) (u cause points : Nat) (toZero rehearsal : Bool) : State :=
  let before := s.score u
  let after := if toZero then 0 else before - points
  let s1 := s.setScore u after
  let s2 := if rehearsal then
      { s1 with cur := { s1.cur with rehLost := SMap.upd 0 s1.cur.rehLost u (· + (before - after)) } }
    else s1
  if after < s2.suspectAt ∧ (s2.suspectAt ≤ before ∨ toZero) then
    s2.flag u cause before after (after == 0) rehearsal
  else s2

/-- Count an event of which `per` make one point (R486, causes 0x07, 0x09, 0x0D, 0x10). -/
def State.scorePart (s : State) (u cause per n : Nat) (rehearsal : Bool) : State :=
  let k := u * 32 + cause
  let v := SMap.get 0 s.cur.partials k + n
  let s1 := { s with cur := { s.cur with
    partials := SMap.set 0 s.cur.partials k (v % per), eventAt := SMap.set 0 s.cur.eventAt u s.pwr.uptime } }
  if v / per = 0 then s1 else s1.scoreHit u cause (v / per) false rehearsal

end Sys2Proof.Machine
end

