-- ==== Sys2Proof/Machine/Operands.lean ====
section
/-! DEFINITION. The tile-op descriptor, its location words and its operands: which kinds, formats and
dimensions each opcode takes, where its operands lie, and the checks made before it issues (chapter Tile-op
reference, R151 to R158, R164, R166 to R186). -/

namespace Sys2Proof.Machine

-- ---------------------------------------------------------------- the descriptor (R151)

/-- A tile-op descriptor as a number. -/
abbrev Desc := Nat

def Desc.opcode (d : Desc) : Nat := fld d 0 8
def Desc.fmtA (d : Desc) : Option Fmt := Fmt.ofCode (fld d 12 4)
def Desc.fmtB (d : Desc) : Option Fmt := Fmt.ofCode (fld d 16 4)
def Desc.fmtD (d : Desc) : Option Fmt := Fmt.ofCode (fld d 20 4)
def Desc.func (d : Desc) : Nat := fld d 24 8
def Desc.crOffset (d : Desc) : Nat := fld d 32 16
def Desc.tag (d : Desc) : Nat := fld d 48 16
def Desc.crErrOnly (d : Desc) : Bool := bitOf d 90
def Desc.chkForce (d : Desc) : Bool := bitOf d 91
def Desc.chkHold (d : Desc) : Bool := bitOf d 92
def Desc.predNeg (d : Desc) : Bool := bitOf d 93
def Desc.predSel (d : Desc) : Nat := fld d 94 4
def Desc.anchor (d : Desc) : Int := toInt 10 (fld d 98 10)
def Desc.mode (d : Desc) : Nat := fld d 108 2
def Desc.epoch (d : Desc) : Nat := fld d 110 2
def Desc.dim0 (d : Desc) : Nat := fld d 128 32
def Desc.dim1 (d : Desc) : Nat := fld d 160 16
def Desc.dim2 (d : Desc) : Nat := fld d 176 16
def Desc.locA (d : Desc) : Nat := fld d 192 64
def Desc.locB (d : Desc) : Nat := fld d 256 64
def Desc.locD (d : Desc) : Nat := fld d 320 64
def Desc.pitchA (d : Desc) : Nat := fld d 384 16
def Desc.pitchB (d : Desc) : Nat := fld d 400 16
def Desc.pitchD (d : Desc) : Nat := fld d 416 16
def Desc.aux (d : Desc) : Nat := fld d 448 64

/-- The reserved fields of the descriptor outside its location words (R151). -/
def Desc.reserved (d : Desc) : Nat := fld d 8 4 + fld d 64 26 + fld d 112 16 + fld d 432 16

/-- The format of a position, NONE for a reserved code. -/
def Desc.fA (d : Desc) : Fmt := d.fmtA.getD .none
def Desc.fB (d : Desc) : Fmt := d.fmtB.getD .none
def Desc.fD (d : Desc) : Fmt := d.fmtD.getD .none

-- ---------------------------------------------------------------- location words (R153)

inductive Kind where
  | none | tmem | abuf | bbuf | acc | queue | stream | global | imm | pred | reserved
  deriving DecidableEq, Repr

def Kind.ofCode : Nat → Kind
  | 0 => .none | 1 => .tmem | 2 => .abuf | 3 => .bbuf | 4 => .acc | 5 => .queue | 6 => .stream
  | 7 => .global | 8 => .imm | 9 => .pred | _ => .reserved

def locKind (l : Nat) : Kind := Kind.ofCode (fld l 60 4)
def locReserved (l : Nat) : Nat := fld l 43 17
def locKeep (l : Nat) : Bool := bitOf l 42
def locBufLine (l : Nat) : Nat := fld l 32 10
def locSel (l : Nat) : Nat := fld l 0 32
/-- Array and set of an ACC location. -/
def locArray (l : Nat) : Nat := fld l 8 1
def locSet (l : Nat) : Nat := fld l 0 3

/-- The bits of SEL that a kind uses; the others are zero. -/
def Kind.selOk (k : Kind) (sel : Nat) : Bool :=
  match k with
  | .none | .global | .imm => sel == 0
  | .tmem => decide (sel < 2 ^ 21)
  | .abuf | .bbuf => decide (sel < 2 ^ 10)
  | .acc => decide (sel % 256 < 8) && decide (sel < 512)
  | .queue | .pred => decide (sel < 8)
  | .stream => decide (sel < 4)
  | .reserved => false

-- ---------------------------------------------------------------- opcodes (R157, R76)

inductive Opc where
  | nop | sync | fenceLocal | card | select | mma | mmaT | accLoad | accStore | ancInit | ancScan | ancFold
  | vecEw | vecAct | vecRed | cast | xpose | gather | scatter | send | recv
  deriving DecidableEq, Repr

def Opc.ofCode : Nat → Option Opc
  | 0x00 => some .nop | 0x01 => some .sync | 0x02 => some .fenceLocal | 0x03 => some .card | 0x04 => some .select
  | 0x10 => some .mma | 0x11 => some .mmaT | 0x12 => some .accLoad | 0x13 => some .accStore
  | 0x18 => some .ancInit | 0x19 => some .ancScan | 0x1A => some .ancFold
  | 0x20 => some .vecEw | 0x21 => some .vecAct | 0x22 => some .vecRed | 0x23 => some .cast | 0x24 => some .xpose
  | 0x25 => some .gather | 0x26 => some .scatter | 0x30 => some .send | 0x31 => some .recv
  | _ => none

def Desc.opc (d : Desc) : Opc := (Opc.ofCode d.opcode).getD .nop

/-- An accumulating tile-op: one whose checksums the arrays compute (R70, R160). -/
def Opc.accumulating : Opc → Bool
  | .mma | .mmaT => true
  | _ => false

/-- A data tile-op (R465). -/
def Opc.isData : Opc → Bool
  | .nop | .sync | .fenceLocal | .card | .recv => false
  | _ => true

def Opc.isVec : Opc → Bool
  | .vecEw | .vecAct | .vecRed | .cast => true
  | _ => false

/-- The engine of a tile-op (R76). -/
def Desc.engine (d : Desc) : Engine :=
  let arr (l : Nat) : Engine := if locArray l = 0 then .array0 else .array1
  match d.opc with
  | .mma | .mmaT | .accLoad | .ancInit => arr d.locD
  | .accStore | .ancFold => arr d.locA
  | .vecEw | .vecAct | .vecRed | .cast | .xpose | .gather | .scatter | .ancScan => .vector
  | .send | .recv => .queueUnit
  | _ => .controller

/-- FUNC values of an opcode (R157); VEC_EW's are judged under R175. -/
def Opc.funcOk (o : Opc) (f : Nat) : Bool :=
  match o with
  | .nop | .fenceLocal | .accStore | .ancFold | .cast | .xpose | .gather | .scatter | .recv => f == 0
  | .sync | .card | .mma | .mmaT | .accLoad | .ancScan => decide (f < 2)
  | .select | .vecRed | .send => decide (f < 4)
  | .ancInit => decide (1 ≤ f) && decide (f < 4)
  | .vecAct => decide (f < 15)
  | .vecEw => true

/-- VEC_EW functions that take A only: SQRT, ABS, NEG (R175). -/
def ewUnary (f : Nat) : Bool := f == 5 || f == 8 || f == 9
/-- VEC_EW functions for floats only: FMA, DIV, SQRT, CMP_UNORD. -/
def ewFloatOnly (f : Nat) : Bool := f == 3 || f == 4 || f == 5 || f == 13
def ewCompare (f : Nat) : Bool := decide (10 ≤ f) && decide (f ≤ 13)

/-- The kinds each position takes (R157, with the forms of SELECT, R184, and SEND, R182). -/
def Desc.kindsA (d : Desc) : List Kind :=
  match d.opc with
  | .nop | .sync | .fenceLocal | .card | .ancInit => [.none]
  | .select => if d.func = 0 ∨ d.func = 2 then [.queue] else [.tmem]
  | .mma | .mmaT => [.tmem, .stream, .abuf]
  | .accLoad => [.tmem, .global]
  | .accStore | .ancFold => [.acc]
  | .ancScan | .vecEw | .vecAct | .vecRed | .cast => [.tmem, .acc]
  | .xpose | .gather | .scatter => [.tmem]
  | .send => if d.func = 0 then [.tmem, .global] else [.tmem, .global, .none]
  | .recv => [.queue]

/-- Location kinds that operand B may have (R164, R166, R175, R180, R184). DESIGN CHOICE (log entry 85): a VEC_EW FUNC that
R175 does not define is taken to need operand B. -/
def Desc.kindsB (d : Desc) : List Kind :=
  match d.opc with
  | .select => if d.func = 2 then [.queue] else if d.func = 3 then [.tmem] else [.none]
  | .mma | .mmaT => [.tmem, .stream, .bbuf]
  | .vecEw => if ewUnary d.func then [.none] else [.tmem, .acc, .imm]
  | .gather => [.tmem, .global]
  | .scatter => [.tmem]
  | _ => [.none]

def Desc.kindsD (d : Desc) : List Kind :=
  match d.opc with
  | .nop | .sync | .fenceLocal | .card => [.none]
  | .select => if d.func = 2 then [.queue] else if d.func = 3 then [.tmem] else [.pred]
  | .mma | .mmaT | .accLoad | .ancInit => [.acc]
  | .accStore | .scatter => [.tmem, .global]
  | .vecEw | .vecAct => [.tmem, .acc]
  | .send => [.queue]
  | .recv => [.tmem, .none]
  | _ => [.tmem]

-- ---------------------------------------------------------------- memory operands

/-- A memory operand (TMEM or GLOBAL): its field of R164, rows, bytes of a row, pitch, alignment, and
whether it is read and written. -/
structure MemOpd where
  loc : Nat
  field : Nat
  rows : Nat
  rowBytes : Nat
  pitch : Nat
  align : Nat
  reads : Bool
  writes : Bool
  deriving DecidableEq, Repr

def MemOpd.step (m : MemOpd) : Nat := if m.pitch = 0 then m.rowBytes else m.pitch
/-- Bytes from the first byte to the last (R156). -/
def MemOpd.extent (m : MemOpd) : Nat := if m.rows = 0 ∨ m.rowBytes = 0 then 0 else (m.rows - 1) * m.step + m.rowBytes

/-- Alignment of a format's offsets and pitches (R156). -/
def Fmt.align (f : Fmt) : Nat := if f = .bs4 then 1 else max 1 f.size

def mkOpd (loc field rows rb pitch align : Nat) (r w : Bool) : MemOpd := ⟨loc, field, rows, rb, pitch, align, r, w⟩

/-- The operands of a tile-op as if all of them lay in memory: positions A, B and D in that order. -/
def Desc.opdA (d : Desc) : Option MemOpd :=
  let k := d.dim0
  let m := d.dim1
  match d.opc with
  | .mma | .mmaT | .ancScan | .vecEw | .vecAct | .vecRed | .cast =>
      some (mkOpd d.locA 0x0B m (d.fA.rowBytes k) d.pitchA d.fA.align true false)
  | .accLoad => some (if d.fA = .anc128 then mkOpd d.locA 0x0B 1 16448 0 64 true false
      else mkOpd d.locA 0x0B 1 4096 0 4 true false)
  | .xpose => some (mkOpd d.locA 0x0B m (k * d.fD.size) d.pitchA d.fD.align true false)
  | .gather | .scatter => some (mkOpd d.locA 0x0B 1 (4 * m) 0 4 true false)
  | .send => if d.func = 0 then some (mkOpd d.locA 0x0B 1 k 0 1 true false) else none
  | .select => if d.func = 1 then some (mkOpd d.locA 0x0B 1 1 0 1 true false)
      else if d.func = 3 then some (mkOpd d.locA 0x0B 1 k 0 1 true false) else none
  | _ => none

def Desc.opdB (d : Desc) : Option MemOpd :=
  let k := d.dim0
  let m := d.dim1
  let n := d.dim2
  match d.opc with
  | .mma => some (mkOpd d.locB 0x0C k (d.fB.rowBytes n) d.pitchB d.fB.align true false)
  | .mmaT => some (mkOpd d.locB 0x0C n (d.fB.rowBytes k) d.pitchB d.fB.align true false)
  | .vecEw => if ewUnary d.func then none else some (mkOpd d.locB 0x0C m (d.fB.rowBytes k) d.pitchB d.fB.align true false)
  | .gather => some (mkOpd d.locB 0x0C n (d.fD.rowBytes k) d.pitchB d.fD.align true false)
  | .scatter => some (mkOpd d.locB 0x0C m (d.fD.rowBytes k) d.pitchB d.fD.align true false)
  | .select => if d.func = 3 then some (mkOpd d.locB 0x0C 1 k 0 1 true false) else none
  | _ => none

def Desc.opdD (d : Desc) : Option MemOpd :=
  let k := d.dim0
  let m := d.dim1
  let n := d.dim2
  match d.opc with
  | .accStore => some (if d.fD = .anc128 then mkOpd d.locD 0x0D 1 16448 0 64 false true
      else mkOpd d.locD 0x0D m (n * d.fD.size) d.pitchD d.fD.align false true)
  | .ancScan =>
      let rows := if d.func = 0 then 1 else if locKind d.locA = .acc then 16 else m
      some (mkOpd d.locD 0x0D 1 (4 * rows) 0 4 false true)
  | .ancFold => some (mkOpd d.locD 0x0D 16 (64 * d.fD.size) d.pitchD d.fD.align false true)
  | .vecEw => some (mkOpd d.locD 0x0D m (d.fD.rowBytes k) d.pitchD d.fD.align (d.func == 3) true)
  | .vecAct | .cast => some (mkOpd d.locD 0x0D m (d.fD.rowBytes k) d.pitchD d.fD.align false true)
  | .vecRed => some (mkOpd d.locD 0x0D m (d.fD.rowBytes 1) d.pitchD d.fD.align false true)
  | .xpose => some (mkOpd d.locD 0x0D k (m * d.fD.size) d.pitchD d.fD.align false true)
  | .gather => some (mkOpd d.locD 0x0D m (d.fD.rowBytes k) d.pitchD d.fD.align false true)
  | .scatter => some (mkOpd d.locD 0x0D n (d.fD.rowBytes k) d.pitchD d.fD.align false true)
  | .recv => some (mkOpd d.locD 0x0D 1 32 0 1 false true)
  | .select => if d.func = 3 then some (mkOpd d.locD 0x0D 1 k 0 1 false true) else none
  | _ => none

/-- The operands that do lie in memory. -/
def Desc.memOpds (d : Desc) : List MemOpd :=
  ([d.opdA, d.opdB, d.opdD].filterMap id).filter (fun m => locKind m.loc == .tmem || locKind m.loc == .global)

/-- Which FMT fields an opcode uses, by position. -/
def Desc.usesFmtA (d : Desc) : Bool :=
  match d.opc with
  | .mma | .mmaT | .accLoad | .vecEw | .vecAct | .vecRed | .cast | .gather | .scatter => true
  | .ancScan => locKind d.locA != .acc
  | _ => false
def Desc.usesFmtB (d : Desc) : Bool :=
  match d.opc with
  | .mma | .mmaT => true
  | .vecEw => !ewUnary d.func
  | _ => false
def Desc.usesFmtD (d : Desc) : Bool :=
  match d.opc with
  | .accStore | .ancFold | .vecEw | .vecAct | .vecRed | .cast | .xpose | .gather | .scatter => true
  | _ => false

-- ---------------------------------------------------------------- the checks of R158

/-- The failing fields of one check; DETAIL names the latest in the list of R164. -/
def worst (fs : List Nat) : Option Nat := fs.foldl (fun (m : Option Nat) f =>
  match m with
  | none => some f
  | some g => some (max f g)) none

def failIf (b : Bool) (f : Nat) : List Nat := if b then [f] else []

def locBad (l : Nat) (ks : List Kind) : Bool := !ks.contains (locKind l) || !(locKind l).selOk (locSel l)

/-- Check 1: BAD_OP. `syncValid` says whether the named sync group is VALID in the card (R186). -/
def Desc.check1 (d : Desc) (syncValid : Bool) : List Nat :=
  match Opc.ofCode d.opcode with
  | none => [0x01] ++ failIf (decide (8 < d.predSel)) 0x12
    ++ failIf (d.reserved + locReserved d.locA + locReserved d.locB + locReserved d.locD != 0) 0x13
  | some o =>
    failIf (!o.funcOk d.func) 0x02
    ++ failIf (d.usesFmtA && d.fmtA.isNone) 0x03
    ++ failIf (d.usesFmtB && d.fmtB.isNone) 0x04
    ++ failIf (d.usesFmtD && d.fmtD.isNone) 0x05
    ++ failIf (o.accumulating && d.mode == 3) 0x06
    ++ failIf (locBad d.locA d.kindsA) 0x0B
    ++ failIf (locBad d.locB d.kindsB) 0x0C
    ++ failIf (locBad d.locD d.kindsD) 0x0D
    ++ failIf (o == .sync && d.func == 1 && !syncValid) 0x0F
    ++ failIf (decide (8 < d.predSel)) 0x12
    ++ failIf (d.reserved + locReserved d.locA + locReserved d.locB + locReserved d.locD != 0) 0x13

/-- Formats legal in a mode of MMA (R97, R167): 0 fast, 1 anchored, 2 INT8, 3 strict. -/
def mmaFmt (mode : Nat) (f : Fmt) : Bool :=
  match mode with
  | 2 => f == .int8
  | 3 => f == .fp32 || f == .bf16 || f == .fp16
  | _ => f == .bf16 || f == .fp16 || f.isFp8 || f == .bs4
def mmaPair (mode : Nat) (a b : Fmt) : Bool := mmaFmt mode a && mmaFmt mode b && (a == b || (a.isFp8 && b.isFp8))

/-- The mode an MMA runs in: a strict context turns fast into strict (R126). -/
def Desc.runMode (d : Desc) (strict : Bool) : Nat := if d.mode = 0 ∧ strict then 3 else d.mode

/-- Type of a set as a format. -/
def AccTy.fmt : AccTy → Fmt
  | .none => .none | .fp32 => .fp32 | .int32 => .int32

/-- Whether an ACC operand's format names the set's type (R174); a set without a type takes either. -/
def accFmtOk (t : Tile) (l : Nat) (f : Fmt) : Bool :=
  let a := t.array (locArray l)
  a.anchored || (match (a.set (locSet l)).ty with
    | .none => f == .fp32 || f == .int32
    | ty => f == ty.fmt)

def vecFmt (f : Fmt) : Bool := f.isFloat || f.isInt
def castFmt (f : Fmt) : Bool := f.isFloat || f.isInt || f == .bs4
def actFmt (f : Fmt) : Bool := f == .fp32 || f == .bf16 || f == .fp16

/-- Check 3: FORMAT. DESIGN CHOICE (log entry 85): GATHER and SCATTER in BS4 want whole blocks too, DIM0 a multiple of 16. -/
def Desc.check3 (d : Desc) (t : Tile) (strict : Bool) : List Nat :=
  let fa := d.fA
  let fb := d.fB
  let fd := d.fD
  let bs4Dim := failIf (d.dim0 % 16 != 0) 0x08
  let accs := if d.opc.isVec then
      failIf (d.usesFmtA && locKind d.locA == .acc && !accFmtOk t d.locA fa) 0x03
      ++ failIf (d.usesFmtB && locKind d.locB == .acc && !accFmtOk t d.locB fb) 0x04
      ++ failIf (d.usesFmtD && locKind d.locD == .acc && !accFmtOk t d.locD fd) 0x05
    else []
  (match d.opc with
  | .mma | .mmaT =>
      let ms := [if strict then 3 else 0, 1, 2]
      let legal (f : Fmt) := ms.any (fun m => mmaFmt m f)
      (if mmaPair (d.runMode strict) fa fb then []
        else if ms.any (fun m => mmaPair m fa fb) then [0x06]
        else if legal fa && legal fb then [0x04]
        else failIf (!legal fa) 0x03 ++ failIf (!legal fb) 0x04)
      ++ failIf (d.opc == .mma && fb == .bs4) 0x04
      ++ (if fa = .bs4 ∨ fb = .bs4 then bs4Dim else [])
  | .accLoad => failIf (!(fa == .anc128 || ((fa == .fp32 || fa == .int32) && d.func == 0))) 0x03
  | .accStore =>
      let a := t.array (locArray d.locA)
      failIf (!(if a.anchored then fd == .anc128 else
        match (a.set (locSet d.locA)).ty with
        | .fp32 => fd.isFloat
        | .int32 => fd.isInt
        | .none => fd.isFloat || fd.isInt)) 0x05
  | .ancScan => if locKind d.locA = .acc then [] else
      failIf (!(fa.isFloat || fa == .bs4)) 0x03 ++ (if fa = .bs4 then bs4Dim else [])
  | .ancFold => failIf (!(fd == .fp32 || fd == .bf16)) 0x05
  | .vecEw =>
      if 14 ≤ d.func then [0x02] ++ failIf (!vecFmt fa) 0x03 ++ failIf (!vecFmt fb) 0x04 ++ failIf (!vecFmt fd) 0x05
      else
        let ok (f : Fmt) : Bool := if ewFloatOnly d.func then f.isFloat else vecFmt f
        failIf (!ok fa) 0x03 ++ failIf (d.usesFmtB && !ok fb) 0x04
        ++ failIf (!(if ewCompare d.func then fd == .int8 else ok fd)) 0x05
  | .vecAct => failIf (!actFmt fa) 0x03 ++ failIf (!actFmt fd) 0x05
  | .vecRed =>
      if !vecFmt fa then [0x03] ++ failIf (if d.func = 0 then fd != .fp32 && fd != .int32 else fd != fa) 0x05
      else failIf (fd != (if d.func = 0 then (if fa.isFloat then .fp32 else .int32) else fa)) 0x05
  | .cast =>
      if castFmt fa && castFmt fd then (if fa = .bs4 ∨ fd = .bs4 then bs4Dim else [])
      else failIf (!castFmt fa) 0x03 ++ failIf (!castFmt fd) 0x05
  | .xpose => failIf (fd == .none || fd == .bs4) 0x05
  | .gather | .scatter => failIf (fa != .int32) 0x03 ++ failIf (fd == .none) 0x05 ++ (if fd = .bs4 then bs4Dim else [])
  | _ => []) ++ accs

/-- Check 4: ACC_MODE (R73, R145, R168, R174; at L4 a tile-op that names array 1, R479). -/
def Desc.check4 (d : Desc) (t : Tile) (level : Nat) : List Nat :=
  let arr (l : Nat) := t.array (locArray l)
  let needAnc (l : Nat) := !((arr l).anchored && decide (locSet l < 2))
  let l4 (l f : Nat) := failIf (level == 4 && locKind l == .acc && locArray l == 1) f
  (match d.opc with
  | .mma | .mmaT =>
      if d.mode = 1 then failIf (needAnc d.locD) 0x0D
      else
        let a := arr d.locD
        let ty := (a.set (locSet d.locD)).ty
        let want : AccTy := if d.mode = 2 then .int32 else .fp32
        failIf (a.anchored || (ty != .none && ty != want && d.func % 2 == 0)) 0x0D
  | .accLoad => if d.fA = .anc128 then failIf (needAnc d.locD) 0x0D else []
  | .accStore => failIf ((arr d.locA).anchored && decide (2 ≤ locSet d.locA)) 0x0B
  | .ancScan => if locKind d.locA = .acc then failIf (needAnc d.locA) 0x0B else []
  | .ancFold => failIf (needAnc d.locA) 0x0B
  | .vecEw | .vecAct | .vecRed | .cast =>
      failIf (locKind d.locA == .acc && (arr d.locA).anchored) 0x0B
      ++ failIf (locKind d.locB == .acc && (arr d.locB).anchored) 0x0C
      ++ failIf (locKind d.locD == .acc && (arr d.locD).anchored) 0x0D
  | _ => [])
  ++ l4 d.locA 0x0B ++ l4 d.locB 0x0C ++ l4 d.locD 0x0D

/-- Check 5: ANCHOR (R132, R166, R170 to R173). -/
def Desc.check5 (d : Desc) (t : Tile) : List Nat :=
  let same (l : Nat) := failIf (!(anchorOk d.anchor && d.anchor == ((t.array (locArray l)).set (locSet l)).anchor)) 0x07
  match d.opc with
  | .mma | .mmaT => if d.mode = 1 then same d.locD else []
  | .ancInit => failIf (!anchorOk d.anchor) 0x07
  | .accStore => if (t.array (locArray d.locA)).anchored then same d.locA else []
  | .ancScan => if locKind d.locA = .acc then same d.locA else []
  | .ancFold => same d.locA
  | _ => []

/-- Dimensions out of range (R166, R170, R174, R179, R180, R182, R184). DESIGN CHOICE (log entry 85): a zero dimension of
ANC_SCAN from tile memory, XPOSE, GATHER, SCATTER or CHOOSE_M is out of range. -/
def Desc.dimsBad (d : Desc) : List Nat :=
  let f0 (lo hi : Nat) := failIf (!(decide (lo ≤ d.dim0) && decide (d.dim0 ≤ hi))) 0x08
  let f1 (lo hi : Nat) := failIf (!(decide (lo ≤ d.dim1) && decide (d.dim1 ≤ hi))) 0x09
  let f2 (lo hi : Nat) := failIf (!(decide (lo ≤ d.dim2) && decide (d.dim2 ≤ hi))) 0x0A
  let acc := locKind d.locA == .acc || locKind d.locB == .acc || locKind d.locD == .acc
  match d.opc with
  | .mma | .mmaT => f0 1 65535 ++ f1 1 16 ++ f2 1 64
  | .accStore => if d.fD = .anc128 then [] else f1 1 16 ++ f2 1 64
  | .ancScan => if locKind d.locA = .acc then [] else f0 1 (2 ^ 32) ++ f1 1 65535
  | .vecEw | .vecAct | .vecRed | .cast => if acc then f0 1 64 ++ f1 1 16 else f0 1 (2 ^ 32) ++ f1 1 65535
  | .xpose => f0 1 (2 ^ 32) ++ f1 1 65535
  | .gather | .scatter => f0 1 (2 ^ 32) ++ f1 1 65535 ++ f2 1 65535
  | .send => if d.func = 1 then f0 1 8 else []
  | .select => if d.func = 3 then f0 1 (2 ^ 32) else []
  | _ => []

/-- Bytes of an MMA operand as it lies in its buffer. -/
def Desc.bytesA (d : Desc) : Nat := d.dim1 * d.fA.rowBytes d.dim0
def Desc.bytesB (d : Desc) : Nat :=
  if d.opc = .mma then d.dim0 * d.fB.rowBytes d.dim2 else d.dim2 * d.fB.rowBytes d.dim0

/-- Whether an MMA operand fits its buffer (R154): a ring of at least 8 lines, or the whole operand kept, or
resident lines inside the buffer. -/
def bufBad (l bytes : Nat) : Bool :=
  let lines := (bytes + 63) / 64
  match locKind l with
  | .tmem | .stream => if locKeep l then decide (768 < locBufLine l + lines) else decide (760 < locBufLine l)
  | .abuf | .bbuf => decide (768 < locSel l + lines)
  | _ => false

/-- First address after the store that a local address lies in (R156, R225, R227): all of HBM, whose stacks an access may
cross; a die's scratchpad; a tile's memory or its registers, else its window. -/
def storeEnd (a : Nat) : Nat :=
  match place a with
  | .hbm _ _ => 0x004800000000
  | .spad _ off => a - off + 0x6000000
  | .tileWin _ _ off => a - off + (if off < 0x180000 then 0x180000 else if isTileReg off then 0x1C8000 else 0x200000)
  | .page _ off => a - off + 0x10000
  | .nowhere => 2 ^ 46

/-- Whether the operand's extent depends on its PITCH field (R154): more than one row, not dense. -/
def MemOpd.pitched (m : MemOpd) : Bool := m.pitch != 0 && decide (1 < m.rows)

/-- A memory operand out of its store or misaligned (R156): the fields at fault. An extent that leaves the store fails on
LOC, DIM and PITCH together, of which PITCH stands latest in R164; of a GLOBAL one AUX does (DEDUCED, log entry 64). -/
def MemOpd.bad (m : MemOpd) (aux : Nat) : List Nat :=
  failIf (m.pitch % m.align != 0) 0x0E
  ++ (if locKind m.loc = .tmem then
        failIf (locSel m.loc % m.align != 0 || decide (0x180000 ≤ locSel m.loc)) m.field
        ++ failIf (decide (0x180000 < locSel m.loc + m.extent)) (if m.pitched then 0x0E else m.field)
      else
        let a := fld aux 0 46
        failIf (a % m.align != 0 || decide (storeEnd a < a + m.extent)) 0x0F)

/-- First and last-plus-one tile-memory offsets of an operand. -/
def MemOpd.span (m : MemOpd) : Nat × Nat := (locSel m.loc, locSel m.loc + m.extent)

/-- Check 6: BOUNDS. `k` is the active card's slot: a queue or send channel it does not configure is out of
bounds (R276, R283). -/
def Desc.check6 (d : Desc) (t : Tile) (k : Slot) : List Nat :=
  let qOk (l : Nat) := !(SMap.get 0 k.queueImgs (locSel l) == 0)
  d.dimsBad
  ++ (if d.opc.accumulating then failIf (bufBad d.locA d.bytesA) 0x0B ++ failIf (bufBad d.locB d.bytesB) 0x0C
        ++ failIf (locKind d.locA == .stream && !(t.stream (locSel d.locA)).valid) 0x0B
        ++ failIf (locKind d.locB == .stream && !(t.stream (locSel d.locB)).valid) 0x0C
      else [])
  ++ (d.memOpds.map (fun m => m.bad d.aux)).flatten
  ++ (match d.opc with
    | .xpose =>
        let a := (d.opdA.map MemOpd.span).getD (0, 0)
        let b := (d.opdD.map MemOpd.span).getD (0, 0)
        let pitched := [d.opdA, d.opdD].any (fun m? => (m?.map MemOpd.pitched).getD false)
        failIf (decide (a.1 < b.2) && decide (b.1 < a.2)) (if pitched then 0x0E else 0x0D)
    | .send => failIf (SMap.get 0 k.chanImgs (locSel d.locD) == 0) 0x0D
        ++ (if d.func = 0 ∧ locKind d.locA = .global then
              (match place (fld d.aux 0 46) with
                | .hbm _ _ => []
                | .spad _ _ => []
                | .tileWin _ _ off => failIf (decide (0x180000 < off + d.dim0)) 0x0F
                | _ => [0x0F])
            else [])
    | .recv => failIf (!qOk d.locA) 0x0B
    | .select =>
        if d.func = 0 then failIf (!qOk d.locA) 0x0B
        else if d.func = 2 then failIf (!qOk d.locA) 0x0B ++ failIf (!qOk d.locB) 0x0C
          ++ failIf (SMap.get 0 k.chanImgs (locSel d.locD) == 0) 0x0D
        else []
    | _ => [])

/-- The pieces of `[a, a + n)` that are checked separately: one for each stack or scratchpad bank touched. -/
def pieces (a n : Nat) : List (Nat × Nat) := if n = 0 then [] else unitPieces a n

/-- Whether the context reaches the whole of `[a, a + n)`, piece by piece. -/
def State.reachesAll (s : State) (c a n : Nat) (need : Need) (extra : List Nat) : Bool :=
  (pieces a n).all (fun p => s.reaches c p.1 p.2 need extra)

/-- Whether an operand of a tile-op of context `c` lies in the context's windows (R202, R222). Every row is
one access; an address of another device is checked there. -/
def State.opdInWindows (s : State) (c die tile : Nat) (aux : Nat) (m : MemOpd) : Bool :=
  let base := if locKind m.loc = .tmem then tileAddr die tile (locSel m.loc) else fld aux 0 46
  (locKind m.loc == .global && fld aux 46 18 != s.device) ||
  (List.range m.rows).all (fun i =>
    (!m.reads || s.reachesAll c (base + i * m.step) m.rowBytes .read [])
    && (!m.writes || s.reachesAll c (base + i * m.step) m.rowBytes .write []))

/-- Check 7: WINDOW. -/
def State.check7 (s : State) (c die tile : Nat) (d : Desc) : List Nat :=
  (d.memOpds.map (fun m =>
    failIf (!s.opdInWindows c die tile d.aux m) (if locKind m.loc = .global then 0x0F else m.field))).flatten

/-- The checks of R158 in order: the first that fails gives the status, with its DETAIL. -/
def State.opCheck (s : State) (c die tile level : Nat) (strict : Bool) (k : Slot) (d : Desc) : Option (Status × Nat) :=
  let t := s.tile die tile
  match worst (d.check1 (bitOf (SMap.get 0 k.syncs (fld d.aux 0 4)) 15)) with
  | some f => some (.badOp, f)
  | none =>
  if d.epoch ≠ k.epoch then some (.epoch, 0x11)
  else match worst (d.check3 t strict) with
  | some f => some (.format, f)
  | none =>
  match worst (d.check4 t level) with
  | some f => some (.accMode, f)
  | none =>
  match worst (d.check5 t) with
  | some f => some (.anchor, f)
  | none =>
  match worst (d.check6 t k) with
  | some f => some (.bounds, f)
  | none =>
  match worst (s.check7 c die tile d) with
  | some f => some (.window, f)
  | none => none

-- ---------------------------------------------------------------- hazards (R78)

/-- Tile-memory lines of an operand. -/
def MemOpd.lines (m : MemOpd) : List HLoc :=
  if locKind m.loc = .tmem ∧ 0 < m.extent then [⟨3, 0, locSel m.loc / 64, (locSel m.loc + m.extent - 1) / 64⟩] else []

def HLoc.meets (a b : HLoc) : Bool := a.kind == b.kind && a.unit == b.unit && decide (a.lo ≤ b.hi) && decide (b.lo ≤ a.hi)

def bufReads (kind l bytes : Nat) : List HLoc :=
  if locKind l = .abuf ∨ locKind l = .bbuf then [⟨kind, 0, locSel l, locSel l + (bytes + 63) / 64 - 1⟩] else []
def bufWrites (kind l bytes : Nat) : List HLoc :=
  if locKind l = .tmem ∨ locKind l = .stream then
    [⟨kind, 0, locBufLine l, if locKeep l then locBufLine l + (bytes + 63) / 64 - 1 else 767⟩] else []

/-- Locations an accumulating tile-op, a load or another tile-op reads, predicate register included. -/
def Desc.hazReads (d : Desc) (slot : Nat) : List HLoc :=
  let setOf (l : Nat) : List HLoc := if locKind l = .acc then [⟨2, locArray l, locSet l, locSet l⟩] else []
  let onArray (h : HLoc) : HLoc := { h with unit := locArray d.locD }
  (d.memOpds.filter (·.reads)).flatMap MemOpd.lines
  ++ (if d.predSel = 0 then [] else [⟨5, slot, d.predSel - 1, d.predSel - 1⟩])
  ++ (match d.opc with
    | .mma | .mmaT => (bufReads 0 d.locA d.bytesA ++ bufReads 1 d.locB d.bytesB).map onArray ++ setOf d.locD
    | .accLoad => if d.func = 1 then setOf d.locD else []
    | .accStore | .ancFold | .ancScan => setOf d.locA
    | .vecEw => setOf d.locA ++ setOf d.locB ++ (if d.func = 3 then setOf d.locD else [])
    | .vecAct | .vecRed | .cast => setOf d.locA
    | .select => if 2 ≤ d.func then [⟨5, slot, fld d.aux 0 3, fld d.aux 0 3⟩] else []
    | _ => [])

/-- Locations it writes; a tile-op that switches its array's configuration writes every set (R73). -/
def Desc.hazWrites (d : Desc) (t : Tile) (slot : Nat) : List HLoc :=
  let setOf (l : Nat) : List HLoc := if locKind l = .acc then [⟨2, locArray l, locSet l, locSet l⟩] else []
  let all (l : Nat) : List HLoc := [⟨2, locArray l, 0, 7⟩]
  let onArray (h : HLoc) : HLoc := { h with unit := locArray d.locD }
  let anc (l : Nat) : Bool := (t.array (locArray l)).anchored
  (d.memOpds.filter (·.writes)).flatMap MemOpd.lines
  ++ (match d.opc with
    | .mma | .mmaT => (bufWrites 0 d.locA d.bytesA ++ bufWrites 1 d.locB d.bytesB).map onArray ++ setOf d.locD
    | .accLoad => if d.fA ≠ .anc128 ∧ anc d.locD then all d.locD else setOf d.locD
    | .ancInit => if anc d.locD then
        (if d.func % 2 = 1 then [⟨2, locArray d.locD, 0, 0⟩] else []) ++ (if 2 ≤ d.func then [⟨2, locArray d.locD, 1, 1⟩] else [])
      else all d.locD
    | .vecEw | .vecAct => setOf d.locD
    | .recv => [⟨4, 0, locSel d.locA, locSel d.locA⟩]
    | .send => [⟨6, slot, locSel d.locD, locSel d.locD⟩]
    | .select =>
        if d.func = 0 then [⟨4, 0, locSel d.locA, locSel d.locA⟩, ⟨5, slot, locSel d.locD, locSel d.locD⟩]
        else if d.func = 1 then [⟨5, slot, locSel d.locD, locSel d.locD⟩]
        else if d.func = 2 then
          [⟨4, 0, locSel d.locA, locSel d.locA⟩, ⟨4, 0, locSel d.locB, locSel d.locB⟩, ⟨6, slot, locSel d.locD, locSel d.locD⟩]
        else []
    | _ => [])

/-- Whether two lists of locations meet. -/
def meetAny (a b : List HLoc) : Bool := a.any (fun x => b.any x.meets)

/-- The hazard of R78 against one earlier, unretired tile-op. -/
def hazardWith (o : InFlight) (reads writes : List HLoc) : Bool :=
  meetAny o.writes (reads ++ writes) || meetAny o.reads writes

end Sys2Proof.Machine
end

