-- ==== Sys2Proof/Machine/Flags.lean ====
section
/-! DEFINITION. What a tile-op counts and which sticky flags it sets (R101, R102, R106 to R111, R122 to
R124, R128 to R130), and the regime it computes under. -/

namespace Sys2Proof.Machine

/-- The exact counts of a tile-op and the sticky bits of CTX_NUMERIC it sets. -/
structure Tot where
  sat : Nat := 0
  flush : Nat := 0
  sticky : Nat := 0
  deriving DecidableEq, Repr

def Tot.add (a b : Tot) : Tot := ⟨a.sat + b.sat, a.flush + b.flush, a.sticky ||| b.sticky⟩

/-- Every element counted at most once in each count (R122). -/
def Tot.ofEvs (es : List Ev) : Tot :=
  ⟨(es.filter (·.sat)).length, (es.filter (·.flush)).length, es.foldl (fun m e => m ||| e.sticky) 0⟩

def Tot.sum (ts : List Tot) : Tot := ts.foldl Tot.add {}

/-- Regime of an anchored or INT8 tile-op: FLUSH_SUB as latched, never strict (R111, R126, R137). -/
def Latched.anchored (l : Latched) : Regime := { flush := l.flush }
/-- Regime of every other tile-op: strict contexts ignore FLUSH_SUB (R111, R126). -/
def Latched.regime (l : Latched) : Regime := { flush := l.flush && !l.strict, strict := l.strict }
/-- An operation on integers alone sets no flag (R129). -/
def Regime.ifFloat (g : Regime) (float : Bool) : Regime := { g with strict := g.strict && float }

/-- A 16-bit count of a completion record (R122). -/
def count16 (n : Nat) : Nat := min n 65535

-- ---------------------------------------------------------------- elements of a row

/-- Bytes with the poison bit of the line each came from (R211). -/
abbrev PBytes := List (Nat × Bool)

def pois (b : PBytes) : Bool := b.any (·.2)
def vals (b : PBytes) : List Nat := b.map (·.1)

/-- The element bits of a row of `n` elements in any format but BS4. -/
def rowBits (f : Fmt) (n : Nat) (bs : List Nat) : List Nat :=
  (List.range n).map (fun i => leVal ((bs.drop (i * f.size)).take f.size))

/-- The values of a row, read under the regime (R109); BS4 elements are used exactly. -/
def rowNums (f : Fmt) (g : Regime) (n : Nat) (bs : List Nat) : List (Num × Ev) :=
  if f = .bs4 then (List.range n).map (fun i => (bs4Elem bs (i / 16 * 9) (i % 16), {}))
  else (rowBits f n bs).map (f.read g)

/-- The bytes of a row of element codes. -/
def bitsRow (f : Fmt) (xs : List Nat) : List Nat := (xs.map (leBytes f.size)).flatten

end Sys2Proof.Machine
end

