-- ==== Sys2Proof/Machine/Matrix.lean ====
section
/-! DEFINITION. The arithmetic of the MAC arrays: the cells of one tile-op, its checksum row and column, the
81 comparisons, and loading, storing, scanning and folding a set (R65 to R71, R115 to R118, R127, R131 to
R146, R166 to R173, R468, R469). -/

namespace Sys2Proof.Machine

-- ---------------------------------------------------------------- cells

/-- Consecutive groups of `n`: the products of one cycle. -/
def chunks {α : Type} (n : Nat) (xs : List α) : List (List α) :=
  (List.range ((xs.length + n - 1) / n)).map (fun i => (xs.drop (i * n)).take n)

/-- Products a cell takes in one cycle (R66, R115, R118, R127). -/
def perCycle (mode : Nat) (f : Fmt) : Nat :=
  match mode with
  | 3 => 1
  | 2 => 2
  | 1 => if f = .bs4 ∨ f.isFp8 then 2 else 1
  | _ => if f = .bs4 then 4 else if f.isFp8 then 2 else 1

/-- A cell of a FLAT set over the cycles of a tile-op: in each, the exact sum of the element and the cycle's
products, rounded or saturated once (R115, R118, R127). The element that the set holds is no operand element of R109: a subnormal
one is used exactly whatever FLUSH_SUB says (DESIGN CHOICE, log entry 69). -/
def flatCell (f : Fmt) (g : Regime) : List (List Num) → Nat × Ev → Nat × Ev
  | [], r => r
  | ps :: cs, r =>
    let x := f.encode g (Num.sum (f.decode r.1 :: ps))
    flatCell f g cs (x.1, r.2.join x.2)

/-- A cell of an ANCHORED set (R134 to R136). -/
def ancCell (anchor : Int) : List (List Num) → Int × Ev → Int × Ev
  | [], r => r
  | ps :: cs, r =>
    let ts := ps.map (ancTerm anchor)
    let x := ancAdd r.1 (ts.map (·.1))
    ancCell anchor cs (x.1, r.2.join { sat := x.2, flush := ts.any (·.2) })

/-- The integer value of an exact integer. -/
def Num.int : Num → Int
  | .fin n m e => let v : Int := ((m * 2 ^ e.toNat : Nat) : Int); if n then -v else v
  | _ => 0

/-- What an accumulating tile-op works on: M rows of A, N columns of B, mode 0 fast, 1 anchored, 2 INT8 or
3 strict, products per cycle, and its regime. -/
structure Mma where
  rows : List (List Num)
  cols : List (List Num)
  k : Nat
  mode : Nat
  per : Nat
  regime : Regime
  narrow : Bool
  deriving DecidableEq, Repr

def Mma.fmt (m : Mma) : Fmt := if m.mode = 2 then .int32 else .fp32

/-- One cell of any mode, on a stored code. -/
def Mma.cell (m : Mma) (anchor : Int) (old : Nat) (a b : List Num) : Nat × Ev :=
  let ps := chunks m.per (List.zipWith Num.mul a b)
  if m.mode = 1 then
    let r := ancCell anchor ps (ancOfCode old, {})
    (ancCode r.1, r.2)
  else flatCell m.fmt m.regime ps (old, {})

/-- The sums of R69: at each k-step the sum of the rows' elements, formed in FP32 (log entry 7) or exactly.
DESIGN CHOICE (log entry 85): FLUSH_SUB does not flush a subnormal FP32 sum. -/
def Mma.sums (m : Mma) (vs : List (List Num)) : List Num :=
  (List.range m.k).map (fun k =>
    let x := Num.sum (vs.map (fun v => v.getD k .zero))
    if m.mode = 2 then x else Fmt.decode .fp32 (Fmt.encode .fp32 {} x).1)

/-- A checksum cell: as an element's, but exact modulo 2^32 in INT8 mode (R468). -/
def Mma.sumCell (m : Mma) (anchor : Int) (old : Nat) (a b : List Num) : Nat :=
  if m.mode = 2 then
    ofInt 32 ((old : Int) + ((List.zipWith Num.mul a b).map Num.int).sum)
  else (m.cell anchor old a b).1

/-- Clear a set, keeping or giving an anchor. -/
def AccSet.cleared (anchor : Int) : AccSet := { anchor := anchor }

/-- Run an accumulating tile-op on a set (R68, R69, R166): the new set and the events of its elements. -/
def Mma.run (m : Mma) (s0 : AccSet) (zeroInit : Bool) : AccSet × List Ev :=
  let s := if zeroInit then AccSet.cleared s0.anchor else s0
  let mn := (m.rows.length, m.cols.length)
  let cells : List (Nat × Ev) := (List.range 1024).map (fun k =>
    let i := k / 64
    let j := k % 64
    let old := SMap.get 0 s.elems k
    if i < mn.1 ∧ j < mn.2 then m.cell s.anchor old (m.rows.getD i []) (m.cols.getD j []) else (old, {}))
  let sa := m.sums m.rows
  let sb := m.sums m.cols
  let sums : List Nat := (List.range 81).map (fun e =>
    let old := SMap.get 0 s.sums e
    if e < 64 then (if e < mn.2 then m.sumCell s.anchor old sa (m.cols.getD e []) else old)
    else if e < 80 then (if e - 64 < mn.1 then m.sumCell s.anchor old (m.rows.getD (e - 64) []) sb else old)
    else m.sumCell s.anchor old sa sb)
  let satNow := cells.map (fun c => c.2.sat && m.mode == 2)
  ({ s with
      ty := if m.mode = 1 then s.ty else if m.mode = 2 then .int32 else .fp32
      elems := SMap.ofList 0 0 (cells.map (·.1))
      sums := SMap.ofList 0 0 sums
      kc := s.kc + m.k
      narrow := s.narrow || m.narrow
      satElems := SMap.ofList false 0 ((List.range 1024).map (fun k => SMap.get false s.satElems k || satNow.getD k false)) },
   cells.map (·.2))

-- ---------------------------------------------------------------- the 81 comparisons (R468, R469)

/-- Elements that an entry covers, in ascending index order. -/
def covers (e : Nat) : List Nat :=
  if e < 64 then (List.range 16).map (fun i => 64 * i + e)
  else if e < 80 then (List.range 64).map (fun j => 64 * (e - 64) + j)
  else List.range 1024

/-- FP32 sum in ascending order, each addition rounded. -/
def fp32Sum (g : Regime) (xs : List Nat) : Nat :=
  xs.foldl (fun acc x => (Fmt.encode .fp32 g ((Fmt.decode .fp32 acc).add (Fmt.decode .fp32 x))).1) 0

/-- An FP32 code as an exact multiple of 2^-149; none when it is NaN or infinite. -/
def fp32Int (x : Nat) : Option Int :=
  match Fmt.decode .fp32 x with
  | .fin n m e => let v : Int := ((m * 2 ^ (e + 149).toNat : Nat) : Int); some (if n then -v else v)
  | _ => none

def allSome : List (Option Int) → Option (List Int)
  | [] => some []
  | none :: _ => none
  | some x :: xs => (allSome xs).map (x :: ·)

def absSum (xs : List Int) : Nat := (xs.map Int.natAbs).sum

/-- Whether an entry is compared and fails. -/
def AccSet.entryFails (s : AccSet) (anchored : Bool) (e : Nat) : Bool :=
  let xs := (covers e).map (fun k => SMap.get 0 s.elems k)
  let c := SMap.get 0 s.sums e
  if anchored then
    let vs := xs.map ancOfCode
    let cv := ancOfCode c
    if ancSpecial cv || vs.any ancSpecial then false
    else decide ((vs.sum - cv).natAbs > ((xs.length + 1) * s.kc + 1) / 2 + (cv.natAbs + 65535) / 65536)
  else match s.ty with
    | .int32 =>
      if (covers e).any (SMap.get false s.satElems) then false
      else decide (ofInt 32 ((xs.map (toInt 32)).sum) ≠ c % 2 ^ 32)
    | _ =>
      match allSome (xs.map fp32Int), fp32Int c with
      | some vs, some cv =>
        match fp32Int (fp32Sum {} xs) with
        | some sv => decide ((sv - cv).natAbs * 2 ^ (if s.narrow then 12 else 16) > max cv.natAbs (absSum vs))
        | none => true
      | _, _ => false

/-- Whether an entry is compared at all (R469). -/
def AccSet.entryCompared (s : AccSet) (anchored : Bool) (e : Nat) : Bool :=
  let xs := (covers e).map (fun k => SMap.get 0 s.elems k)
  let c := SMap.get 0 s.sums e
  !s.poison && (if anchored then !ancSpecial (ancOfCode c) && !(xs.map ancOfCode).any ancSpecial
    else match s.ty with
      | .int32 => !(covers e).any (SMap.get false s.satElems)
      | _ => (allSome (xs.map fp32Int)).isSome && (fp32Int c).isSome)

/-- The entries that are compared and fail (R468, R469): none of a poisoned set. -/
def AccSet.fails (s : AccSet) (anchored : Bool) : List Nat :=
  if s.poison then [] else (List.range 81).filter (s.entryFails anchored)

-- ---------------------------------------------------------------- checksum entries of a loaded set (R71, R169)

/-- Exact integer sum of stored elements with the rules of R135. A sum outside the ANC128 window gives POS_OVF or NEG_OVF: what a
checksum entry holds after REPLACE then, R145 does not say (DESIGN CHOICE, log entry 82). -/
def ancSum (xs : List Int) : Int := (ancAdd 0 (xs.map Term.ofElem)).1

/-- The checksum entries that match a set's elements, flushed as the elements are. -/
def sumsOf (g : Regime) (ty : AccTy) (anchored : Bool) (elems : SMap Nat) : SMap Nat :=
  SMap.ofList 0 0 ((List.range 81).map (fun e =>
    let xs := (covers e).map (fun k => SMap.get 0 elems k)
    if anchored then ancCode (ancSum (xs.map ancOfCode))
    else match ty with
      | .int32 => ofInt 32 ((xs.map (toInt 32)).sum)
      | _ => fp32Sum g xs))

/-- A FLAT set loaded with element codes (R169): poison as given, nothing accumulated since. -/
def flatLoaded (g : Regime) (ty : AccTy) (elems : List Nat) (poison : Bool) : AccSet :=
  let m := SMap.ofList 0 0 elems
  { ty := ty, elems := m, sums := sumsOf g ty false m, poison := poison }

/-- An ANCHORED set loaded from a block (R145, REPLACE). -/
def ancLoaded (anchor : Int) (xs : List Int) (poison : Bool) : AccSet :=
  let m := SMap.ofList 0 0 (xs.map ancCode)
  { anchor := anchor, elems := m, sums := sumsOf {} .none true m, poison := poison }

/-- ADD of a block to a set (R145): the new set and the events of its elements. A checksum entry has the exact sum of the loaded
elements added to it. It keeps K_c: only REPLACE is taken to load the set
in the sense of R468 (DESIGN CHOICE, log entry 71). -/
def AccSet.ancAdded (s : AccSet) (xs : List Int) : AccSet × List Ev :=
  let rs := (List.range 1024).map (fun k => ancAdd (ancOfCode (SMap.get 0 s.elems k)) [Term.ofElem (xs.getD k 0)])
  let m := SMap.ofList 0 0 (xs.map ancCode)
  let sums := (List.range 81).map (fun e =>
    ancCode (ancAdd (ancOfCode (SMap.get 0 s.sums e)) ((covers e).map (fun k => Term.ofElem (ancOfCode (SMap.get 0 m k))))).1)
  ({ s with elems := SMap.ofList 0 0 (rs.map (fun r => ancCode r.1)), sums := SMap.ofList 0 0 sums },
   rs.map (fun r => { sat := r.2 }))

/-- The elements of an ANCHORED set as integers, row-major. -/
def AccSet.ancElems (s : AccSet) : List Int := (List.range 1024).map (fun k => ancOfCode (SMap.get 0 s.elems k))

-- ---------------------------------------------------------------- ACC_STORE, ANC_FOLD, ANC_SCAN

/-- One element of ACC_STORE from a FLAT set (R121, R125, R170). A conversion to a narrower float reads its element as R109 gives
and sets the flags of its rounding in a strict context (DESIGN CHOICE, log entry 14). -/
def storeElem (ty : AccTy) (fd : Fmt) (g : Regime) (x : Nat) : Nat × Ev :=
  match ty with
  | .none => (0, {})
  | .fp32 =>
    if fd = .fp32 then (x, {})
    else
      let r := Fmt.read .fp32 g x
      let e := fd.encode g r.1
      (e.1, r.2.join e.2)
  | .int32 => if fd = .int32 then (x, {}) else fd.encode {} (Fmt.decode .int32 x)

/-- Rows of element codes that ACC_STORE writes from a FLAT set. -/
def AccSet.storeRows (s : AccSet) (fd : Fmt) (g : Regime) (m n : Nat) : List (List (Nat × Ev)) :=
  (List.range m).map (fun i => (List.range n).map (fun j => storeElem s.ty fd g (SMap.get 0 s.elems (64 * i + j))))

/-- Rows that ANC_FOLD writes (R146). -/
def AccSet.foldRows (s : AccSet) (fd : Fmt) (g : Regime) : List (List (Nat × Ev)) :=
  (List.range 16).map (fun i => (List.range 64).map (fun j =>
    fd.encode g (ancNum s.anchor (ancOfCode (SMap.get 0 s.elems (64 * i + j))))))

/-- Scan entries of an anchored set (R141, R172): one for each row, or one for all. -/
def AccSet.scan (s : AccSet) (rows : Bool) : List Nat :=
  let row (i : Nat) : Scan := Scan.all ((List.range 64).map (fun j => Scan.ofAnc s.anchor (ancOfCode (SMap.get 0 s.elems (64 * i + j)))))
  let rs := (List.range 16).map row
  if rows then rs.map Scan.entry else [(Scan.all rs).entry]

/-- Scan entries of a tensor's rows. -/
def scanRows (vs : List (List Num)) (rows : Bool) : List Nat :=
  let rs := vs.map (fun v => Scan.all (v.map Scan.ofNum))
  if rows then rs.map Scan.entry else [(Scan.all rs).entry]

end Sys2Proof.Machine
end

