-- ==== Sys2Proof/Machine/Transcend.lean ====
section
/-! DEFINITION. The exact values of the VEC_ACT functions (R176), against which its error bounds, its counts and its flags are
judged. A value that is not rational is given to 640 fractional bits with a sticky last bit, as the quotient and the square root
of the chapter on number formats are (log entry 5). -/

namespace Sys2Proof.Machine.Real

/-- A fixed-point number: an integer count of 2^−640. -/
abbrev Fx := Int

def one : Fx := 2 ^ 640
def mul (a b : Fx) : Fx := a * b / one
def div (a b : Fx) : Fx := a * one / b

/-- The fixed-point value of a finite number; every element of FP32, BF16 and FP16 is a multiple of 2^−640. -/
def ofNum (neg : Bool) (mag : Nat) (exp : Int) : Fx :=
  let m : Int := (mag * 2 ^ (exp + 640).toNat : Nat)
  if neg then -m else m

/-- A value known to be rational, or one that is not, cut to fixed point: the sticky bit says so. -/
def exact (v : Fx) : Num := .fin (decide (v < 0)) v.natAbs (-640)
def cut (v : Fx) : Num := .fin (decide (v < 0)) (2 * v.natAbs + 1) (-641)

/-- Σ of terms: the term of index n is the one before it times `f n`. -/
def series (f : Nat → Fx → Fx) : (fuel n : Nat) → (term : Fx) → Fx
  | 0, _, _ => 0
  | k + 1, n, t => t + series f k (n + 1) (f n t)

/-- Σ z^(2k+1) / (2k+1), with alternating signs for the arc tangent. -/
def oddPowers (z2 : Fx) (alt : Bool) : (fuel n : Nat) → (pow : Fx) → Fx
  | 0, _, _ => 0
  | k + 1, n, p => (if alt && n % 2 = 1 then -(p / (2 * n + 1)) else p / (2 * n + 1)) + oddPowers z2 alt k (n + 1) (mul p z2)

/-- Artanh for |z| ≤ 1/3 and arctan for |z| ≤ 1/5. -/
def artanh (z : Fx) : Fx := oddPowers (mul z z) false 220 0 z
def arctan (z : Fx) : Fx := oddPowers (mul z z) true 220 0 z

def ln2 : Fx := 2 * artanh (one / 3)
def pi : Fx := 16 * arctan (one / 5) - 4 * arctan (one / 239)

/-- Square root of a fixed-point number. -/
def sqrt (v : Fx) : Fx := (isqrt (v * one).natAbs : Nat)

/-- e^r for 0 ≤ r < 1. -/
def expSmall (r : Fx) : Fx := series (fun n t => mul t r / (n + 1)) 160 0 one

/-- e^y as a significand in [1, 2) and a power of two. -/
def expParts (y : Fx) : Fx × Int :=
  let n := y / ln2
  (expSmall (y - n * ln2), n)

/-- e^y as a number; beyond 2^±600 its magnitude is replaced by that power, far outside every format. -/
def expNum (y : Fx) : Num :=
  if y > 420 * one then .fin false 1 600
  else if y < -420 * one then .fin false 1 (-600)
  else
    let p := expParts y
    .fin false (2 * p.1.natAbs + 1) (p.2 - 641)

/-- e^y in fixed point for y ≤ 0. -/
def expFx (y : Fx) : Fx :=
  if y < -440 * one then 0
  else
    let p := expParts y
    p.1 / (2 ^ (-p.2).toNat : Nat)

/-- ln of m × 2^e, m > 0. -/
def ln (m : Nat) (e : Int) : Fx :=
  let k := Nat.log2 m
  let v : Fx := (m * 2 ^ (640 - k) : Nat)
  let big := 3 * v > 4 * one
  let u := if big then v / 2 else v
  let n : Int := e + k + (if big then 1 else 0)
  n * ln2 + 2 * artanh (div (u - one) (u + one))

/-- 1 ÷ (1 + e^−y), strictly between 0 and 1. -/
def sigmoid (y : Fx) : Fx :=
  let t := expFx (-(y.natAbs : Int))
  let v := if 0 ≤ y then div one (one + t) else div t (one + t)
  max 1 (min (one - 1) v)

/-- tanh of a number that is not 0: of magnitude below 1. -/
def tanh (y : Fx) : Fx :=
  let t := expFx (-2 * (y.natAbs : Int))
  let v := min (one - 1) (div (one - t) (one + t))
  if y < 0 then -v else v

/-- erf: 2/√π e^(−y²) Σ 2^n y^(2n+1) / (2n+1)!!; from 10 on it is nearer to 1 than any format tells apart. -/
def erf (y : Fx) : Fx :=
  let a : Fx := y.natAbs
  let v := if a ≥ 10 * one then one - 1
    else
      let y2 := mul a a
      min (one - 1) (mul (div (2 * expFx (-y2)) (sqrt pi)) (series (fun n t => 2 * mul t y2 / (2 * n + 3)) 900 0 a))
  if y < 0 then -v else v

/-- ln(1 + e^y). -/
def softplus (y : Fx) : Fx :=
  let t := expFx (-(y.natAbs : Int))
  let l := max 1 (2 * artanh (div t (2 * one + t)))
  if 0 ≤ y then y + l else l

/-- sine of r for |r| ≤ 1, and cosine. -/
def sinSmall (r : Fx) : Fx := series (fun n t => -(mul (mul t r) r / ((2 * n + 2) * (2 * n + 3)))) 80 0 r
def cosSmall (r : Fx) : Fx := series (fun n t => -(mul (mul t r) r / ((2 * n + 1) * (2 * n + 2)))) 80 0 one

/-- sin of y + q × π/2. -/
def sinAt (y : Fx) (q : Int) : Fx :=
  let half := pi / 2
  let n := (2 * y + half) / (2 * half)
  let r := y - n * half
  match ((n + q) % 4).toNat with
  | 0 => sinSmall r
  | 1 => cosSmall r
  | 2 => -sinSmall r
  | _ => -cosSmall r

/-- GELU_TANH as x × sigmoid(2 √(2/π) (x + 0.044715 x³)). -/
def gelu (y : Fx) : Fx :=
  let u := mul (2 * sqrt (div (2 * one) pi)) (y + mul (mul y y) y * 44715 / 1000000)
  mul y (sigmoid u)

/-- A power of two as a number, where the fixed-point value is an integer. -/
def exp2Num (y : Fx) : Num :=
  if y > 600 * one then .fin false 1 600
  else if y < -600 * one then .fin false 1 (-600)
  else
    let n := y / one
    let r := y - n * one
    if r = 0 then .fin false 1 n else .fin false (2 * (expSmall (mul r ln2)).natAbs + 1) (n - 641)

end Sys2Proof.Machine.Real

namespace Sys2Proof.Machine

/-- The exact value of a function of R176 at a finite input where it has one that is finite; FUNC 0, RELU, is computed as the
maximum. -/
def actExact (f : Nat) (neg : Bool) (mag : Nat) (exp : Int) : Num :=
  let x := Num.fin neg mag exp
  let y := Real.ofNum neg mag exp
  let z := mag == 0
  match f with
  | 1 => if z then .fin false 1 0 else Real.expNum y
  | 2 => Real.exp2Num y
  | 3 => if x.cmp (.fin false 1 0) = 0 then .zero else Real.cut (Real.ln mag exp)
  | 4 => if mag = 2 ^ Nat.log2 mag then Num.ofInt (exp + Nat.log2 mag) else Real.cut (Real.div (Real.ln mag exp) Real.ln2)
  | 5 => (Num.div (.fin false 1 0) x).1
  | 6 => (Num.div (.fin false 1 0) x.sqrt).1
  | 7 => if z then x else Real.cut (Real.tanh y)
  | 8 => if z then .fin false 1 (-1) else Real.cut (Real.sigmoid y)
  | 9 => if z then x else Real.cut (Real.mul y (Real.sigmoid y))
  | 10 => if z then x else Real.cut (Real.gelu y)
  | 11 => if z then x else Real.cut (Real.erf y)
  | 12 => Real.cut (Real.softplus y)
  | 13 => if z then x else Real.cut (Real.sinAt y 0)
  | _ => if z then .fin false 1 0 else Real.cut (Real.sinAt y 1)

end Sys2Proof.Machine
end

