-- ==== Sys2Proof/Machine/Vector.lean ====
section
/-! DEFINITION. The arithmetic of the vector engine: element-wise operations, VEC_ACT, reductions, CAST,
transposes and row moves (R105, R119, R120, R174 to R180). -/

namespace Sys2Proof.Machine

-- ---------------------------------------------------------------- VEC_EW (R175)

/-- Operand of a faithfully rounded operation as the key of `Config.roundUp` (log entry 4). -/
def opKey (op : Nat) (fa fb : Fmt) : Nat := op + 16 * fa.code + 256 * fb.code

/-- One element of VEC_EW: `a`, `b` and `c` the values of A, B and D, `ab` and `bb` their bits. -/
def ewElem (f : Nat) (fa fb fd : Fmt) (g : Regime) (a b c : Num) (ab bb : Nat) : Nat × Ev :=
  let one (v : Bool) : Nat × Ev :=
    (b2n v, { sticky := if g.strict && (a == .nan true || b == .nan true) then stInvalid else 0 })
  match f with
  | 0 => fd.encode g (a.add b)
  | 1 => fd.encode g (a.sub b)
  | 2 => fd.encode g (a.mul b)
  | 3 => fd.encode g ((a.mul b).add c)
  | 4 =>
    let q := a.div b
    let r := if g.strict then fd.encode g q.1
      else fd.encodeFaithful g (Config.roundUp (opKey 0 fa fb) fd.code ab bb) q.1
    (r.1, r.2.join { sticky := if g.strict && q.2 then stDivZero else 0 })
  | 5 => if g.strict then fd.encode g a.sqrt
      else fd.encodeFaithful g (Config.roundUp (opKey 1 fa fb) fd.code ab 0) a.sqrt
  | 6 => fd.encode g (a.min b)
  | 7 => fd.encode g (a.max b)
  | 8 => fd.encode g a.abs
  | 9 => fd.encode g a.neg
  | 10 => one (!a.isNan && !b.isNan && a.cmp b == 0)
  | 11 => one (!a.isNan && !b.isNan && decide (a.cmp b < 0))
  | 12 => one (!a.isNan && !b.isNan && decide (a.cmp b ≤ 0))
  | _ => one (a.isNan || b.isNan)

-- ---------------------------------------------------------------- VEC_ACT (R176)

/-- An element of a format as a signed count of magnitude codes: consecutive counts are consecutive values. The greatest count
whose value is at most `x`, for a finite value; counts go on beyond the largest finite code. -/
def Fmt.floorIdx (f : Fmt) (neg : Bool) (mag : Nat) (exp : Int) : Int :=
  if mag = 0 then 0
  else
    let t := f.grid mag exp
    let r := truncTo mag (exp - t)
    let c := f.codeAt r.1 t
    if neg then -(if r.2 then c + 1 else c : Nat) else (c : Nat)

def Num.floorIdx (f : Fmt) (x : Num) : Int :=
  match x with
  | .fin n m e => f.floorIdx n m e
  | _ => 0
/-- The least count whose value is at least `x`. -/
def Num.ceilIdx (f : Fmt) (x : Num) : Int := -(x.neg.floorIdx f)

/-- The error bound of R176: `ulps` units in the last place, or an absolute bound of 2^`absExp`, whichever is larger. A bound of 0
ulp and an absolute one is absolute alone. -/
structure ActBound where
  ulps : Nat
  absExp : Option Int
  deriving DecidableEq, Repr

def actBound (f : Nat) : ActBound :=
  match f with
  | 1 | 3 | 4 | 6 => ⟨2, none⟩
  | 2 | 5 => ⟨1, none⟩
  | 7 | 8 | 12 => ⟨4, none⟩
  | 9 => ⟨5, none⟩
  | 10 => ⟨8, some (-22)⟩
  | 11 => ⟨4, some (-24)⟩
  | _ => ⟨0, some (-22)⟩

/-- The bound as a value, at an exact value in a format. -/
def ActBound.width (b : ActBound) (f : Fmt) (mag : Nat) (exp : Int) : Num :=
  let u := Num.fin false b.ulps (if mag = 0 then f.lsb else f.grid mag exp)
  match b.absExp with
  | some e => Num.max u (.fin false 1 e)
  | none => u

/-- The results that the bound admits, as the least and the greatest count. SIN and COS beyond 2^14 lie anywhere in [−1, 1]. Where
a narrow format has no value within an absolute bound, its two values next to the exact one are admitted (log entry 5). -/
def actRange (f : Nat) (fd : Fmt) (x y : Num) : Int × Int :=
  match y with
  | .fin _ m e =>
    let one := Num.floorIdx fd (.fin false 1 0)
    if 13 ≤ f ∧ Num.cmp (.fin false 1 14) x.abs < 0 then (-one, one)
    else
      let w := (actBound f).width fd m e
      let lo := Num.ceilIdx fd (y.sub w)
      let hi := Num.floorIdx fd (y.add w)
      if lo ≤ hi then (lo, hi) else (y.floorIdx fd, y.floorIdx fd + 1)
  | _ => (0, 0)

/-- Write the result of count `n` for the exact value `y`: saturation and flushing judged against the exact value (R101, R102), a
zero with its sign, FLUSH_SUB (R109), and in strict contexts the flags of R176. -/
def actFinish (fd : Fmt) (g : Regime) (y : Num) (n : Int) : Nat × Ev :=
  match y with
  | .fin neg mag exp =>
    let c := min n.natAbs fd.infCode
    let sub := decide (c ≠ 0) && decide (c < 2 ^ fd.mbits)
    let flushed := g.flush && !g.strict && sub
    let c1 := if flushed then 0 else c
    let sat := fd.beyond mag exp
    let exactly := decide (c < fd.infCode) && (Num.cmp (fd.decode (fd.signBit (decide (n < 0)) + c)) y == 0)
    let inexact := decide (c < fd.infCode) && !exactly
    let st := if g.strict then
        (if sat then stOverflow else 0) ||| (if inexact then stInexact else 0)
        ||| (if inexact && decide (c < 2 ^ fd.mbits) then stUnderflow else 0)
      else if flushed then stSubFlushed else 0
    (fd.signBit (if c1 = 0 then neg else decide (n < 0)) + c1, { sat := sat, flush := decide (c1 = 0) && decide (mag ≠ 0), sticky := st })
  | _ => (0, {})

/-- A result within the bound of R176; which of them is open (log entry 5). -/
def actOpen (f : Nat) (fa fd : Fmt) (g : Regime) (x : Num) (bits : Nat) : Nat × Ev :=
  match x with
  | .fin n m e =>
    let y := actExact f n m e
    let r := actRange f fd x y
    actFinish fd g y (r.1 + (Config.vecAct f fa.code fd.code bits % ((r.2 - r.1).toNat + 1) : Nat))
  | _ => (0, {})

/-- The limit of a function at an infinity, where it has one; a zero keeps the sign from which the function
nears it (log entry 5). -/
def actAtInf (f : Nat) (neg : Bool) : Option Num :=
  let one : Num := .fin false 1 0
  match f with
  | 1 | 2 | 12 => some (if neg then .zero else .inf false)
  | 3 | 4 => if neg then none else some (.inf false)
  | 5 => some (.fin neg 0 0)
  | 6 => if neg then none else some .zero
  | 7 | 11 => some (if neg then one.neg else one)
  | 8 => some (if neg then .zero else one)
  | 9 | 10 => some (if neg then .fin true 0 0 else .inf false)
  | _ => none

/-- The flags of an exactly defined result (R176): IEEE_OVERFLOW for one counted saturated, IEEE_INEXACT for a finite one. -/
def actFlags (fd : Fmt) (g : Regime) (r : Nat × Ev) : Nat × Ev :=
  if g.strict then
    (r.1, { r.2 with sticky := (r.2.sticky &&& stUnderflow) ||| (if r.2.sat then stOverflow else 0)
      ||| (if r.1 < fd.infCode then r.2.sticky &&& stInexact else 0) })
  else r

/-- One element of VEC_ACT. -/
def actElem (f : Nat) (fa fd : Fmt) (g : Regime) (x : Num) (bits : Nat) : Nat × Ev :=
  let st (b : Nat) : Nat := if g.strict then b else 0
  let invalid : Nat × Ev := (fd.nanCode, { sticky := st stInvalid })
  let pole (neg : Bool) : Nat × Ev := (fd.signBit neg + fd.infCode, { sticky := st stDivZero })
  match x with
  | .nan s => (fd.nanCode, { sticky := if s then st stInvalid else 0 })
  | .inf n =>
    if f = 0 then fd.encode g (Num.max x .zero)
    else match actAtInf f n with
      | some y => fd.encode g y
      | none => invalid
  | .fin n m _ =>
    if f = 0 then actFlags fd g (fd.encode g (Num.max x .zero))
    else if (f = 3 ∨ f = 4) ∧ m = 0 then pole true
    else if (f = 5 ∨ f = 6) ∧ m = 0 then pole n
    else if (f = 3 ∨ f = 4 ∨ f = 6) ∧ n then invalid
    else actOpen f fa fd g x bits

-- ---------------------------------------------------------------- VEC_RED (R120, R177)

/-- The largest power of two below `n`, for n ≥ 2. -/
def halfBelow (n : Nat) : Nat := 2 ^ Nat.log2 (n - 1)

/-- Round to FP32 and keep what happened. DESIGN CHOICE (log entry 85): in VEC_RED SUM every addition, not only the last,
can make the D element counted as saturated or flushed. -/
def add32 (g : Regime) (a b : Num × Ev) : Num × Ev :=
  let r := Fmt.encode .fp32 g (a.1.add b.1)
  (Fmt.decode .fp32 r.1, (a.2.join b.2).join r.2)

/-- tree_sum of R177 over the list, with enough fuel for its length. -/
def treeSum (g : Regime) : Nat → List Num → Num × Ev
  | 0, _ => (.zero, {})
  | _ + 1, [] => (.zero, {})
  | _ + 1, [x] => (x, {})
  | k + 1, xs =>
    let h := halfBelow xs.length
    add32 g (treeSum g k (xs.take h)) (treeSum g k (xs.drop h))

/-- The same tree over operands as read, and what each of its additions counts, a leaf's own event with the addition that takes it. -/
def treeAdds (g : Regime) : Nat → List (Num × Ev) → (Num × Ev) × List Ev
  | 0, _ => ((.zero, {}), [])
  | _ + 1, [] => ((.zero, {}), [])
  | _ + 1, [x] => (x, [])
  | k + 1, xs =>
    let h := halfBelow xs.length
    let a := treeAdds g k (xs.take h)
    let b := treeAdds g k (xs.drop h)
    let r := add32 g a.1 b.1
    ((r.1, {}), a.2 ++ b.2 ++ [r.2])

/-- The sum of a row of floats: the fixed tree, or ascending order in a strict context. -/
def redSum (g : Regime) (xs : List Num) : Nat × Ev :=
  let s := if g.strict then
      match xs with
      | [] => (.zero, {})
      | x :: r => r.foldl (fun acc y => add32 g acc (y, {})) (x, {})
    else treeSum g xs.length xs
  let r := Fmt.encode .fp32 g s.1
  (r.1, s.2.join r.2)

def foldNum (f : Num → Num → Num) : List Num → Num
  | [] => .zero
  | x :: xs => xs.foldl f x

/-- One element of VEC_RED. -/
def redElem (f : Nat) (fa fd : Fmt) (g : Regime) (xs : List Num) : Nat × Ev :=
  match f with
  | 0 => if fa.isFloat then redSum g xs else fd.encode {} (Num.sum xs)
  | 1 => fd.encode g (foldNum Num.max xs)
  | 2 => fd.encode g (foldNum Num.min xs)
  | _ => fd.encode g (foldNum Num.max (xs.map Num.abs))

-- ---------------------------------------------------------------- CAST (R98 to R105, R178)

/-- One element of CAST to a format other than BS4; FP32 to FP16 of an exact subnormal sets IEEE_UNDERFLOW
in a strict context (R644). -/
def castElem (fa fd : Fmt) (g : Regime) (x : Num) : Nat × Ev :=
  let r := fd.encode g x
  let lim02 := g.strict && fa == .fp32 && fd == .fp16 && fd.isSubnormal r.1 && !r.2.sticky.testBit 10
  (r.1, if lim02 then r.2.join { sticky := stUnderflow } else r.2)

/-- A row of CAST: its bytes and totals. To BS4 a strict context takes IEEE_INVALID from a signalling NaN (R112) and no other flag:
CAST to BS4 is no operation of R128, and R129 names none for it (DESIGN CHOICE, log entry 14). -/
def castRow (fa fd : Fmt) (g : Regime) (xs : List Num) : List Nat × Tot :=
  if fd = .bs4 then
    let bs := (chunks 16 xs).map bs4Encode
    ((bs.map (·.1)).flatten, ⟨(bs.map (·.2.1)).sum, (bs.map (·.2.2)).sum, if g.strict && xs.contains (.nan true) then stInvalid else 0⟩)
  else
    let rs := xs.map (castElem fa fd g)
    (bitsRow fd (rs.map (·.1)), Tot.ofEvs (rs.map (·.2)))

-- ---------------------------------------------------------------- moves (R179, R180)

/-- The transpose of rows of `k` elements of `w` bytes, bytes with their poison. -/
def xposeRows (rows : List PBytes) (k w : Nat) : List PBytes :=
  (List.range k).map (fun j => (rows.map (fun r => (r.drop (j * w)).take w)).flatten)

/-- INT32 indices of GATHER and SCATTER. -/
def indices (m : Nat) (bs : List Nat) : List Int := (rowBits .int32 m bs).map (toInt 32)

end Sys2Proof.Machine
end

