-- ==== Sys2Proof/Machine/Warp.lean ====
section
/-! DEFINITION. Circuits, channels and queues (chapter The warp network and message channels): the entries in
force at a router, the path of a circuit, credits, the queue descriptor, and taking a token from a queue. -/

namespace Sys2Proof.Machine

-- ---------------------------------------------------------------- route entries (R266, R267)

def reValid (e : Nat) : Bool := bitOf e 31
def reIn (e : Nat) : Nat := fld e 28 3
def reSink (e : Nat) : Nat := fld e 24 4
def reChan (e : Nat) : Nat := fld e 21 3
def reCircuit (e : Nat) : Nat := fld e 8 8

/-- A card with the logical tile that holds it. -/
abbrev Placed := Nat × Slot

/-- Whether the router of a site holds a card's own route entries: its tile's, or that of the site which its tile has left
(R35). -/
def State.standsAt (s : State) (die : Nat) (x : Placed) (site : Nat) : Bool :=
  if x.2.home = 0 then s.siteOf die x.1 == some site else x.2.home == site + 1

/-- A card's entry at a router: the darner's (R491, R495), else its own. -/
def State.cardEntry (s : State) (die : Nat) (x : Placed) (site port pick : Nat) : Nat :=
  match SMap.get 0 x.2.darned (site * 80 + port * 16 + pick) with
  | v + 1 => v
  | 0 => if s.standsAt die x site then SMap.get 0 x.2.routes (port * 16 + pick) else 0

/-- Whether the darner has written a place of a card. -/
def Slot.darns (sl : Slot) (site port pick : Nat) : Bool := SMap.get 0 sl.darned (site * 80 + port * 16 + pick) != 0

/-- The entry of some cards of one context at a router: what the darner wrote for one of them, else the first card's that stands
there. -/
def State.entryOf (s : State) (die : Nat) (cards : List Placed) (site port pick : Nat) : Nat :=
  match cards.find? (fun x => x.2.darns site port pick) with
  | some x => s.cardEntry die x site port pick
  | none => ((cards.map (fun x => s.cardEntry die x site port pick)).find? (fun e => e != 0)).getD 0

/-- The current cards of a context on a die. -/
def State.cardsNow (s : State) (die c : Nat) : List Placed :=
  (s.tiles.filter (fun e => e.1 / 288 == die)).filterMap (fun e => (e.2.currentSlot c).map (fun k => (e.1 % 288, e.2.slot k)))

/-- The entry in force for a context at a site's router, output port and pick (R267). -/
def State.entryAt (s : State) (die site c port pick : Nat) : Nat := s.entryOf die (s.cardsNow die c) site port pick

/-- ROUTE_ENTRY of a card as it reads in its tile's window. -/
def State.slotEntry (s : State) (die tile : Nat) (sl : Slot) (port pick : Nat) : Nat :=
  match s.siteOf die tile with
  | some site => s.cardEntry die (tile, sl) site port pick
  | none => 0

/-- Directions are ports 1 north, 2 east, 3 south, 4 west. -/
def portDir (port : Nat) : Nat := port - 1
def oppPort (port : Nat) : Nat := opposite (portDir port) + 1

/-- The output port that an input feeds in a pick, if an entry in force names it (R268). -/
def State.outOf (s : State) (die site c inPort pick : Nat) : Option (Nat × Nat) :=
  ((List.range 5).map (fun p => (p, s.entryAt die site c p pick))).find? (fun e => reValid e.2 && reIn e.2 == inPort)

/-- The site across a link, none where there is none or the link is out of service (R47). -/
def State.across (s : State) (die site dir : Nat) : Option Nat := if s.linkOut die site dir then none else neighbour site dir

/-- Follow a circuit from an input of a site's router: the site and SINK it ends at and its links, or none
where an entry is missing and the flit is discarded (R262, R268). A circuit has at most 63 links (R261). -/
def State.walk (s : State) (die c pick : Nat) : Nat → (site inPort links : Nat) → Option (Nat × Nat × Nat)
  | 0, _, _, _ => none
  | k + 1, site, inPort, links =>
    match s.outOf die site c inPort pick with
    | none => none
    | some (0, e) => some (site, reSink e, links)
    | some (p, _) =>
      match s.across die site (portDir p) with
      | none => none
      | some n => s.walk die c pick k n (oppPort p) (links + 1)

/-- Output ports and picks at which a channel of a context feeds its circuit at a site's router. -/
def State.feeds (s : State) (die site c chan : Nat) : List (Nat × Nat) :=
  ((List.range 15).map (fun k =>
    ((List.range 5).filter (fun p =>
      let e := s.entryAt die site c p (k + 1)
      reValid e && reIn e == 0 && reChan e == chan)).map (fun p => (p, k + 1)))).flatten

/-- Where a send channel's circuit ends: site, SINK, links. Input 0 of its own router also feeds other
channels, so the walk begins at the channel's own entry. -/
def State.chanPath (s : State) (die tile c chan : Nat) : Option (Nat × Nat × Nat) :=
  match s.siteOf die tile with
  | none => none
  | some site =>
    match s.feeds die site c chan with
    | [] => none
    | (p, k) :: _ =>
      if p = 0 then some (site, reSink (s.entryAt die site c 0 k), 0)
      else match s.across die site (portDir p) with
        | none => none
        | some n => s.walk die c k 64 n (oppPort p) 1

/-- Links from an output port of a router back to the circuit's source: a tile, or the ring stop of an edge
router (R250, R271). -/
def State.backLinks (s : State) (die c pick : Nat) : Nat → (site port links : Nat) → Option Nat
  | 0, _, _, _ => none
  | k + 1, site, port, links =>
    let e := s.entryAt die site c port pick
    if !reValid e then none
    else if reIn e = 0 then some links
    else match neighbour site (portDir (reIn e)) with
      | none => some links
      | some n => s.backLinks die c pick k n (oppPort (reIn e)) (links + 1)

/-- Links of the stream circuit that ends at a stream port, or 0 where no entry feeds it. -/
def State.streamLinks (s : State) (die tile c p : Nat) : Nat :=
  match s.siteOf die tile with
  | none => 0
  | some site =>
    match ((List.range 15).map (· + 1)).find? (fun k =>
        let e := s.entryAt die site c 0 k
        reValid e && reSink e == 8 + p) with
    | some k => (s.backLinks die c k 64 site 0 0).getD 0
    | none => 0

-- ---------------------------------------------------------------- configuration images (R273, R274)

def qKind (q : Nat) : Nat := fld q 42 2
def qRingLoc (q : Nat) : Nat := fld q 40 2
def qRingEntries (q : Nat) : Nat := fld q 24 13
def qSrcTile (q : Nat) : Nat := fld q 15 9
def qSrcChan (q : Nat) : Nat := fld q 12 3
def qDepth (q : Nat) : Nat := fld q 0 6
def qCtx (q : Nat) : Nat := fld q 52 4
def qGen (q : Nat) : Nat := fld q 44 8

def scKind (c : Nat) : Nat := fld c 62 2
def scPair (c : Nat) : Nat := fld c 60 2
def scCircuit (c : Nat) : Nat := fld c 48 8
def scDestTile (c : Nat) : Nat := fld c 39 9
def scDestQ (c : Nat) : Nat := fld c 36 3
def scDestDepth (c : Nat) : Nat := fld c 16 6
def scCredits (c : Nat) : Nat := fld c 0 13

-- ---------------------------------------------------------------- queue descriptors (R275)

def QDesc.epoch (d : QDesc) : Nat := fld d.word.toNat 138 2
def QDesc.kind (d : QDesc) : Nat := fld d.word.toNat 142 2
def QDesc.predVal (d : QDesc) : Bool := bitOf d.word.toNat 141
def QDesc.spill (d : QDesc) : Bool := bitOf d.word.toNat 140
def QDesc.gen (d : QDesc) : Nat := fld d.word.toNat 120 8
def QDesc.ctx (d : QDesc) : Nat := fld d.word.toNat 116 4

/-- The fields of a descriptor that SEND and CHOOSE_Q choose (R182, R651). -/
structure Payload where
  kind : Nat
  payload : Nat := 0
  len : Nat := 0
  tag : Nat := 0
  predVal : Bool := false
  poison : Bool := false
  deriving DecidableEq, Repr

/-- Stamp a descriptor (R275). -/
def stamp (p : Payload) (spill : Bool) (epoch gen c tile chan seq : Nat) : QDesc :=
  { word := BitVec.ofNat 256 (at_ 192 64 p.payload + at_ 160 32 p.len + at_ 144 16 p.tag + at_ 142 2 p.kind
      + at_ 141 1 (b2n p.predVal) + at_ 140 1 (b2n spill) + at_ 138 2 epoch + at_ 120 8 gen + at_ 116 4 c
      + at_ 107 9 tile + at_ 104 3 chan + at_ 0 32 seq)
    poison := p.poison }

-- ---------------------------------------------------------------- credits (R271)

/-- Release credits of a queue toward its sender under an epoch, from the frame they are released in; a rehearsed stall holds
them back (R521). -/
def State.returnCreditAs (s0 : State) (die tile q notice n epoch : Nat) : State :=
  let x := (s0.tile die tile).queue q
  let stalled := x.rehStall && decide (0 < n)
  let s := if stalled then s0.updTile die tile (fun t => t.updQueue q (fun x => { x with heldCredits := x.heldCredits + n })) else s0
  let count := if stalled then 0 else n
  if stalled && notice == 0 then s else
  let w := x.cfg.toNat
  let c := qCtx w
  let src := s.tile die (qSrcTile w)
  let circuit := match src.currentSlot c with
    | some k => scCircuit ((src.slot k).chan (qSrcChan w)).cfg.toNat
    | none => 0
  let h := match s.chanPath die (qSrcTile w) c (qSrcChan w) with
    | some p => p.2.2
    | none => 0
  s.updDie die (fun d => { d with credits := d.credits ++ [{
    ctx := c, tile := qSrcTile w, chan := qSrcChan w, notice := notice, epoch := epoch, count := count, circuit := circuit
    frame := d.frame + h + 1 }] })

/-- The epoch that returns of a context's circuits carry at a tile: that of its current card there, else of the last (R312). -/
def Tile.returnEpoch (t : Tile) (c last : Nat) : Nat :=
  match t.currentSlot c with
  | some k => (t.slot k).epoch
  | none => last

/-- Release credits of a queue toward its sender. -/
def State.returnCredit (s : State) (die tile q notice n : Nat) : State :=
  let t := s.tile die tile
  s.returnCreditAs die tile q notice n (t.returnEpoch (qCtx (t.queue q).cfg.toNat) (t.queue q).lastEpoch)

/-- One credit to a streamer for a line taken from a landing buffer or discarded there (R284), under an epoch. -/
def State.returnStreamCreditAs (s : State) (die tile p count epoch : Nat) : State :=
  let x := (s.tile die tile).stream p
  if count = 0 then s else
  s.updDie die (fun d => { d with credits := d.credits ++ [{
    stream := true, ctx := x.ctx, tile := tile, chan := x.streamer, circuit := x.circuit, count := count
    epoch := epoch
    frame := d.frame + s.streamLinks die tile x.ctx p + 1 }] })

/-- The same under the epoch of the context's current card there. -/
def State.returnStreamCredit (s : State) (die tile p count : Nat) : State :=
  s.returnStreamCreditAs die tile p count ((s.tile die tile).returnEpoch ((s.tile die tile).stream p).ctx 0)

-- ---------------------------------------------------------------- tokens at a queue (R283, R305)

/-- Position of a token's epoch relative to the current card: 0 current, 1 early, 2 or 3 old. A poisoned
descriptor is treated as current (R306). -/
def QDesc.age (d : QDesc) (epoch : Nat) : Nat := if d.poison then 0 else (d.epoch + 4 - epoch) % 4

/-- Give back the reservations of reply tokens that leave their queue: a reply's only credit (R272, R279). -/
def Queue.unreserve (x : Queue) (n : Nat) : Queue := if qKind x.cfg.toNat = 3 then { x with reserved := x.reserved - n } else x

/-- Remove the old tokens at the head of a queue: each returns its credit and is counted (R305, R316). -/
def State.purgeAux (s : State) (die tile q c epoch : Nat) : List QDesc → State
  | [] => s.updTile die tile (fun t => t.updQueue q (fun x => { x with items := [] }))
  | d :: ds =>
    if 2 ≤ d.age epoch then
      (((s.returnCredit die tile q 0 1).updTile die tile (fun t => t.updQueue q (fun x => x.unreserve 1))).count 0x8070 1 c 1).purgeAux
        die tile q c epoch ds
    else s.updTile die tile (fun t => t.updQueue q (fun x => { x with items := d :: ds }))

/-- Judge the head of a queue against its context's current card. -/
def State.purgeQueue (s : State) (die tile q : Nat) : State :=
  let t := s.tile die tile
  let x := t.queue q
  let c := qCtx x.cfg.toNat
  match t.currentSlot c with
  | none => s
  | some k => if x.items.isEmpty then s else s.purgeAux die tile q c (t.slot k).epoch x.items

/-- The head token that a RECV or SELECT of a card would take now. -/
def Tile.headToken (t : Tile) (q epoch : Nat) : Option QDesc :=
  match (t.queue q).items with
  | [] => none
  | d :: _ => if d.age epoch = 0 then some d else none

/-- Remove the head token for a RECV or SELECT of slot `k` (R279, R280, R283): its flow credit returns, a
reply credit is given back, or PENDING of the paired REPLY channels rises. -/
def State.takeToken (s : State) (die tile q k : Nat) : State :=
  let s1 := s.returnCredit die tile q 0 1
  let s2 := s1.updTile die tile (fun t =>
    let t1 := t.updQueue q (fun x => ({ x with items := x.items.drop 1, joinNamed := false } : Queue).unreserve 1)
    t1.updSlot k (fun sl =>
      let sl1 := { sl with received := sl.received + 1 }
      (List.range 8).foldl (fun y c =>
        let g := (y.chan c).cfg.toNat
        if scKind g = 3 ∧ scPair g = q then y.updChan c (fun ch => { ch with pending := ch.pending + 1 }) else y) sl1))
  s2.purgeQueue die tile q

-- ---------------------------------------------------------------- sending (R276)

/-- What a SEND on a channel meets now. -/
inductive SendSt where
  | closed | fenced | blocked | go
  deriving DecidableEq, Repr

def Tile.sendSt (t : Tile) (k chan : Nat) : SendSt :=
  let c := (t.slot k).chan chan
  let w := c.cfg.toNat
  match c.peer with
  | .closed => .closed
  | .fenced => .fenced
  | .paused => .blocked
  | .open_ =>
    let ok := (if scKind w = 3 then decide (0 < c.pending) else decide (0 < c.credits))
      && (scKind w != 2 || decide ((t.queue (4 + scPair w)).reserved < qDepth (t.queue (4 + scPair w)).cfg.toNat))
      && decide (c.tx.length < 2)
    if ok then .go else .blocked

/-- Whether the blocked SEND waits on credits, a reply credit or PENDING, whose time counts (R286, R287). -/
def Tile.sendTimed (t : Tile) (k chan : Nat) : Bool :=
  let c := (t.slot k).chan chan
  let w := c.cfg.toNat
  c.peer == .open_ && ((if scKind w = 3 then c.pending == 0 else c.credits == 0)
    || (scKind w == 2 && !decide ((t.queue (4 + scPair w)).reserved < qDepth (t.queue (4 + scPair w)).cfg.toNat)))

/-- Send on a channel that is ready (R276, R278): stamp, take what the kind requires, enter the transmit
buffer. Answers whether it spilled and the descriptor. -/
def State.sendOn (s : State) (die tile k chan : Nat) (p : Payload) : State × Bool × QDesc :=
  let t := s.tile die tile
  let sl := t.slot k
  let c := sl.chan chan
  let w := c.cfg.toNat
  let spill := scKind w != 3 && decide (scDestDepth w ≤ c.out)
  let d := stamp p spill sl.epoch (s.ctx sl.ctx).gen.toNat sl.ctx tile chan (c.seq.toNat + 1)
  let s1 := s.updTile die tile (fun t =>
    let t1 := if scKind w = 2 then t.updQueue (4 + scPair w) (fun q => { q with reserved := q.reserved + 1 }) else t
    t1.updSlot k (fun sl => ({ sl with sent := sl.sent + 1 }).updChan chan (fun c => { c with
      seq := c.seq + 1
      credits := if scKind w = 3 then c.credits else c.credits - 1
      pending := if scKind w = 3 then c.pending - 1 else c.pending
      out := if scKind w = 3 then c.out else c.out + 1
      tx := c.tx ++ [d] })))
  let s2 := if spill then (((s1.count 0x8060 1 sl.ctx 1).ndcTiming sl.ctx).tally sl.ctx 544 1) else s1
  (s2, spill, d)

end Sys2Proof.Machine
end

