-- ==== Sys2Proof/Machine/TileExec.lean ====
section
/-! DEFINITION. Executing a tile-op once its operands are there: reading operands, writing results with
their poison, the weft accesses of GLOBAL operands, and the effect of each opcode of the arrays and the
vector engine (chapters The tile, Tile-op reference, Anchored accumulation). -/

namespace Sys2Proof.Machine

/-- The descriptor of a tile-op in flight. -/
def InFlight.d (o : InFlight) : Desc := o.desc.toNat

-- ---------------------------------------------------------------- results to memory

/-- A byte that a tile-op writes: local address, value, poison. -/
abbrev OutByte := Nat × Nat × Bool

/-- The bytes written, by address; of two to one address the later prevails (R180). -/
def outMap (out : List OutByte) : SMap (Nat × Bool) :=
  out.foldl (fun m e => SMap.set (256, false) m e.1 (e.2.1 % 256, e.2.2)) []

/-- The bytes of each line written: line number (address / 64) and its bytes in order. -/
def lineGroups : SMap (Nat × Bool) → List (Nat × List (Nat × Nat × Bool))
  | [] => []
  | (a, v) :: r =>
    match lineGroups r with
    | (l, es) :: gs => if l = a / 64 then (l, (a, v) :: es) :: gs else (a / 64, [(a, v)]) :: (l, es) :: gs
    | [] => [(a / 64, [(a, v)])]

/-- Write to memory with poison: a line written whole takes the data's poison, one written in part keeps or
gains it (R212). -/
def State.writeOut (s : State) (out : List OutByte) : State :=
  let m := outMap out
  let gs := lineGroups m
  { s with
    mem := m.foldl (fun mm e => memSet mm e.1 e.2.1) s.mem
    poison := gs.foldl (fun p g =>
      let bad := g.2.any (fun e => e.2.2)
      SMap.set false p g.1 (if g.2.length = 64 then bad else bad || SMap.get false p g.1)) s.poison }

/-- Rows of bytes at a base address and distance, as writes. -/
def rowsOut (base step : Nat) (rows : List PBytes) : List OutByte :=
  ((List.range rows.length).map (fun i =>
    let r := rows.getD i []
    (List.range r.length).map (fun j => let b := r.getD j (0, false); (base + i * step + j, b.1, b.2)))).flatten

-- ---------------------------------------------------------------- weft accesses of GLOBAL operands (R181, R235)

/-- Send an access. -/
def State.addAcc (s : State) (a : Access) : State :=
  { s with accs := s.accs ++ [{ s.packet a with id := s.nextAcc }], nextAcc := s.nextAcc + 1 }

def State.addAccs (s : State) (as : List Access) : State := as.foldl State.addAcc s

/-- Runs of consecutive lines inside one 4 KiB page: (first line, number of lines). -/
def lineRuns : List Nat → List (Nat × Nat)
  | [] => []
  | l :: ls =>
    match lineRuns ls with
    | (m, n) :: r => if m = l + 1 ∧ m / 64 = l / 64 then (l, n + 1) :: r else (l, 1) :: (m, n) :: r
    | [] => [(l, 1)]

/-- The lines of a list of ranges, ascending and each once. -/
def linesOfAll (rs : List (Nat × Nat)) : List Nat :=
  ((rs.foldl (fun m r => (linesOf r.1 r.2).foldl (fun m l => SMap.set false m l true) m) ([] : SMap Bool))).map (·.1)

/-- The line and mask of a partly written line. -/
def maskedLine (es : List (Nat × Nat × Bool)) : Line × Nat :=
  ({ data := (es.map (fun e => e.2.1 * 2 ^ (8 * (e.1 % 64)))).sum, poison := es.any (fun e => e.2.2) },
   (es.map (fun e => 2 ^ (e.1 % 64))).sum)

/-- Whole lines joined into WRITEs, the rest into WRITE_MASKEDs. -/
def writeAccs (a0 : Access) : List (Nat × List (Nat × Nat × Bool)) → List Access
  | [] => []
  | (l, es) :: gs =>
    let x := maskedLine es
    let rest := writeAccs a0 gs
    if es.length = 64 then
      match rest with
      | b :: r =>
        if b.kind = 1 ∧ b.addr = (l + 1) * 64 ∧ (l + 1) / 64 = l / 64 then
          { b with addr := l * 64, len := b.len + 1, data := x.1 :: b.data } :: r
        else { a0 with kind := 1, addr := l * 64, len := 1, data := [x.1] } :: rest
      | [] => [{ a0 with kind := 1, addr := l * 64, len := 1, data := [x.1] }]
    else { a0 with kind := 2, addr := l * 64, len := 1, mask := x.2, data := [x.1] } :: rest

-- ---------------------------------------------------------------- reading operands

/-- Bytes of memory with the poison of their lines. -/
def State.readPB (s : State) (a n : Nat) : PBytes :=
  (List.range n).map (fun i => (s.memByte (a + i), s.linePoison ((a + i) / 64)))

/-- The bytes of whole lines. -/
def linesPB (ls : List Line) : PBytes := (ls.map (fun l => (leBytes 64 l.data).map (fun b => (b, l.poison)))).flatten

/-- Bytes that GLOBAL reads returned, by their local address. -/
def InFlight.globalPB (o : InFlight) (a n : Nat) : PBytes :=
  (List.range n).map (fun i =>
    let l := SMap.get {} o.readLines ((a + i) / 64)
    (l.data / 2 ^ (8 * ((a + i) % 64)) % 256, l.poison))

/-- Base address of a memory operand. -/
def opdBase (die tile : Nat) (d : Desc) (loc : Nat) : Nat :=
  if locKind loc = .tmem then tileAddr die tile (locSel loc) else fld d.aux 0 46

/-- Row `i` of a memory operand. -/
def State.opdRow (s : State) (die tile : Nat) (o : InFlight) (m : MemOpd) (i : Nat) : PBytes :=
  let d := o.d
  let a := opdBase die tile d m.loc + i * m.step
  if locKind m.loc = .global then o.globalPB a m.rowBytes else s.readPB a m.rowBytes

def State.opdRows (s : State) (die tile : Nat) (o : InFlight) (m : MemOpd) : List PBytes :=
  (List.range m.rows).map (s.opdRow die tile o m)

/-- Local address of the first poisoned line that an operand in tile memory touches, or 0. -/
def State.poisonAt (s : State) (die tile : Nat) (o : InFlight) (m : MemOpd) : Nat :=
  let d := o.d
  let base := opdBase die tile d m.loc
  match ((List.range m.rows).map (fun i => linesOf (base + i * m.step) m.rowBytes)).flatten.find? s.linePoison with
  | some l => l * 64
  | none => 0

/-- Bytes of an operand buffer from a line. -/
def bufPB (m : SMap Nat) (p : SMap Bool) (line n : Nat) : PBytes :=
  (List.range n).map (fun i => (SMap.get 0 m (line * 64 + i), SMap.get false p (line + i / 64)))

/-- Fill a buffer from line BUF_LINE: kept whole, or as the ring to line 767 (R72, R154). A 64-byte group written in part
keeps its poison (R212). -/
def fillBuf (m : SMap Nat) (p : SMap Bool) (start : Nat) (keep : Bool) (bs : PBytes) : SMap Nat × SMap Bool :=
  let slot (n : Nat) : Nat := if keep then start + n else start + n % (768 - start)
  (List.range ((bs.length + 63) / 64)).foldl (fun acc n =>
    let ls := (bs.drop (64 * n)).take 64
    ((List.range ls.length).foldl (fun mm j => SMap.set 0 mm (slot n * 64 + j) (ls.getD j (0, false)).1) acc.1,
     SMap.set false acc.2 (slot n) (pois ls || (decide (ls.length < 64) && SMap.get false acc.2 (slot n))))) (m, p)

-- ---------------------------------------------------------------- what an opcode produces

/-- The outcome of executing a tile-op: what it writes to D in memory, its counts, status and poison. -/
structure OpOut where
  out : List OutByte := []
  /-- the same bytes row by row, where the rows stand apart (SCATTER) -/
  rows : List (List OutByte) := []
  tot : Tot := {}
  status : Status := .ok
  detail : Nat := 0
  poisonOut : Bool := false
  poisonAddr : Nat := 0
  /-- ranges of D marked poisoned with their bytes left (R180) -/
  mark : List (Nat × Nat) := []
  deriving DecidableEq, Repr

/-- A tile-op that consumed poison as a number (R161): the operand fields that carried it, the one latest in
the list of R164 named. -/
def OpOut.consumed (r : OpOut) (fields : List Nat) (addr : Nat) : OpOut :=
  match worst fields with
  | some f => { r with status := .poison, detail := f, poisonAddr := addr, poisonOut := true }
  | none => r

/-- Bytes with one poison bit. -/
def withPoison (p : Bool) (bs : List Nat) : PBytes := bs.map (fun b => (b, p))

/-- The packed bytes of an MMA operand: A (`isA`) or B. -/
def State.mmaBytes (s : State) (die tile : Nat) (o : InFlight) (isA : Bool) : PBytes :=
  let d := o.d
  let l := if isA then d.locA else d.locB
  let n := if isA then d.bytesA else d.bytesB
  let a := (s.tile die tile).array (locArray d.locD)
  match locKind l with
  | .stream => (linesPB (if isA then o.linesA else o.linesB)).take n
  | .abuf => bufPB a.abuf a.apoison (locSel l) n
  | .bbuf => bufPB a.bbuf a.bpoison (locSel l) n
  | _ =>
    match (if isA then d.opdA else d.opdB) with
    | some m => (s.opdRows die tile o m).flatten
    | none => []

/-- Cut bytes into `m` rows of `w`. -/
def cutRows (m w : Nat) (bs : PBytes) : List (List Nat) :=
  (List.range m).map (fun i => vals ((bs.drop (i * w)).take w))

/-- MMA and MMA_T (R166 to R168, R115, R118, R127, R134, R161). -/
def State.effMma (s : State) (die tile : Nat) (o : InFlight) (lt : Latched) : State × OpOut :=
  let d := o.d
  let t := s.tile die tile
  let an := locArray d.locD
  let a := t.array an
  let set := a.set (locSet d.locD)
  let zi := d.func % 2 = 1
  let mode := d.runMode lt.strict
  let g : Regime := match mode with
    | 0 => { flush := lt.flush }
    | 1 => lt.anchored
    | 3 => { strict := true }
    | _ => {}
  let ab := s.mmaBytes die tile o true
  let bb := s.mmaBytes die tile o false
  let ar := (cutRows d.dim1 (d.fA.rowBytes d.dim0) ab).map (rowNums d.fA g d.dim0)
  let (bn, bk) := if d.opc = .mma then (d.dim0, d.dim2) else (d.dim2, d.dim0)
  let br := (cutRows bn (d.fB.rowBytes bk) bb).map (rowNums d.fB g bk)
  let brN := br.map (fun r => r.map (·.1))
  let cols := if d.opc = .mma then (List.range d.dim2).map (fun j => brN.map (fun r => r.getD j .zero)) else brN
  let m : Mma := {
    rows := ar.map (fun r => r.map (·.1)), cols := cols, k := d.dim0, mode := mode, per := perCycle mode d.fA
    regime := g, narrow := d.fA == .bs4 || d.fA.isFp8 }
  let r := m.run set zi
  let pa := (pois ab)
  let pb := (pois bb)
  let pd := set.poison && !zi
  let fillA := locKind d.locA == .tmem || locKind d.locA == .stream
  let fillB := locKind d.locB == .tmem || locKind d.locB == .stream
  let fa := if fillA then fillBuf a.abuf a.apoison (locBufLine d.locA) (locKeep d.locA) ab else (a.abuf, a.apoison)
  let fb := if fillB then fillBuf a.bbuf a.bpoison (locBufLine d.locB) (locKeep d.locB) bb else (a.bbuf, a.bpoison)
  let a' := ({ a with abuf := fa.1, apoison := fa.2, bbuf := fb.1, bpoison := fb.2 } : ArrayU).updSet (locSet d.locD)
    (fun _ => { r.1 with poison := pa || pb || pd })
  let addr := match (if pb then d.opdB else d.opdA) with
    | some m => if locKind m.loc = .tmem then s.poisonAt die tile o m else 0
    | none => 0
  (s.updTile die tile (fun t => t.updArray an (fun _ => a')),
   ({ tot := Tot.ofEvs ((ar.flatten.map (·.2)) ++ (br.flatten.map (·.2)) ++ r.2) } : OpOut).consumed
     (failIf pa 0x0B ++ failIf pb 0x0C ++ failIf pd 0x0D) addr)

/-- An FP32 element as ACC_LOAD writes it: a NaN becomes the canonical one, a signalling one sets IEEE_INVALID in a strict
context (R112). -/
def loadedElem (g : Regime) (bits : Nat) (x : Num) : Nat × Ev :=
  match x with
  | .nan s => (Fmt.nanCode .fp32, { sticky := if g.strict && s then stInvalid else 0 })
  | _ => (bits, {})

/-- ACC_LOAD (R145, R169). -/
def State.effAccLoad (s : State) (die tile : Nat) (o : InFlight) (lt : Latched) : State × OpOut :=
  let d := o.d
  let t := s.tile die tile
  let an := locArray d.locD
  let a := t.array an
  let k := locSet d.locD
  let bs : PBytes := match d.opdA with
    | some m => s.opdRow die tile o m 0
    | none => []
  let p := (pois bs)
  let addr := match d.opdA with
    | some m => s.poisonAt die tile o m
    | none => 0
  let put (a : ArrayU) : State := s.updTile die tile (fun t => t.updArray an (fun _ => a))
  if d.fA = .anc128 then
    let h := leVal ((vals bs).take 64)
    let anchor := ancHeaderAnchor h
    if !ancHeaderOk h then (s, { status := .format, detail := 0x0B })
    else if !anchorOk anchor then (s, { status := .anchor, detail := 0x0B })
    else
      let xs := ancElems (vals bs)
      if d.func = 1 then
        let set := a.set k
        if anchor ≠ set.anchor then (s, { status := .anchor, detail := 0x0B })
        else
          let r := set.ancAdded xs
          (put (a.updSet k (fun _ => { r.1 with poison := p || set.poison })),
           ({ tot := Tot.ofEvs r.2 } : OpOut).consumed (failIf p 0x0B ++ failIf set.poison 0x0D) addr)
      else (put (a.updSet k (fun _ => ancLoaded anchor xs p)), { poisonOut := p })
  else
    let g := lt.regime
    let a0 : ArrayU := if a.anchored then { a with anchored := false, sets := [] } else a
    let raw := rowBits d.fA 1024 (vals bs)
    if d.fA = .fp32 then
      let rs := raw.map (fun x => (x, Fmt.read .fp32 g x))
      let xs := rs.map (fun r => if r.2.2.flush then (Fmt.signBit .fp32 (r.1.testBit 31), r.2.2) else loadedElem g r.1 r.2.1)
      (put (a0.updSet k (fun _ => flatLoaded g .fp32 (xs.map (·.1)) p)), { tot := Tot.ofEvs (xs.map (·.2)), poisonOut := p })
    else (put (a0.updSet k (fun _ => flatLoaded g .int32 raw p)), { poisonOut := p })

/-- ACC_STORE (R144, R170). -/
def State.effAccStore (s : State) (die tile : Nat) (o : InFlight) (lt : Latched) : OpOut :=
  let d := o.d
  let a := (s.tile die tile).array (locArray d.locA)
  let set := a.set (locSet d.locA)
  let base := opdBase die tile d d.locD
  if a.anchored then
    { out := rowsOut base 0 [withPoison set.poison (ancBlock set.anchor set.ancElems)], poisonOut := set.poison }
  else
    let rows := set.storeRows d.fD lt.regime d.dim1 d.dim2
    let step := match d.opdD with
      | some m => m.step
      | none => 0
    { out := rowsOut base step (rows.map (fun r => withPoison set.poison (bitsRow d.fD (r.map (·.1)))))
      tot := Tot.ofEvs (rows.flatten.map (·.2)), poisonOut := set.poison }

/-- ANC_INIT (R133, R171). -/
def State.effAncInit (s : State) (die tile : Nat) (o : InFlight) : State :=
  let d := o.d
  s.updTile die tile (fun t => t.updArray (locArray d.locD) (fun a =>
    if a.anchored then
      let a1 := if d.func % 2 = 1 then a.updSet 0 (fun _ => AccSet.cleared d.anchor) else a
      if 2 ≤ d.func then a1.updSet 1 (fun _ => AccSet.cleared d.anchor) else a1
    else
      (({ a with anchored := true, sets := [] } : ArrayU).updSet 0 (fun _ => AccSet.cleared d.anchor)).updSet 1
        (fun _ => AccSet.cleared d.anchor)))

/-- ANC_SCAN (R141, R172). -/
def State.effAncScan (s : State) (die tile : Nat) (o : InFlight) (lt : Latched) : OpOut :=
  let d := o.d
  let base := opdBase die tile d d.locD
  let put (es : List Nat) (p : Bool) : List OutByte := rowsOut base 0 [withPoison p (bitsRow .int32 es)]
  if locKind d.locA = .acc then
    let set := ((s.tile die tile).array (locArray d.locA)).set (locSet d.locA)
    ({ out := put (set.scan (d.func == 1)) set.poison } : OpOut).consumed (failIf set.poison 0x0B) 0
  else match d.opdA with
    | none => {}
    | some m =>
      let rows := s.opdRows die tile o m
      let vs := rows.map (fun r => rowNums d.fA lt.anchored d.dim0 (vals r))
      let p := (pois rows.flatten)
      ({ out := put (scanRows (vs.map (fun r => r.map (·.1))) (d.func == 1)) p
         tot := Tot.ofEvs (vs.flatten.map (·.2)) } : OpOut).consumed (failIf p 0x0B) (s.poisonAt die tile o m)

/-- ANC_FOLD (R146, R173). -/
def State.effAncFold (s : State) (die tile : Nat) (o : InFlight) (lt : Latched) : OpOut :=
  let d := o.d
  let set := ((s.tile die tile).array (locArray d.locA)).set (locSet d.locA)
  let rows := set.foldRows d.fD lt.anchored
  let step := match d.opdD with
    | some m => m.step
    | none => 0
  ({ out := rowsOut (opdBase die tile d d.locD) step (rows.map (fun r => withPoison set.poison (bitsRow d.fD (r.map (·.1)))))
     tot := Tot.ofEvs (rows.flatten.map (·.2)) } : OpOut).consumed (failIf set.poison 0x0B) 0

-- ---------------------------------------------------------------- vector engine

/-- Rows of element codes of a vector operand, with whether it carries poison and where. -/
structure VecOpd where
  rows : List (List Nat) := []
  poison : Bool := false
  addr : Nat := 0
  deriving DecidableEq, Repr

/-- Read a vector operand: a set, the immediate of AUX, or rows of memory (R153, R174). -/
def State.vecOpd (s : State) (die tile : Nat) (o : InFlight) (loc : Nat) (f : Fmt) (m? : Option MemOpd) : VecOpd :=
  let d := o.d
  match locKind loc with
  | .acc =>
    let set := ((s.tile die tile).array (locArray loc)).set (locSet loc)
    { rows := (List.range d.dim1).map (fun i => (List.range d.dim0).map (fun j => SMap.get 0 set.elems (64 * i + j)))
      poison := set.poison }
  | .imm => { rows := [[d.aux % 2 ^ 32 % 2 ^ (8 * f.size)]] }
  | _ =>
    match m? with
    | none => {}
    | some m =>
      let rows := s.opdRows die tile o m
      { rows := rows.map (fun r => rowBits f d.dim0 (vals r)), poison := (pois rows.flatten)
        addr := s.poisonAt die tile o m }

/-- Element (i, j); an immediate is one scalar for every element. -/
def elemAt (imm : Bool) (xs : List (List α)) (d : α) (i j : Nat) : α :=
  if imm then (xs.getD 0 []).getD 0 d else (xs.getD i []).getD j d

/-- Write result rows to D: memory, or a set whose checksum entries are recomputed (R174). -/
def State.vecOut (s : State) (die tile : Nat) (o : InFlight) (g : Regime) (rows : List (List Nat)) (poison : Bool) :
    State × List OutByte :=
  let d := o.d
  if locKind d.locD = .acc then
    let ty : AccTy := if d.fD = .int32 then .int32 else .fp32
    let put (set : AccSet) : AccSet :=
      let es := (List.range 1024).map (fun k =>
        if k / 64 < d.dim1 ∧ k % 64 < d.dim0 then (rows.getD (k / 64) []).getD (k % 64) 0 else SMap.get 0 set.elems k)
      let m := SMap.ofList 0 0 es
      let full := decide (d.dim1 = 16) && decide (d.dim0 = 64)
      { ty := ty, elems := m, sums := sumsOf g ty false m, poison := poison || (set.poison && !full) }
    (s.updTile die tile (fun t => t.updArray (locArray d.locD) (fun a => a.updSet (locSet d.locD) put)), [])
  else
    let step := match d.opdD with
      | some m => m.step
      | none => 0
    (s, rowsOut (opdBase die tile d d.locD) step (rows.map (fun r => withPoison poison (bitsRow d.fD r))))

/-- VEC_EW (R175). -/
def State.effVecEw (s : State) (die tile : Nat) (o : InFlight) (lt : Latched) : State × OpOut :=
  let d := o.d
  let f := d.func
  let unary := ewUnary f
  let imm := locKind d.locB == .imm
  let g0 := lt.regime
  let a := s.vecOpd die tile o d.locA d.fA d.opdA
  let b : VecOpd := if unary then {} else s.vecOpd die tile o d.locB d.fB d.opdB
  let c : VecOpd := if f = 3 then s.vecOpd die tile o d.locD d.fD d.opdD else {}
  let g := g0.ifFloat (d.fA.isFloat || (!unary && d.fB.isFloat) || d.fD.isFloat)
  let an := a.rows.map (fun r => r.map (d.fA.read g0))
  let bn := b.rows.map (fun r => r.map (d.fB.read g0))
  let cn := c.rows.map (fun r => r.map (d.fD.read g0))
  let z : Num × Ev := (.zero, {})
  let rs := (List.range d.dim1).map (fun i => (List.range d.dim0).map (fun j =>
    ewElem f d.fA d.fB d.fD g (elemAt false an z i j).1 (elemAt imm bn z i j).1 (elemAt false cn z i j).1
      (elemAt false a.rows 0 i j) (elemAt imm b.rows 0 i j)))
  let p := a.poison || b.poison || c.poison
  let r := s.vecOut die tile o g0 (rs.map (fun r => r.map (·.1))) p
  (r.1, ({ out := r.2, tot := Tot.ofEvs ((an.flatten ++ bn.flatten ++ cn.flatten ++ rs.flatten.map (fun e => (z.1, e.2))).map (·.2)) } : OpOut).consumed
    (failIf a.poison 0x0B ++ failIf b.poison 0x0C ++ failIf c.poison 0x0D)
    (if c.poison then c.addr else if b.poison then b.addr else a.addr))

/-- VEC_ACT (R176). -/
def State.effVecAct (s : State) (die tile : Nat) (o : InFlight) (lt : Latched) : State × OpOut :=
  let d := o.d
  let g := lt.regime
  let a := s.vecOpd die tile o d.locA d.fA d.opdA
  let an := a.rows.map (fun r => r.map (fun x => (x, d.fA.read g x)))
  let rs := an.map (fun r => r.map (fun x => actElem d.func d.fA d.fD g x.2.1 x.1))
  let r := s.vecOut die tile o g (rs.map (fun r => r.map (·.1))) a.poison
  (r.1, ({ out := r.2, tot := Tot.ofEvs (an.flatten.map (·.2.2) ++ rs.flatten.map (·.2)) } : OpOut).consumed
    (failIf a.poison 0x0B) a.addr)

/-- VEC_RED (R177). -/
def State.effVecRed (s : State) (die tile : Nat) (o : InFlight) (lt : Latched) : State × OpOut :=
  let d := o.d
  let g := lt.regime.ifFloat d.fA.isFloat
  let a := s.vecOpd die tile o d.locA d.fA d.opdA
  let an := a.rows.map (fun r => r.map (d.fA.read lt.regime))
  let rs := an.map (fun r => [redElem d.func d.fA d.fD g (r.map (·.1))])
  let r := s.vecOut die tile o g (rs.map (fun r => r.map (·.1))) a.poison
  (r.1, ({ out := r.2, tot := Tot.ofEvs (an.flatten.map (·.2) ++ rs.flatten.map (·.2)) } : OpOut).consumed
    (failIf a.poison 0x0B) a.addr)

/-- CAST (R178). -/
def State.effCast (s : State) (die tile : Nat) (o : InFlight) (lt : Latched) : OpOut :=
  let d := o.d
  let g := lt.regime.ifFloat (!d.fA.isInt || !d.fD.isInt)
  let step := match d.opdD with
    | some m => m.step
    | none => 0
  let src : List (List (Num × Ev)) × Bool × Nat :=
    if locKind d.locA = .acc then
      let a := s.vecOpd die tile o d.locA d.fA d.opdA
      (a.rows.map (fun r => r.map (d.fA.read lt.regime)), a.poison, 0)
    else match d.opdA with
      | none => ([], false, 0)
      | some m =>
        let rows := s.opdRows die tile o m
        (rows.map (fun r => rowNums d.fA lt.regime d.dim0 (vals r)), (pois rows.flatten), s.poisonAt die tile o m)
  let rs := src.1.map (fun r => castRow d.fA d.fD g (r.map (·.1)))
  ({ out := rowsOut (opdBase die tile d d.locD) step (rs.map (fun r => withPoison src.2.1 r.1))
     tot := (Tot.ofEvs (src.1.flatten.map (·.2))).add (Tot.sum (rs.map (·.2))) } : OpOut).consumed
    (failIf src.2.1 0x0B) src.2.2

/-- XPOSE (R179): bits and their poison move. -/
def State.effXpose (s : State) (die tile : Nat) (o : InFlight) : OpOut :=
  let d := o.d
  match d.opdA, d.opdD with
  | some m, some q =>
    let rows := s.opdRows die tile o m
    let out := xposeRows rows d.dim0 d.fD.size
    { out := rowsOut (opdBase die tile d d.locD) q.step out, poisonOut := (pois rows.flatten) }
  | _, _ => {}

/-- The index vector of GATHER or SCATTER: its indices, poison and whether one is out of range (R180). -/
def State.indexVec (s : State) (die tile : Nat) (o : InFlight) : List Nat × Bool × Bool :=
  let d := o.d
  match d.opdA with
  | none => ([], false, false)
  | some m =>
    let bs := s.opdRow die tile o m 0
    let is := indices d.dim1 (vals bs)
    (is.map Int.toNat, (pois bs), is.any (fun i => decide (i < 0) || decide ((d.dim2 : Int) ≤ i)))

/-- GATHER (R180). -/
def State.effGather (s : State) (die tile : Nat) (o : InFlight) : OpOut :=
  let d := o.d
  match d.opdA, d.opdB, d.opdD with
  | some ia, some tb, some q =>
    let iv := s.indexVec die tile o
    let base := opdBase die tile d d.locD
    if iv.2.1 then
      ({ mark := (List.range q.rows).map (fun i => (base + i * q.step, q.rowBytes)) } : OpOut).consumed [0x0B]
        (s.poisonAt die tile o ia)
    else if iv.2.2 then { status := .bounds, detail := 0x0B }
    else
      let rows := iv.1.map (s.opdRow die tile o tb)
      { out := rowsOut base q.step rows, poisonOut := (pois rows.flatten) }
  | _, _, _ => {}

/-- SCATTER (R180). -/
def State.effScatter (s : State) (die tile : Nat) (o : InFlight) : OpOut :=
  let d := o.d
  match d.opdA, d.opdB, d.opdD with
  | some ia, some src, some q =>
    let iv := s.indexVec die tile o
    let base := opdBase die tile d d.locD
    if iv.2.1 then { ({} : OpOut).consumed [0x0B] (s.poisonAt die tile o ia) with poisonOut := false }
    else if iv.2.2 then { status := .bounds, detail := 0x0B }
    else
      let rows := s.opdRows die tile o src
      let outs := (List.range iv.1.length).map (fun r => rowsOut (base + iv.1.getD r 0 * q.step) 0 [rows.getD r []])
      { out := outs.flatten, rows := outs, poisonOut := (pois rows.flatten) }
  | _, _, _ => {}

/-- SELECT in CHOOSE_M form (R184): DIM0 bytes move from A or B. -/
def State.effChooseM (s : State) (die tile : Nat) (o : InFlight) : OpOut :=
  let d := o.d
  let move (m? : Option MemOpd) : OpOut := match m? with
    | some m =>
      let bs := s.opdRow die tile o m 0
      { out := rowsOut (opdBase die tile d d.locD) 0 [bs], poisonOut := (pois bs) }
    | none => {}
  match ((s.tile die tile).slot o.slot).preds.getD (fld d.aux 0 3) .true_ with
  | .true_ => move d.opdA
  | .false_ => move d.opdB
  | .void => {}

-- ---------------------------------------------------------------- digests (R477)

/-- CRC-64 of ECMA-182 over bytes. -/
def crc64Step (c b : Nat) : Nat :=
  (List.range 8).foldl (fun c _ => if c.testBit 63 then (c * 2 % 2 ^ 64) ^^^ 0x42F0E1EBA9EA3693 else c * 2 % 2 ^ 64)
    (c ^^^ (b * 2 ^ 56))
def crc64 (bs : List Nat) : Nat := bs.foldl crc64Step 0

/-- The output bytes of a tile-op: those it wrote to memory, then the codes of a set it wrote. -/
def State.outBytes (s : State) (die tile : Nat) (o : InFlight) (out : List OutByte) : List Nat :=
  let d := o.d
  (outMap out).map (fun e => e.2.1)
  ++ (if locKind d.locD = .acc then
        let a := (s.tile die tile).array (locArray d.locD)
        let set := a.set (locSet d.locD)
        ((List.range 1024).map (fun k => leBytes (if a.anchored then 16 else 4) (SMap.get 0 set.elems k))).flatten
      else [])
  ++ (match o.sentTo with
      | some q => leBytes 32 q.2.word.toNat
      | none => [])

-- ---------------------------------------------------------------- applying an operation

/-- Execute a tile-op of the arrays, the vector engine or SELECT in CHOOSE_M form whose operands are there. -/
def State.effect (s : State) (die tile : Nat) (o : InFlight) (lt : Latched) : State × OpOut :=
  match o.d.opc with
  | .mma | .mmaT => s.effMma die tile o lt
  | .accLoad => s.effAccLoad die tile o lt
  | .accStore => (s, s.effAccStore die tile o lt)
  | .ancInit => (s.effAncInit die tile o, {})
  | .ancScan => (s, s.effAncScan die tile o lt)
  | .ancFold => (s, s.effAncFold die tile o lt)
  | .vecEw => s.effVecEw die tile o lt
  | .vecAct => s.effVecAct die tile o lt
  | .vecRed => s.effVecRed die tile o lt
  | .cast => (s, s.effCast die tile o lt)
  | .xpose => (s, s.effXpose die tile o)
  | .gather => (s, s.effGather die tile o)
  | .scatter => (s, s.effScatter die tile o)
  | .select => (s, s.effChooseM die tile o)
  | _ => (s, {})

end Sys2Proof.Machine
end

