-- ==== Sys2Proof/Machine/TileIssue.lean ====
section
/-! DEFINITION. Issuing the next descriptor of a tile's active card (R76 to R79, R151 to R165, R182 to R188,
R304, R466, R470, R477): hazards, the checks, predication, the communication and control opcodes, and the
start of the operand transfers. -/

namespace Sys2Proof.Machine

-- ---------------------------------------------------------------- tile-ops in flight

/-- The tile-op in flight with a number, the youngest one first. -/
def Tile.op? (t : Tile) (id : Nat) : Option InFlight := t.ops.reverse.find? (fun o => o.id == id)
def Tile.updOp (t : Tile) (id : Nat) (f : InFlight → InFlight) : Tile :=
  { t with ops := t.ops.map (fun o => if o.id = id then f o else o) }
def State.updOp (s : State) (die tile id : Nat) (f : InFlight → InFlight) : State :=
  s.updTile die tile (fun t => t.updOp id f)

/-- What a context's running graph latched at its doorbell (R107, R465, R483). -/
def State.latchedOf (s : State) (c : Nat) : Latched :=
  match (s.ctx c).graph with
  | some g => g.latched
  | none => (s.ctx c).latched

/-- Effective level of a tile-op that issues now (R466). -/
def State.effLevel (s : State) (c die tile : Nat) : Nat :=
  let l := (s.latchedOf c).level
  max l (if s.raised die || ((s.tile die tile).deferredL2 && s.deferRaise) then 2 else 0)

/-- A comparison not yet answered keeps a tile-op's outputs and its rollback copy (R79, R470, R471). -/
def InFlight.unchecked (o : InFlight) : Bool :=
  o.cmp == .pending || (o.cmp == .failed && o.checkResult == 0) || (o.replay && !o.replayDone)

/-- Whether its outputs leave before its comparison: L1, or CHK_FORCE without CHK_HOLD (R79, R472). -/
def InFlight.released (o : InFlight) : Bool := !o.hold && o.level != 4 && !o.replay

/-- Whether its outputs, and so its retirement, are held until what is outstanding is known (R79). -/
def InFlight.held (o : InFlight) : Bool := o.unchecked && !o.released

/-- A tile-op whose execution a supply-dip stretch overlaps is marked DIP: its comparisons are made and its outputs
held (R89). -/
def InFlight.markDip (o : InFlight) : InFlight :=
  if o.phase ≠ .executing ∨ o.voided ∨ o.rejected ∨ o.dip then o
  else if o.d.opc.accumulating then
    { o with dip := true, hold := true, forced := o.forced || o.level == 0, cmp := if o.cmp = .none then .pending else o.cmp }
  else { o with dip := true }

/-- Line of the completion record (R162). -/
def Desc.recordLoc (d : Desc) : HLoc := ⟨3, 0, d.crOffset * 32 / 64, d.crOffset * 32 / 64⟩

-- ---------------------------------------------------------------- the gather buffer (R197 to R200)

/-- A narrow access to a tile-memory line: the line moves to the front, the least recently used of 32 is
replaced, and a write marks it dirty. -/
def Tile.gbTouch (t : Tile) (line : Nat) (write : Bool) : Tile :=
  let old := (t.gb.find? (fun g => g.line == line)).map (·.dirty)
  { t with gb := ({ line := line, dirty := write || old.getD false } :: t.gb.filter (fun g => g.line != line)).take 32 }

/-- Rows of a memory operand that a tile-op moves: of the table of GATHER or SCATTER those its indices name, none where an
index is out of range or poisoned (R180); of CHOOSE_M the chosen operand's (R184). -/
def State.usedRows (s : State) (die tile : Nat) (o : InFlight) (m : MemOpd) : List Nat :=
  let d := o.d
  let all := List.range m.rows
  match d.opc with
  | .gather | .scatter =>
    let iv := s.indexVec die tile o
    let table := if d.opc = .gather then 0x0C else 0x0D
    if m.field = 0x0B then all
    else if iv.2.1 || iv.2.2 then []
    else if m.field = table then iv.1
    else all
  | .select =>
    if d.func ≠ 3 then all
    else match ((s.tile die tile).slot o.slot).preds.getD (fld d.aux 0 3) .true_ with
      | .true_ => if m.field = 0x0C then [] else all
      | .false_ => if m.field = 0x0B then [] else all
      | .void => []
  | _ => all

/-- An access of an engine to a tile-memory line, whole or narrow: (line, whole, write). -/
abbrev LineUse := Nat × Bool × Bool

/-- The tile-memory accesses of a tile-op's operands; a destination that is also read takes two. -/
def State.lineUses (s : State) (die tile : Nat) (o : InFlight) : List LineUse :=
  ((o.d.memOpds.filter (fun m => locKind m.loc == .tmem)).map (fun m =>
    ((s.usedRows die tile o m).map (fun i =>
      let off := locSel m.loc + i * m.step
      let whole (l : Nat) : Bool := decide (off ≤ l * 64) && decide (l * 64 + 64 ≤ off + m.rowBytes)
      (linesOf off m.rowBytes).map (fun l => (if m.reads then [(l, whole l, false)] else []) ++ (if m.writes then [(l, whole l, true)] else [])))).flatten.flatten)).flatten

/-- Whether an engine's access to a line crosses the groups of SPLIT mode (R193): a fill engine's to banks 16 to 23, the
vector engine's or the controller's to banks 0 to 15. -/
def Tile.crossGroup (t : Tile) (fill : Bool) (line : Nat) : Bool :=
  t.split && (if fill then decide (0x4000 ≤ line) else decide (line < 0x4000))

/-- The dirty line that the gather buffer replaces to take another, the least recently used of 32. -/
def Tile.gbVictim (t : Tile) (line : Nat) : Option Nat :=
  ((t.gb.filter (fun g => g.line != line)).drop 31).head?.bind (fun g => if g.dirty then some g.line else none)

/-- One access: a narrow one of the vector engine or the controller goes through the gather buffer, where a hit takes no
port cycle; any other passes the port. A line that the port moves across the groups counts, one written back to make room too. -/
def Tile.lineUse (t : Tile) (fill : Bool) (u : LineUse) : Tile :=
  let narrow := !fill && !u.2.1
  let port := !(narrow && t.gb.any (fun g => g.line == u.1))
  let back : Bool := match (if narrow then t.gbVictim u.1 else none) with
    | some l => t.crossGroup false l
    | none => false
  let t1 := if narrow then t.gbTouch u.1 u.2.2 else t.gbFull u.1 (u.2.2 && u.2.1)
  t1.bump 0x0D (b2n (port && t.crossGroup fill u.1) + b2n back)

def Tile.lineUsesBy (t : Tile) (e : Engine) (us : List LineUse) : Tile :=
  us.foldl (fun t u => t.lineUse (e == .array0 || e == .array1) u) t

-- ---------------------------------------------------------------- finishing an operation

/-- At L4 array 1 mirrors array 0: what a tile-op of array 0 leaves there is in both (R479). -/
def Tile.mirror (t : Tile) (o : InFlight) : Tile :=
  if o.level = 4 ∧ o.engine = .array0 ∨ o.level = 4 ∧ locKind o.d.locD = .acc then t.updArray 1 (fun _ => t.array 0) else t

/-- Write what a tile-op produced to D, or send it over the weft mesh, held while a replay or twin must still
answer (R79), and note its outcome. Rows that stand apart are written one by one (R212). -/
def State.finishOp (s : State) (die tile : Nat) (o : InFlight) (uses : List LineUse) (r : OpOut) : State :=
  let d := o.d
  let x := s.ctx ((s.tile die tile).slot o.slot).ctx
  let c := ((s.tile die tile).slot o.slot).ctx
  let global := locKind d.locD == .global
  let parts := if r.rows.isEmpty then [r.out] else r.rows
  let accs := if global then
      parts.flatMap (fun out => writeAccs {
          device := fld d.aux 46 18, ctx := c, gen := x.gen.toNat, die := die, tile := tile
          req := .op die tile o.id 0, held := o.replay || (o.level == 4 && o.cmp == .pending) } (lineGroups (outMap out)))
    else []
  let s1 := if global then s.addAccs accs else parts.foldl State.writeOut s
  let s2 := r.mark.foldl (fun s m => s.memPoison m.1 m.2) s1
  let dg := if o.replay then some (crc64 (s2.outBytes die tile o r.out)) else none
  s2.updTile die tile (fun t =>
    ((t.mirror o).lineUsesBy d.engine uses).updOp o.id (fun o => { o with
      applied := true
      sat := r.tot.sat
      flush := r.tot.flush
      ieee := r.tot.sticky
      status := if r.status = .ok ∨ o.accFailed then o.status else r.status
      detail := if r.status = .ok ∨ o.accFailed then o.detail else r.detail
      poisonOut := o.poisonOut || r.poisonOut
      poisonAddr := r.poisonAddr
      outDigest := dg
      awaiting := o.awaiting + accs.length }))

/-- Execute a tile-op in flight whose operands are all there. -/
def State.applyOp (s : State) (die tile id : Nat) : State :=
  match (s.tile die tile).op? id with
  | none => s
  | some o =>
    if o.applied then s
    else
      let c := ((s.tile die tile).slot o.slot).ctx
      let uses := s.lineUses die tile o
      let r := s.effect die tile o (s.latchedOf c)
      r.1.finishOp die tile o uses r.2

/-- Stream lines that an operand takes (R284). -/
def streamLines (bytes : Nat) : Nat := (bytes + 63) / 64

/-- Take what a stream port holds for a tile-op, up to what it still needs; each line taken returns a credit
(R284). A voided tile-op discards them (R159). -/
def State.feedPort (s : State) (die tile id : Nat) (isA : Bool) : State :=
  match (s.tile die tile).op? id with
  | none => s
  | some o =>
    let need := if isA then o.streamNeed else o.streamNeedB
    let p := if isA then o.streamPort else o.streamPortB
    let ls := ((s.tile die tile).stream p).lines
    let n := min need ls.length
    if n = 0 then s else
    (s.returnStreamCredit die tile p n).updTile die tile (fun t =>
      (t.updStream p (fun x => { x with lines := x.lines.drop n })).updOp id (fun o =>
        let got := if o.voided then [] else ls.take n
        if isA then { o with streamNeed := o.streamNeed - n, linesA := o.linesA ++ got }
        else { o with streamNeedB := o.streamNeedB - n, linesB := o.linesB ++ got }))

/-- Give a tile-op its stream lines and, when nothing is missing, execute it; nothing of a context runs on a site under test
(R84). -/
def State.feedOp (s : State) (die tile id : Nat) : State :=
  if (s.tile die tile).underTest then s else
  let s1 := (s.feedPort die tile id true).feedPort die tile id false
  match (s1.tile die tile).op? id with
  | none => s1
  | some o => if o.streamNeed = 0 ∧ o.streamNeedB = 0 ∧ o.awaiting = 0 ∧ !o.applied then s1.applyOp die tile id else s1

-- ---------------------------------------------------------------- what issuing a descriptor finds

/-- Whether a context being reset is already behind its selvedge at one tile, ahead of the other units (R237, R373). -/
def Ctx.fencedAt (x : Ctx) (die tile : Nat) : Bool :=
  match x.reset? with
  | some r => r.records.any (fun q => q.1 == die && q.2.1 == tile)
  | none => false

/-- The active card of a tile that may issue now, with its slot (R82, R88, R158, R165, R185, R187, R492). -/
def State.issuer (s : State) (die tile : Nat) : Option Nat :=
  let t := s.tile die tile
  match t.active, s.siteOf die tile with
  | some k, some site =>
    let sl := t.slot k
    let x := s.site die site
    if sl.st == .current && !sl.issuedAll && (s.ctx sl.ctx).st.running && !(s.ctx sl.ctx).fencedAt die tile && s.pwr.st == .ready && !t.stopped
      && !t.underTest && !(s.die die).held && !sl.rehHang && x.fstep == x.fapplied && x.idle == 0
      && decide (t.ops.length < 16)
      && !t.ops.any (fun o => o.rejected || (!o.voided && (o.d.opc == .card || o.d.opc == .fenceLocal)))
    then some k else none
  | _, _ => none

/-- Descriptors of a card's whole run: PROG_LEN for each of PROG_REPEAT + 1 passes (R304). -/
def hdrProgLen (h : Nat) : Nat := fld h 63 9
def hdrRepeat (h : Nat) : Nat := fld h 96 16

/-- The next descriptor of a card. `Slot.pc` counts the descriptors issued since the card became current. -/
def Slot.next (sl : Slot) : Desc := (sl.prog.getD (sl.pc % sl.prog.length) 0).toNat

/-- Whether the predicate of R159 voids the tile-op. -/
def Slot.voids (sl : Slot) (d : Desc) : Bool :=
  if d.predSel = 0 then false
  else match sl.preds.getD (d.predSel - 1) .true_ with
    | .void => true
    | .true_ => d.predNeg
    | .false_ => !d.predNeg

/-- FUNC forms of an opcode that are separate commands. -/
def formsOf (opcode : Nat) : List Nat :=
  match opcode with
  | 0x01 | 0x03 | 0x12 | 0x19 => [0, 1]
  | 0x04 | 0x22 | 0x30 => [0, 1, 2, 3]
  | 0x20 => List.range 14
  | 0x21 => List.range 15
  | _ => []

/-- Whether a command (opcode, form) issues this descriptor: its own opcode and form; a FUNC that no form has
goes with the opcode's form 0, and an undefined OPCODE with NOP, to be rejected (R157, R158). -/
def Desc.isForm (d : Desc) (opcode form : Nat) : Bool :=
  if (Opc.ofCode d.opcode).isNone then opcode == 0
  else d.opcode == opcode && ((formsOf opcode).isEmpty || d.func == form || (form == 0 && !(formsOf opcode).contains d.func))

/-- Whether an engine has a free place (R77). -/
def Tile.engineFree (t : Tile) (e : Engine) : Bool :=
  decide ((t.ops.filter (fun o => o.engine == e && o.phase != .done)).length < 2)

/-- Whether two accumulating tile-ops of the array still hold rollback copies (R470). -/
def Tile.rollbackFull (t : Tile) (d : Desc) : Bool :=
  let holds (o : InFlight) : Bool := o.d.opc.accumulating && o.engine == d.engine && !o.voided && !o.rejected
    && (o.phase != .done || o.unchecked)
  d.opc.accumulating && decide (2 ≤ (t.ops.filter holds).length + (t.checks.filter (fun c => holds c.op)).length)

/-- Whether a streamed operand runs longer than its ring (R154, R471). -/
def overRing (l bytes : Nat) : Bool :=
  (locKind l == .tmem || locKind l == .stream) && !locKeep l && decide (768 - locBufLine l < streamLines bytes)

-- ---------------------------------------------------------------- putting a tile-op in flight

/-- Tile-ops that do something with queues or a predicate register when they execute: RECV, SEND, and SELECT but for
CHOOSE_M. -/
def Desc.acts (d : Desc) : Bool :=
  match d.opc with
  | .recv | .send => true
  | .select => d.func != 3
  | _ => false

/-- Whether a site may serve as a replay tile: a good spare, or the site of a logical tile that no grant includes; none that
failed its slice or that a move takes (R478, R514). -/
def State.mayReplay (s : State) (die site : Nat) : Bool :=
  s.goodSite die site && (s.sliceAt die site).st != .isolated
    && !s.cur.replacements.any (fun r => r.die == die && (r.newSite == site || r.oldSite == site))
    && (match s.tileAt die site with
      | none => (s.die die).spares.contains site
      | some t => !(List.range 16).any (fun c => (s.ctx c).granted die t))

/-- 1 + the site of a tile's replay tile, 0 where it has none now. -/
def State.replayFor (s : State) (die tile : Nat) : Nat :=
  match SMap.get 0 s.cur.replayOf (tkey die tile) with
  | 0 => 0
  | k + 1 => if s.mayReplay die k then k + 1 else 0

/-- The tile-op as it goes in flight, before its effect. A voided one still reads its predicate register (R78, R159). -/
def State.newOp (s : State) (die tile k : Nat) (d : Desc) (voided : Bool) : InFlight :=
  let t := s.tile die tile
  let sl := t.slot k
  let acc := d.opc.accumulating && !voided
  let level := s.effLevel sl.ctx die tile
  let hold := acc && (decide (2 ≤ level) || d.chkHold)
  let cmp := (acc && (decide (1 ≤ level) || d.chkForce || d.chkHold)) || (level == 4 && d.opc.isData && !voided)
  let data := d.opc.isData
  let sel := data && !voided && (s.latchedOf sl.ctx).level == 3 && sl.dataOps % 16 == 15
  let rsite := if sel then s.replayFor die tile else 0
  let rep := rsite != 0
  let busy := t.ops.any (fun o => o.engine == d.engine && o.phase == .executing)
  let pred : List HLoc := if d.predSel = 0 then [] else [⟨5, k, d.predSel - 1, d.predSel - 1⟩]
  let reads := if voided then pred else d.hazReads k
  { id := t.nextOp, slot := k, desc := BitVec.ofNat 512 d, engine := d.engine, voided := voided
    phase := if busy then .waiting else .executing
    todo := d.acts
    forced := acc && level == 0 && d.chkForce
    hold := hold, cmp := if cmp then .pending else .none, level := level
    reexecutable := !(d.opc.accumulating && (overRing d.locA d.bytesA || overRing d.locB d.bytesB))
    replay := rep, replayAt := rsite, replayDone := !rep
    reads := reads
    derived := (t.checks.filter (fun c => meetAny (c.op.writes.filter (fun h => h.kind == 2)) reads)).map (fun c => c.op.id)
    writes := d.recordLoc :: (if voided then (d.hazWrites t k).filter (fun h => h.kind == 4 || h.kind == 6 || (d.opc == .recv && h.kind == 3)) else d.hazWrites t k)
    rollback := if acc then some (locArray d.locD, locSet d.locD, (t.array (locArray d.locD)).set (locSet d.locD)) else none }

/-- Add a tile-op to those in flight and count the descriptor as issued. A selected tile-op without a replay
tile counts in CHECK_REPLAY_SKIPPED (R478). -/
def State.putOp (s : State) (die tile : Nat) (o : InFlight) : State :=
  let t := s.tile die tile
  let sl := t.slot o.slot
  let len := sl.prog.length * (hdrRepeat sl.header.toNat + 1)
  let data := o.d.opc.isData && !o.rejected
  let skipped := data && !o.voided && (s.latchedOf sl.ctx).level == 3 && sl.dataOps % 16 == 15 && !o.replay
  let s1 := if skipped then s.count 0x80C0 4 sl.ctx 1 else s
  let s2 := if o.replay then s1.count 0x80C0 3 sl.ctx 1 else s1
  s2.updTile die tile (fun t =>
    ({ t with ops := t.ops ++ [o], nextOp := t.nextOp + 1 }).updSlot o.slot (fun sl => { sl with
      pc := sl.pc + 1
      issuedAll := decide (len ≤ sl.pc + 1)
      dataOps := if data then sl.dataOps + 1 else sl.dataOps }))

/-- GLOBAL ranges that a tile-op must read before it executes: ACC_LOAD's block, or the indexed rows of a
GATHER table unless an index is poisoned or out of range (R169, R180). -/
def State.globalReads (s : State) (die tile : Nat) (o : InFlight) : List (Nat × Nat) :=
  let d := o.d
  match d.opc with
  | .accLoad =>
    match d.opdA with
    | some m => if locKind m.loc = .global then [(fld d.aux 0 46, m.rowBytes)] else []
    | none => []
  | .gather =>
    match d.opdB with
    | some m =>
      if locKind m.loc = .global then
        let iv := s.indexVec die tile o
        if iv.2.1 || iv.2.2 then [] else iv.1.map (fun r => (fld d.aux 0 46 + r * m.step, m.rowBytes))
      else []
    | none => []
  | _ => []

/-- Start an executed data tile-op of the arrays, the vector engine or SELECT in CHOOSE_M form: its stream
lines, its GLOBAL reads, or its effect at once. -/
def State.startData (s : State) (die tile : Nat) (o0 : InFlight) : State :=
  let d := o0.d
  let strA := d.opc.accumulating && locKind d.locA == .stream
  let strB := d.opc.accumulating && locKind d.locB == .stream
  let c := ((s.tile die tile).slot o0.slot).ctx
  let reads := if o0.voided then [] else
    (lineRuns (linesOfAll (s.globalReads die tile o0))).map (fun r => ({
      kind := 0, device := fld d.aux 46 18, addr := r.1 * 64, len := r.2, ctx := c, gen := (s.ctx c).gen.toNat
      die := die, tile := tile, req := .op die tile o0.id 0 } : Access))
  let o := { o0 with
    applied := o0.voided
    streamNeed := if strA then streamLines d.bytesA else 0
    streamPort := locSel d.locA
    streamNeedB := if strB then streamLines d.bytesB else 0
    streamPortB := locSel d.locB
    awaiting := reads.length }
  ((s.putOp die tile o).addAccs reads).feedOp die tile o.id

/-- Count a SEND or CHOOSE_Q that returned CLOSED or FENCED (R290). -/
def State.countClosed (s : State) (c : Nat) (fenced : Bool) : State := s.count 0x8060 (if fenced then 3 else 2) c 1

/-- What a queue action leaves in its tile-op: the action is done, with the digest of the bytes it gave out (R477). -/
def State.acted (s : State) (die tile id : Nat) (out : List Nat) (f : InFlight → InFlight) : State :=
  s.updOp die tile id (fun o => { f o with todo := false, outDigest := if o.replay then some (crc64 out) else none })

/-- A predicate value as the byte that stands for it in a digest (log entry 81). -/
def Pred.byte : Pred → Nat
  | .false_ => 0 | .true_ => 1 | .void => 2

/-- Send a tile-op's payload on a channel (R276, R182, R290). While the channel blocks nothing is sent, and one that blocks on
a queue which a JOIN_STALL has named is marked (R288). -/
def State.actSend (s : State) (die tile : Nat) (o : InFlight) (chan : Nat) (p : Payload) : State :=
  let c := ((s.tile die tile).slot o.slot).ctx
  match (s.tile die tile).sendSt o.slot chan with
  | .blocked =>
    let w := (((s.tile die tile).slot o.slot).chan chan).cfg.toNat
    if (s.tile die tile).sendTimed o.slot chan ∧ ((s.tile die (scDestTile w)).queue (scDestQ w)).joinNamed then
      s.updOp die tile o.id (fun o => { o with stallRaised := true })
    else s
  | .closed => (s.countClosed c false).acted die tile o.id [] (fun o => { o with status := .closed, detail := chan })
  | .fenced => (s.countClosed c true).acted die tile o.id [] (fun o => { o with status := .fenced, detail := chan })
  | .go =>
    let r := s.sendOn die tile o.slot chan p
    r.1.acted die tile o.id (leBytes 32 r.2.2.word.toNat) (fun o => { o with
      spilled := r.2.1, sentTo := some (chan, r.2.2), poisonOut := p.poison })

/-- The payload of a SEND (R182, R275): a void token when it is voided. -/
def Desc.payload (d : Desc) (device die tile : Nat) (voided : Bool) : Payload :=
  if voided then { kind := 2, tag := d.tag }
  else match d.func with
    | 0 => { kind := 0, len := d.dim0, tag := d.tag,
             payload := if locKind d.locA = .tmem then at_ 46 18 device + tileAddr die tile (locSel d.locA) else d.aux }
    | 1 => { kind := 1, len := d.dim0, tag := d.tag, payload := d.aux % 2 ^ (8 * d.dim0) }
    | 2 => { kind := 2, tag := d.tag }
    | _ => { kind := 3, tag := d.tag, predVal := bitOf d.aux 0 }

/-- Whether a REF SEND points, by a GLOBAL address, at data that this tile holds (R79, R182): a held access to lines of the
range, or a held result of an earlier tile-op in the tile's own memory. In tile memory R78 has it wait for the holder. -/
def State.refHeld (s : State) (die tile : Nat) (o : InFlight) : Bool :=
  let d := o.d
  let a := fld d.aux 0 46
  let last := (a + d.dim0 - 1) / 64
  d.opc == .send && d.func == 0 && !o.voided && locKind d.locA == .global && fld d.aux 46 18 == s.device && d.dim0 != 0
  && (s.accs.any (fun x => x.held && x.kind != 0 && x.die == die && x.tile == tile && x.device == s.device
        && decide (x.addr / 64 ≤ last) && decide (a / 64 < x.addr / 64 + x.len))
      || (match place a with
        | .tileWin dd tt off => dd == die && tt == tile && (s.tile die tile).ops.any (fun e =>
            decide (e.id < o.id) && e.held && e.writes.any (HLoc.meets ⟨3, 0, off / 64, (off + d.dim0 - 1) / 64⟩))
        | _ => false))

def State.actSendOp (s : State) (die tile : Nat) (o : InFlight) : State :=
  if s.refHeld die tile o then s
  else s.actSend die tile o (locSel o.d.locD) (o.d.payload s.device die tile o.voided)

/-- RECV (R183, R283): waits while the queue shows no current token. -/
def State.actRecv (s : State) (die tile : Nat) (o : InFlight) : State :=
  let d := o.d
  let q := locSel d.locA
  match (s.tile die tile).headToken q ((s.tile die tile).slot o.slot).epoch with
  | none => s
  | some tok =>
    let bytes := withPoison tok.poison (leBytes 32 tok.word.toNat)
    let out := if locKind d.locD = .tmem then rowsOut (tileAddr die tile (locSel d.locD)) 0 [bytes] else []
    let uses := s.lineUses die tile o
    (((s.takeToken die tile q o.slot).writeOut out).updTile die tile (fun t => t.lineUsesBy d.engine uses)).acted die tile o.id (leBytes 32 tok.word.toNat)
      (fun o => { o with voidToken := tok.kind == 2, poisonOut := tok.poison })

/-- Set predicate register `r` of a card. -/
def State.setPred (s : State) (die tile k r : Nat) (p : Pred) : State :=
  s.updTile die tile (fun t => t.updSlot k (fun sl => { sl with preds := sl.preds.set r p }))

/-- SELECT in SETP_Q form (R184): TRUE or FALSE from a predicate token, VOID from a void token; any other token is
consumed with FORMAT; a poisoned one with POISON (R283). Voided, it only removes the token (R159). -/
def State.actSetpQ (s : State) (die tile : Nat) (o : InFlight) : State :=
  let d := o.d
  let q := locSel d.locA
  match (s.tile die tile).headToken q ((s.tile die tile).slot o.slot).epoch with
  | none => s
  | some tok =>
    let p : Option Pred :=
      if o.voided ∨ tok.poison then none
      else if tok.kind = 2 then some .void
      else if tok.kind = 3 then some (if tok.predVal then .true_ else .false_)
      else none
    let s1 := (s.takeToken die tile q o.slot).acted die tile o.id (p.toList.map Pred.byte) (fun o => { o with voidToken := tok.kind == 2 })
    let fail (st : Status) (p : Bool) : State := s1.updOp die tile o.id (fun o => { o with status := st, detail := 0x0B, poisonOut := p })
    if o.voided then s1
    else match p with
      | some v => s1.setPred die tile o.slot (locSel d.locD) v
      | none => if tok.poison then fail .poison true else fail .format false

/-- SELECT in SETP_M form (R184). -/
def State.actSetpM (s : State) (die tile : Nat) (o : InFlight) : State :=
  let d := o.d
  let a := tileAddr die tile (locSel d.locA)
  let b := (s.readPB a 1).getD 0 (0, false)
  if o.voided then s.acted die tile o.id [] id
  else
    let uses := s.lineUses die tile o
    let p : Pred := if b.1 = 0 then .false_ else .true_
    let s1 := (s.updTile die tile (fun t => t.lineUsesBy d.engine uses)).acted die tile o.id (if b.2 then [] else [p.byte]) id
    if b.2 then s1.updOp die tile o.id (fun o => { o with status := .poison, detail := 0x0B, poisonOut := true, poisonAddr := a / 64 * 64 })
    else s1.setPred die tile o.slot (locSel d.locD) p

/-- SELECT in CHOOSE_Q form (R184, R651): one token leaves each input queue; the chosen one is forwarded. -/
def State.actChooseQ (s : State) (die tile : Nat) (o : InFlight) : State :=
  let d := o.d
  let t := s.tile die tile
  let k := o.slot
  let sl := t.slot k
  let qa := locSel d.locA
  let qb := locSel d.locB
  let chan := locSel d.locD
  let tb := if qa = qb then ((t.queue qa).items.drop 1).head?.filter (fun x => x.age sl.epoch == 0) else t.headToken qb sl.epoch
  match t.headToken qa sl.epoch, tb with
  | some a, some b =>
    let fwd (x : QDesc) : Payload := {
      kind := x.kind, payload := fld x.word.toNat 192 64, len := fld x.word.toNat 160 32
      tag := fld x.word.toNat 144 16, predVal := x.predVal, poison := x.poison }
    let p : Payload := if o.voided then { kind := 2, tag := d.tag }
      else match sl.preds.getD (fld d.aux 0 3) .true_ with
        | .true_ => fwd a
        | .false_ => fwd b
        | .void => { kind := 2, tag := d.tag }
    if t.sendSt k chan = .blocked then s
    else (((s.takeToken die tile qa k).takeToken die tile qb k).updOp die tile o.id (fun o => { o with
      voidToken := a.kind == 2 || b.kind == 2 })).actSend die tile o chan p
  | _, _ => s

/-- Do what an executing tile-op does with queues or a predicate register, if it can be done now. -/
def State.actOp (s : State) (die tile id : Nat) : State :=
  match (s.tile die tile).op? id with
  | none => s
  | some o =>
    if !o.todo || o.phase != .executing then s
    else match o.d.opc with
      | .send => s.actSendOp die tile o
      | .recv => s.actRecv die tile o
      | .select =>
        match o.d.func with
        | 0 => s.actSetpQ die tile o
        | 1 => s.actSetpM die tile o
        | _ => s.actChooseQ die tile o
      | _ => s

/-- Whether a slot holds another context's card: loaded, not on its way (R185). -/
def Slot.holdsOther (x : Slot) (ctx : Nat) : Bool := x.st != .empty && x.st != .loading && x.ctx != ctx

/-- CARD (R185): a switch request, or CARD_SLOT. It waits for its switch unless it is voided, and for a slot that is empty or still
loading. -/
def State.startCard (s : State) (die tile : Nat) (o : InFlight) : State :=
  let d := o.d
  let k := o.slot
  let tgt := fld d.aux 0 2
  let t := s.tile die tile
  let x := t.slot tgt
  if o.voided then s
  else if tgt = k ∨ x.holdsOther (t.slot k).ctx then
    s.updOp die tile o.id (fun o => { o with status := .cardSlot, detail := tgt })
  else
    (s.updOp die tile o.id (fun o => { o with syncWait := true })).updTile die tile (fun t => t.updSlot k (fun sl => { sl with
      swPhase := .waiting, swCut := d.func == 1, swTarget := tgt, swSection := false
      swWait := if x.st = .empty ∨ x.st = .loading then 2 else 1 }))

/-- Opcodes that occupy the controller for no time of their own: they are done as soon as they begin, whatever they
then wait for. -/
def Opc.instant : Opc → Bool
  | .nop | .sync | .fenceLocal | .card => true
  | _ => false

/-- A tile-op begins to execute on its engine; under a stretch it is marked DIP (R89). SYNC GROUP waits for its group (R186). -/
def InFlight.begin (o : InFlight) (stretch : Bool) : InFlight :=
  let o1 := { o with phase := .executing }
  let o2 := if stretch then o1.markDip else o1
  if o.d.opc.instant then { o2 with phase := .done, syncWait := o.d.opc == .sync && o.d.func == 1 && !o.voided } else o2

/-- What a tile-op that begins does at once: CARD requests its switch, a queue or predicate action is done if it can be. -/
def State.beginAct (s : State) (die tile : Nat) (o : InFlight) : State :=
  if o.d.opc = .card then s.startCard die tile o else s.actOp die tile o.id

/-- The tile-op waiting in an engine begins. -/
def State.beginOp (s : State) (die tile id : Nat) : State :=
  match (s.tile die tile).op? id with
  | none => s
  | some o => (s.updOp die tile id (fun o => o.begin s.pwr.stretch)).beginAct die tile o

/-- Put in flight an executed or voided tile-op that has passed its checks; it begins if its engine executes none. -/
def State.startOp (s : State) (die tile : Nat) (o : InFlight) : State :=
  let o1 := if o.phase = .executing then o.begin s.pwr.stretch else o
  let s1 := if o.d.opc.instant || o.d.acts then s.putOp die tile o1 else s.startData die tile o1
  if o.phase = .executing then s1.beginAct die tile o else s1

/-- Whether a tile-op's operands in tile memory or its record touch such a bank. -/
def Tile.zeroWait (t : Tile) (d : Desc) : Bool :=
  t.zeroingIn (d.crOffset * 32) 32 || d.memOpds.any (fun m => locKind m.loc == .tmem &&
    (List.range m.rows).any (fun i => t.zeroingIn (locSel m.loc + i * m.step) m.rowBytes))

/-- Lines of the buffer ring that hold a tile-op's streamed operands until its comparison: all it streamed, none of an operand
longer than its ring (R154, R471). -/
def Desc.ringLines (d : Desc) : List HLoc :=
  let held (kind l bytes : Nat) : List HLoc :=
    if (locKind l = .tmem ∨ locKind l = .stream) ∧ !overRing l bytes then
      [⟨kind, locArray d.locD, locBufLine l, locBufLine l + streamLines bytes - 1⟩]
    else []
  if d.opc.accumulating then held 0 d.locA d.bytesA ++ held 1 d.locB d.bytesB else []

/-- A retired tile-op whose comparison is outstanding keeps its operands from being overwritten, its streamed lines among them
(R471), and its record, which the comparison completes. -/
def Check.hazard (c : Check) (reads writes : List HLoc) : Bool :=
  meetAny (c.op.d.recordLoc :: c.op.reads ++ c.op.d.ringLines) writes || meetAny [c.op.d.recordLoc] reads

/-- Issue the next descriptor of the tile's active card if it is this opcode and form and nothing holds it:
hazards (R78), the checks (R158), a free engine (R77), a bank being zeroed (R203), predication (R159). Otherwise nothing changes. -/
def State.tileOp (s : State) (die tile opcode form : Nat) : State :=
  match s.issuer die tile with
  | none => s
  | some k =>
    let t := s.tile die tile
    let sl := t.slot k
    let d := sl.next
    if sl.prog.isEmpty || !d.isForm opcode form then s
    else
      let voided := sl.voids d
      let o := s.newOp die tile k d voided
      if t.ops.any (fun e => hazardWith e o.reads o.writes.tail) || t.checks.any (fun c => c.hazard o.reads o.writes.tail) then s
      else match s.opCheck sl.ctx die tile (s.effLevel sl.ctx die tile) (s.latchedOf sl.ctx).strict sl d with
        | some (st, det) => s.putOp die tile { o with
            rejected := true, status := st, detail := det, phase := .done, todo := false, derived := [], cmp := .none, replay := false
            replayDone := true, forced := false, hold := false, dip := false, voided := false
            reads := [], writes := [d.recordLoc], rollback := none }
        | none =>
          if !t.engineFree d.engine || t.rollbackFull d || t.zeroWait d then s else s.startOp die tile o

end Sys2Proof.Machine
end

