-- ==== Sys2Proof/Machine/TileOps.lean ====
section
/-! DEFINITION. The tile-op commands (chapter Tile-op reference): each issues the next descriptor of the active
card of a tile when that descriptor is its opcode and form. -/

namespace Sys2Proof.Machine

/-- The outcome of a command that has its effect, or none, in every state. -/
abbrev Out := Host.Outcome State Fault Refusal

/-- R188. Tile-op with no effect that retires in program order with its TAG. -/
def execNop (die tile : Nat) (s : State) : Out := .next (s.tileOp die tile 0x00 0)
/-- R186. Tile-op that retires once every earlier tile-op of its card has retired. -/
def execSyncLocal (die tile : Nat) (s : State) : Out := .next (s.tileOp die tile 0x01 0)
/-- R186. Barrier tile-op that waits for every tile of a sync group and sends its arrival in pick 0. -/
def execSyncGroup (die tile : Nat) (s : State) : Out := .next (s.tileOp die tile 0x01 1)
/-- R187. Tile-op that retires once every earlier weft access of the tile has completed. -/
def execFenceLocal (die tile : Nat) (s : State) : Out := .next (s.tileOp die tile 0x02 0)
/-- R185. CARD tile-op that requests a DRAIN switch to another card slot. -/
def execCardDrain (die tile : Nat) (s : State) : Out := .next (s.tileOp die tile 0x03 0)
/-- R185. CARD tile-op that requests a CUT switch to another card slot. -/
def execCardCut (die tile : Nat) (s : State) : Out := .next (s.tileOp die tile 0x03 1)
/-- R184. Takes one token from a queue and writes a predicate register from it. -/
def execSelectSetpQ (die tile : Nat) (s : State) : Out := .next (s.tileOp die tile 0x04 0)
/-- R184. Reads a byte of tile memory and writes a predicate register from it. -/
def execSelectSetpM (die tile : Nat) (s : State) : Out := .next (s.tileOp die tile 0x04 1)
/-- R651. Takes a token from each of two queues and forwards one, restamped, on a send channel. -/
def execSelectChooseQ (die tile : Nat) (s : State) : Out := .next (s.tileOp die tile 0x04 2)
/-- R184. Copies bytes from one of two tile-memory locations chosen by a predicate register. -/
def execSelectChooseM (die tile : Nat) (s : State) : Out := .next (s.tileOp die tile 0x04 3)
/-- R166. Accumulates A times B (K by N) into an accumulator set. -/
def execMma (die tile : Nat) (s : State) : Out := .next (s.tileOp die tile 0x10 0)
/-- R166. Accumulates A times the transpose of B (N by K) into an accumulator set. -/
def execMmaT (die tile : Nat) (s : State) : Out := .next (s.tileOp die tile 0x11 0)
/-- R169. Loads a set, or an anchored block, into an accumulator set in REPLACE form. -/
def execAccLoadReplace (die tile : Nat) (s : State) : Out := .next (s.tileOp die tile 0x12 0)
/-- R145. Adds an anchored block into an ANCHORED set with anc_add. -/
def execAccLoadAdd (die tile : Nat) (s : State) : Out := .next (s.tileOp die tile 0x12 1)
/-- R170. Writes an accumulator set to tile memory or a global address. -/
def execAccStore (die tile : Nat) (s : State) : Out := .next (s.tileOp die tile 0x13 0)
/-- R133. Clears the named anchored sets and gives them an anchor, switching the array to ANCHORED if needed. -/
def execAncInit (die tile : Nat) (s : State) : Out := .next (s.tileOp die tile 0x18 0)
/-- R172. Writes one scan entry for a whole tensor or set. -/
def execAncScanAll (die tile : Nat) (s : State) : Out := .next (s.tileOp die tile 0x19 0)
/-- R172. Writes one scan entry per row of a tensor or set. -/
def execAncScanRows (die tile : Nat) (s : State) : Out := .next (s.tileOp die tile 0x19 1)
/-- R173. Converts an ANCHORED set to FP32 or BF16 in tile memory. -/
def execAncFold (die tile : Nat) (s : State) : Out := .next (s.tileOp die tile 0x1A 0)
/-- R175. Element-wise A plus B. -/
def execVecEwAdd (die tile : Nat) (s : State) : Out := .next (s.tileOp die tile 0x20 0)
/-- R175. Element-wise A minus B. -/
def execVecEwSub (die tile : Nat) (s : State) : Out := .next (s.tileOp die tile 0x20 1)
/-- R175. Element-wise A times B. -/
def execVecEwMul (die tile : Nat) (s : State) : Out := .next (s.tileOp die tile 0x20 2)
/-- R175. Element-wise A times B plus D. -/
def execVecEwFma (die tile : Nat) (s : State) : Out := .next (s.tileOp die tile 0x20 3)
/-- R175. Element-wise A divided by B. -/
def execVecEwDiv (die tile : Nat) (s : State) : Out := .next (s.tileOp die tile 0x20 4)
/-- R175. Element-wise square root of A. -/
def execVecEwSqrt (die tile : Nat) (s : State) : Out := .next (s.tileOp die tile 0x20 5)
/-- R175. Element-wise minimum of A and B. -/
def execVecEwMin (die tile : Nat) (s : State) : Out := .next (s.tileOp die tile 0x20 6)
/-- R175. Element-wise maximum of A and B. -/
def execVecEwMax (die tile : Nat) (s : State) : Out := .next (s.tileOp die tile 0x20 7)
/-- R175. Element-wise absolute value of A. -/
def execVecEwAbs (die tile : Nat) (s : State) : Out := .next (s.tileOp die tile 0x20 8)
/-- R175. Element-wise negation of A. -/
def execVecEwNeg (die tile : Nat) (s : State) : Out := .next (s.tileOp die tile 0x20 9)
/-- R175. Element-wise compare A equal to B, writing 1 or 0. -/
def execVecEwCmpEq (die tile : Nat) (s : State) : Out := .next (s.tileOp die tile 0x20 10)
/-- R175. Element-wise compare A less than B. -/
def execVecEwCmpLt (die tile : Nat) (s : State) : Out := .next (s.tileOp die tile 0x20 11)
/-- R175. Element-wise compare A less than or equal to B. -/
def execVecEwCmpLe (die tile : Nat) (s : State) : Out := .next (s.tileOp die tile 0x20 12)
/-- R175. Element-wise test whether A or B is NaN. -/
def execVecEwCmpUnord (die tile : Nat) (s : State) : Out := .next (s.tileOp die tile 0x20 13)
/-- R176. Element-wise maximum(x, +0). -/
def execVecActRelu (die tile : Nat) (s : State) : Out := .next (s.tileOp die tile 0x21 0)
/-- R176. Element-wise e to the x. -/
def execVecActExp (die tile : Nat) (s : State) : Out := .next (s.tileOp die tile 0x21 1)
/-- R176. Element-wise 2 to the x. -/
def execVecActExp2 (die tile : Nat) (s : State) : Out := .next (s.tileOp die tile 0x21 2)
/-- R176. Element-wise natural logarithm. -/
def execVecActLog (die tile : Nat) (s : State) : Out := .next (s.tileOp die tile 0x21 3)
/-- R176. Element-wise base-2 logarithm. -/
def execVecActLog2 (die tile : Nat) (s : State) : Out := .next (s.tileOp die tile 0x21 4)
/-- R176. Element-wise reciprocal. -/
def execVecActRecip (die tile : Nat) (s : State) : Out := .next (s.tileOp die tile 0x21 5)
/-- R176. Element-wise reciprocal square root. -/
def execVecActRsqrt (die tile : Nat) (s : State) : Out := .next (s.tileOp die tile 0x21 6)
/-- R176. Element-wise hyperbolic tangent. -/
def execVecActTanh (die tile : Nat) (s : State) : Out := .next (s.tileOp die tile 0x21 7)
/-- R176. Element-wise logistic sigmoid. -/
def execVecActSigmoid (die tile : Nat) (s : State) : Out := .next (s.tileOp die tile 0x21 8)
/-- R176. Element-wise x times sigmoid(x). -/
def execVecActSilu (die tile : Nat) (s : State) : Out := .next (s.tileOp die tile 0x21 9)
/-- R176. Element-wise tanh-form GELU. -/
def execVecActGeluTanh (die tile : Nat) (s : State) : Out := .next (s.tileOp die tile 0x21 10)
/-- R176. Element-wise error function. -/
def execVecActErf (die tile : Nat) (s : State) : Out := .next (s.tileOp die tile 0x21 11)
/-- R176. Element-wise ln(1 + e to the x). -/
def execVecActSoftplus (die tile : Nat) (s : State) : Out := .next (s.tileOp die tile 0x21 12)
/-- R176. Element-wise sine. -/
def execVecActSin (die tile : Nat) (s : State) : Out := .next (s.tileOp die tile 0x21 13)
/-- R176. Element-wise cosine. -/
def execVecActCos (die tile : Nat) (s : State) : Out := .next (s.tileOp die tile 0x21 14)
/-- R177. Reduces each row to its sum, by tree or in order as the context requires. -/
def execVecRedSum (die tile : Nat) (s : State) : Out := .next (s.tileOp die tile 0x22 0)
/-- R177. Reduces each row to its maximum. -/
def execVecRedMax (die tile : Nat) (s : State) : Out := .next (s.tileOp die tile 0x22 1)
/-- R177. Reduces each row to its minimum. -/
def execVecRedMin (die tile : Nat) (s : State) : Out := .next (s.tileOp die tile 0x22 2)
/-- R177. Reduces each row to its greatest magnitude. -/
def execVecRedAmax (die tile : Nat) (s : State) : Out := .next (s.tileOp die tile 0x22 3)
/-- R178. Converts elements between formats, choosing BS4 block scales where needed. -/
def execCast (die tile : Nat) (s : State) : Out := .next (s.tileOp die tile 0x23 0)
/-- R179. Writes the transpose of a matrix as bits. -/
def execXpose (die tile : Nat) (s : State) : Out := .next (s.tileOp die tile 0x24 0)
/-- R180. Copies indexed table rows into destination rows after checking every index. -/
def execGather (die tile : Nat) (s : State) : Out := .next (s.tileOp die tile 0x25 0)
/-- R180. Copies source rows to indexed rows of a table after checking every index. -/
def execScatter (die tile : Nat) (s : State) : Out := .next (s.tileOp die tile 0x26 0)
/-- R276. Enqueues a descriptor that points at data on a send channel. -/
def execSendRef (die tile : Nat) (s : State) : Out := .next (s.tileOp die tile 0x30 0)
/-- R276. Enqueues a descriptor that carries up to 8 bytes inline. -/
def execSendInline (die tile : Nat) (s : State) : Out := .next (s.tileOp die tile 0x30 1)
/-- R276. Enqueues a void token on a send channel. -/
def execSendVoid (die tile : Nat) (s : State) : Out := .next (s.tileOp die tile 0x30 2)
/-- R276. Enqueues a predicate token on a send channel. -/
def execSendPred (die tile : Nat) (s : State) : Out := .next (s.tileOp die tile 0x30 3)
/-- R183. Removes one token from a queue and writes its descriptor, returning a credit. -/
def execRecv (die tile : Nat) (s : State) : Out := .next (s.tileOp die tile 0x31 0)

end Sys2Proof.Machine
end

