-- ==== Sys2Proof/Machine/TileEvents.lean ====
section
/-! DEFINITION. What happens to a tile-op after it has issued (R70, R77, R79, R162 to R165, R468 to R477), the
ends of cards (R289, R304, R352) and the events of a tile's island (R85 to R88). -/

namespace Sys2Proof.Machine

-- ---------------------------------------------------------------- cards that end

/-- A notice from a queue to its sender without a credit (R271, R289). -/
def State.notice (s : State) (die tile q code : Nat) : State := s.returnCredit die tile q code 0

/-- Close the open queues that a card configures: its reader has finished (R289). -/
def State.closeQueues (s : State) (die tile k : Nat) : State :=
  (List.range 8).foldl (fun s q =>
    let t := s.tile die tile
    let x := t.queue q
    if SMap.get 0 (t.slot k).queueImgs q != 0 && qCtx x.cfg.toNat == (t.slot k).ctx && (x.st == .open_ || (x.st == .fenced && x.stSaved == .open_)) then
      if x.st = .open_ then (s.updTile die tile (fun t => t.updQueue q (fun x => { x with st := .closed }))).notice die tile q 1
      else s.updTile die tile (fun t => t.updQueue q (fun x => { x with stSaved := .closed }))
    else s) s

/-- The contexts after `c` in ascending order taken cyclically. -/
def ctxsAfter (c : Nat) : List Nat := (List.range 16).map (fun i => (c + 1 + i) % 16)

/-- A card that ACTIVE may go to: current, neither FINISHED nor HALTED (R352). -/
def Tile.runnable (t : Tile) (c : Nat) : Option Nat :=
  (List.range 4).find? (fun k => (t.slot k).st == .current && (t.slot k).ctx == c)

/-- Make a slot active. A change of context clears both arrays' buffers, sets and checksums and writes the
gather buffer back (R83, R200); the port mode is the card's. -/
def Tile.activate (t : Tile) (k : Nat) : Tile :=
  let sl := t.slot k
  let key := (sl.ctx, sl.gen)
  let other := t.lastCtx.isSome && t.lastCtx != some key
  { t with
    active := some k
    split := bitOf sl.header.toNat 46
    lastCtx := some key
    arrays := if other then SMap.ofList {} 0 ((List.range 2).map (fun a => ({ anchored := (t.array a).anchored } : ArrayU))) else t.arrays
    gb := if other then [] else t.gb }

/-- Nothing of a card is in flight on the tile, outstanding comparisons included (R82, log entry 63). -/
def Tile.quiet (t : Tile) : Bool := t.ops.isEmpty && t.checks.isEmpty

/-- Move ACTIVE when the active card has ended and nothing of it is in flight (R82, R352), except while a re-placement holds the
tile's ACTIVE changes (R492 step 3). -/
def State.moveActive (s : State) (die tile : Nat) : State :=
  let t := s.tile die tile
  let busy : Bool := match t.active with
    | some k => (t.slot k).st == .current || !t.quiet
    | none => false
  if busy = true ∨ t.stopped = true then s
  else
    let c := match t.active with
      | some k => (t.slot k).ctx
      | none => 15
    match (ctxsAfter c).filterMap t.runnable with
    | [] => s
    | k :: _ => s.updTile die tile (fun t => t.activate k)

/-- Change the resident node of a context's running graph. -/
def State.updNode (s : State) (c node : Nat) (f : Node → Node) : State :=
  s.updCtx c (fun x => { x with graph := x.graph.map (fun g => { g with nodes := g.nodes.map (fun n => if n.idx = node then f n else n) }) })

/-- Halt a card (R165): the sequencer notes the first halt of the node and posts TILEOP_FAIL. -/
def State.haltCard (s : State) (die tile k : Nat) (st : Status) (detail seq opcode tag : Nat) (desc : W512) : State :=
  let sl := (s.tile die tile).slot k
  if sl.st ≠ .current then s
  else
    let s1 := (s.updTile die tile (fun t => t.updSlot k (fun x => { x with
      st := .halted, haltDesc := desc, haltStatus := st }))).closeQueues die tile k
    let s2 := s1.updNode sl.ctx sl.node (fun n =>
      if n.haltStatus = .ok then { n with haltStatus := st, haltDetail := detail, haltTile := tile } else n)
    s2.postEvent sl.ctx {
      code := 0x01, status := st, arg0 := at_ 32 32 seq + at_ 16 8 opcode + at_ 0 16 tag
      submitTag := s2.runTag sl.ctx, nodeTag := s.nodeTag sl.ctx sl.node, node := sl.node, detail := detail, die := die, tile := tile, slot := k }

-- ---------------------------------------------------------------- engines

def Engine.ofCode : Nat → Engine
  | 0 => .array0 | 1 => .array1 | 2 => .vector | 3 => .queueUnit | _ => .controller

/-- Whether an executing tile-op has nothing left to wait for: its queue action is done, its operands have come and its
accesses are answered. -/
def State.opReady (s : State) (die tile : Nat) (o : InFlight) : Bool :=
  !o.todo && o.streamNeed == 0 && o.streamNeedB == 0 && o.applied
  && !(s.accs.any (fun a => a.req == .op die tile o.id 0 && a.st == .sent && !a.held))

/-- The tile-op that a tile's engine executes. -/
def Tile.executing (t : Tile) (e : Engine) : Option InFlight := t.ops.find? (fun o => o.engine == e && o.phase == .executing)

/-- The tile-op waiting in an engine begins. -/
def State.beginWaiting (s : State) (die tile : Nat) (e : Engine) : State :=
  match (s.tile die tile).ops.find? (fun o => o.engine == e && o.phase == .waiting) with
  | some w => s.beginOp die tile w.id
  | none => s

/-- R77. The engine's executing tile-op finishes once nothing of it is waited for, a blocked one after it has done what it
was blocked in; the waiting one begins, also while a frequency step is requested: the step of R88 then waits for every tile-op
issued before it (DESIGN CHOICE, log entry 72). The engine of a tile under test does no work of a context (R84). -/
def execTileopEngineDone (die tile engine : Nat) (s : State) : Out :=
  let e := Engine.ofCode engine
  if (s.tile die tile).underTest then .next s
  else match (s.tile die tile).executing e with
  | none => .next s
  | some o0 =>
    let s1 := s.actOp die tile o0.id
    match (s1.tile die tile).op? o0.id with
    | none => .next s1
    | some o =>
      if s1.opReady die tile o then
        .next ((s1.updOp die tile o.id (fun o => { o with phase := .done })).beginWaiting die tile e)
      else .next s1

-- ---------------------------------------------------------------- comparisons (R468 to R476)

/-- Charge a tile's site under a cause of R486, unless the tile-op is DIP (R472, R481). -/
def State.scoreTile (s : State) (die tile cause points : Nat) (dip reh : Bool) : State :=
  if dip then s
  else match s.siteOf die tile with
    | some site => s.scoreHit (siteAddr die site) cause points false reh
    | none => s

/-- Let what a tile-op held leave the tile, once nothing about it is unchecked (R79). -/
def State.releaseOp (s : State) (die tile id : Nat) : State :=
  match (s.tile die tile).op? id with
  | some o =>
    if o.unchecked then s
    else { s with accs := s.accs.map (fun a => match a.req with
        | .op d t i _ => if d = die ∧ t = tile ∧ i = id ∧ a.held then { s.packet a with held := false } else a
        | .none => a) }
  | none => s

/-- Poison what a tile-op writes to GLOBAL memory of this device (R473): its writes still on their way carry poison, and the
lines of the others are marked. -/
def State.poisonGlobal (s : State) (die tile : Nat) (o : InFlight) (m : MemOpd) : State :=
  let mine (a : Access) : Bool := a.req == .op die tile o.id 0 && a.kind != 0 && a.st == .sent
  let pending := s.accs.filter mine
  let s1 : State := { s with accs := s.accs.map (fun a => if mine a then { a with data := a.data.map (fun l => { l with poison := true }) } else a) }
  let base := fld o.d.aux 0 46
  let lines := ((List.range m.rows).map (fun i => linesOf (base + i * m.step) m.rowBytes)).flatten
  if fld o.d.aux 46 18 ≠ s.device then s1
  else (lines.filter (fun l => !pending.any (fun a => decide (a.addr / 64 ≤ l) && decide (l < a.addr / 64 + a.len)))).foldl
    (fun s l => s.memPoison (l * 64) 64) s1

/-- Poison the destinations of a tile-op (R161, R473, R474). -/
def State.poisonDest (s : State) (die tile : Nat) (o : InFlight) : State :=
  let d := o.d
  if locKind d.locD = .acc then
    s.updTile die tile (fun t => t.updArray (locArray d.locD) (fun a => a.updSet (locSet d.locD) (fun x => { x with poison := true })))
  else match d.opdD with
    | some m =>
      if locKind d.locD = .tmem then
        (List.range m.rows).foldl (fun s i => s.memPoison (tileAddr die tile (locSel d.locD) + i * m.step) m.rowBytes) s
      else if locKind d.locD = .global then s.poisonGlobal die tile o m
      else s
    | none => s

/-- Take back a descriptor still in the transmit buffer of a tile-op that failed finally: it moves nothing (R474). -/
def State.unsend (s : State) (die tile : Nat) (o : InFlight) : State :=
  match o.sentTo with
  | none => s
  | some (chan, d) =>
    s.updTile die tile (fun t => t.updSlot o.slot (fun sl => sl.updChan chan (fun c =>
      if c.tx.contains d then
        let reply := scKind c.cfg.toNat == 3
        { c with tx := c.tx.filter (fun x => x != d)
                 credits := if reply then c.credits else c.credits + 1
                 out := if reply then c.out else c.out - 1
                 pending := if reply then c.pending + 1 else c.pending }
      else c)))

/-- A held result fails finally (R474): its destinations are poisoned, its outgoing transfers do not happen,
and it retires with CHECK_FAIL and CHECK_RESULT 4. -/
def State.failFinally (s : State) (die tile : Nat) (o : InFlight) (n : Nat) : State :=
  let keep (a : Access) : Bool := match a.req with
    | .op d t i _ => !(d == die && t == tile && i == o.id && a.held)
    | .none => true
  let gone := (s.accs.filter (fun a => !keep a)).length
  let s1 := ({ s with accs := s.accs.filter keep } : State)
  ((s1.poisonDest die tile o).unsend die tile o).updOp die tile o.id (fun o => { o with
    cmp := if o.cmp = .none then .none else .failed, replayDone := true, checkResult := 4
    awaiting := o.awaiting - gone, sat := 0, flush := 0, ieee := 0
    status := .checkFail, detail := min n 255, mismatches := n, poisonOut := true })

/-- The 81 comparisons of an accumulating tile-op (R468, R469), with the entries that a fault of the array
makes mismatch; the entry number 81 stands for the twin (R479). -/
def State.compareOp (s : State) (die tile : Nat) (o : InFlight) (faults : List Nat) : List Nat × Bool :=
  let d := o.d
  let twin := o.level == 4 && faults.contains 81
  if d.opc.accumulating then
    let a := (s.tile die tile).array (locArray d.locD)
    let set := a.set (locSet d.locD)
    ((List.range 81).filter (fun e => set.entryCompared a.anchored e && (set.entryFails a.anchored e || faults.contains e)), twin)
  else ([], twin)

/-- The entry that a rehearsed CHECK_MISMATCH reports: the first one compared (R521). -/
def State.rehEntry (s : State) (die tile : Nat) (o : InFlight) : List Nat :=
  let a := (s.tile die tile).array (locArray o.d.locD)
  ((List.range 81).find? (fun e => (a.set (locSet o.d.locD)).entryCompared a.anchored e)).toList

/-- R475. The re-execution of a tile-op whose comparison failed completes: a pass keeps the new result. -/
def execReexecDone (die tile : Nat) (faults : List Nat) (s : State) : Out :=
  if (s.tile die tile).underTest then .next s
  else match (s.tile die tile).ops.find? (fun o => o.cmp == .failed && o.checkResult == 0) with
  | none => .next s
  | some o =>
    let c := ((s.tile die tile).slot o.slot).ctx
    let reh := o.reh
    let r := s.compareOp die tile o faults
    let s1 := s.count 0x80C0 2 c 1
    if r.1.isEmpty && !r.2 then
      .next (((s1.updOp die tile o.id (fun o => { o with cmp := .passed, checkResult := 3, reexec := true, mismatches := 0 })).releaseOp
        die tile o.id).scoreTile die tile (if o.failKind = 3 then 0x05 else 0x01) (if o.failKind = 3 then 48 else 16) o.dip reh)
    else
      .next ((s1.failFinally die tile o r.1.length).scoreTile die tile
        (if o.failKind = 3 then 0x05 else 0x03) (if o.failKind = 3 then 48 else 64) o.dip reh)

/-- R477. The replay tile executes the oldest tile-op sent to it and returns its digest; `flip` is how that
digest differs from the correct one, 0 where the replay tile is sound. -/
def execReplayExecute (die tile flip : Nat) (s : State) : Out :=
  match (s.tile die tile).ops.find? (fun o => o.replay && !o.replayDone && o.replayDigest.isNone) with
  | none => .next s
  | some o =>
    if o.applied && !o.todo && !(s.tile die tile).underTest && !(s.sliceAt die (o.replayAt - 1)).st.testing then
      .next (s.updOp die tile o.id (fun o => { o with replayDigest := some ((o.outDigest.getD 0) ^^^ (flip % 2 ^ 64)) }))
    else .next s

/-- R471, R472, R477. The digests are compared; where they differ the tile-op is re-executed once on its own tile, giving the digest
`reexec`, unless it is not re-executable. -/
def execReplayDigest (die tile reexec : Nat) (s : State) : Out :=
  if (s.tile die tile).underTest then .next s
  else match (s.tile die tile).ops.find? (fun o => o.replay && !o.replayDone && o.replayDigest.isSome && o.phase == .done) with
  | none => .next s
  | some o =>
    let c := ((s.tile die tile).slot o.slot).ctx
    let set (result : Nat) (re : Bool) (s : State) : State :=
      (s.updOp die tile o.id (fun o => { o with
        replayDone := true, reexec := o.reexec || re, checkResult := max o.checkResult result })).releaseOp die tile o.id
    let fail (s : State) : State :=
      ((s.updOp die tile o.id (fun o => { o with failKind := 2 })).failFinally die tile o 0).scoreTile die tile 0x04 64 o.dip false
    if o.outDigest = o.replayDigest then .next (set 1 false s)
    else if !o.reexecutable then .next (fail s)
    else
      let s1 := s.count 0x80C0 2 c 1
      if o.replayDigest = some (reexec % 2 ^ 64) then .next ((set 3 true s1).scoreTile die tile 0x04 64 o.dip false)
      else if o.outDigest = some (reexec % 2 ^ 64) then
        let s2 := set 1 false s1
        match o.replayAt with
        | 0 => .next s2
        | k + 1 => .next (if o.dip then s2 else s2.scoreHit (siteAddr die k) 0x04 64 false false)
      else .next (fail s1)

-- ---------------------------------------------------------------- retirement (R77, R162 to R165)

/-- A tile-op ready to retire: done, answered, held by no comparison and waiting for nothing. One that read the destination
of a released tile-op waits for that one's comparison (R473, log entry 63). -/
def State.retirable (s : State) (die tile : Nat) (o : InFlight) : Bool :=
  o.phase == .done && o.applied && o.streamNeed == 0 && o.streamNeedB == 0 && !o.held && !o.syncWait
  && o.awaiting == 0 && !(s.tile die tile).underTest
  && !(s.tile die tile).checks.any (fun c => o.derived.contains c.op.id)
  && (o.voided || o.d.opc != .fenceLocal || !s.accs.any (fun a => a.die == die && a.tile == tile && a.st == .sent && !a.orphan))

/-- Stall cycles by source: their sum, and the source with the most, the first of equals (R80, R162). -/
def stallTotal (xs : List (Nat × Nat)) : Nat := (xs.map (·.2)).sum
def stallSum (xs : List (Nat × Nat)) (src : Nat) : Nat := ((xs.filter (fun e => e.1 == src)).map (·.2)).sum
def stallMost (xs : List (Nat × Nat)) : Nat :=
  (List.range 9).foldl (fun b i => if (if b = 0 then 0 else stallSum xs b) < stallSum xs (i + 1) then i + 1 else b) 0

/-- The 32-byte completion record (R162). -/
def InFlight.record (o : InFlight) (seq cycle epoch : Nat) (stalls : List (Nat × Nat)) : Nat :=
  let d := o.d
  at_ 224 32 seq + at_ 192 32 (min (stallTotal stalls) (2 ^ 32 - 1)) + at_ 176 16 (count16 o.sat) + at_ 160 16 (count16 o.flush)
  + at_ 144 16 d.tag + at_ 80 48 cycle + at_ 56 8 o.status.code + at_ 52 4 (stallMost stalls) + at_ 48 4 o.checkResult
  + at_ 47 1 (b2n o.voided) + at_ 46 1 (b2n o.dip) + at_ 45 1 (b2n (o.forced && o.cmp != .none)) + at_ 44 1 (b2n o.reexec)
  + at_ 43 1 (b2n o.poisonOut) + at_ 42 1 (b2n o.stallRaised) + at_ 41 1 (b2n o.voidToken) + at_ 40 1 (b2n o.spilled)
  + at_ 32 8 d.opcode + at_ 30 2 o.slot + at_ 28 2 epoch + at_ 0 24 o.detail

/-- Write a completion record (R162). -/
def State.putRecord (s : State) (die tile : Nat) (o : InFlight) (seq cycle epoch : Nat) (stalls : List (Nat × Nat)) : State :=
  (s.memWrite (tileAddr die tile (o.d.crOffset * 32)) (leBytes 32 (o.record seq cycle epoch stalls)) false).updTile
    die tile (fun t => t.gbTouch (o.d.crOffset * 32 / 64) true)

/-- Whether a status lets the card continue (R165). -/
def InFlight.continues (o : InFlight) : Bool :=
  o.status == .ok || ((o.status == .closed || (o.status == .fenced)) &&
    (o.d.opc == .send || (o.d.opc == .select && o.d.func == 2)) && !o.accFailed)

/-- Where the completion record may not be written: out of tile memory, or a bank the context does not own. -/
def State.recordFault (s : State) (die tile c : Nat) (d : Desc) : Option Status :=
  if 0x17FFE0 < d.crOffset * 32 then some .bounds
  else if !s.ownsBanks c die tile (d.crOffset * 32) 32 then some .window
  else none

/-- Events of a checked tile-op at its retirement: CHECK_FAIL (R476) and what containment needs (R484). -/
def State.retireReports (s : State) (die tile c seq : Nat) (o : InFlight) : State :=
  let site := match s.siteOf die tile with
    | some i => sitePack i
    | none => 0
  let node := ((s.tile die tile).slot o.slot).node
  let rsite := match o.replayAt with
    | 0 => 0
    | k + 1 => sitePack k
  let s1 := if o.checkResult = 2 ∨ o.checkResult = 4 then
      (s.count 0x80C0 1 c 1).postEvent c {
        code := 0x07, status := .checkFail
        arg0 := at_ 32 32 seq + at_ 28 4 o.checkResult + at_ 24 4 o.failKind + at_ 16 8 o.d.opcode + at_ 0 16 o.d.tag
        arg1 := at_ 32 16 rsite + at_ 16 16 (min o.mismatches 65535) + at_ 0 16 site
        submitTag := s.runTag c, node := node, nodeTag := s.nodeTag c node, detail := o.detail
        die := die, tile := tile, slot := o.slot }
    else s
  if o.status = .ok ∧ o.poisonOut then s1.count 0x8040 0x0A c 1
  else if o.status = .poison then
    (s1.count 0x8040 9 c 1).updCtx c (fun x => { x with poisonUses := x.poisonUses ++ [{
      addr := o.poisonAddr, seq := seq
      origin := if o.poisonOrigin = 1 ∧ s.poisonMarked 0 o.poisonAddr then 3 else o.poisonOrigin
      rehearsal := s.poisonMarked 1 o.poisonAddr, die := die, tile := tile, slot := o.slot
      node := node, nodeTag := s.nodeTag c node }] })
  else s1

/-- Halt the card of a tile-op that has retired with a status under which it does not continue. -/
def State.haltAt (s : State) (die tile : Nat) (o : InFlight) (seq : Nat) (stalls : List (Nat × Nat)) : State :=
  (s.haltCard die tile o.slot o.status o.detail seq o.d.opcode o.d.tag o.desc).updTile die tile (fun t =>
    t.updSlot o.slot (fun sl => { sl with haltStall := sl.haltStall <|> some (min (stallTotal stalls) (2 ^ 32 - 1)) }))

/-- A card whose last tile-op of the last pass has retired is FINISHED (R297, R304), once the comparisons of its released
tile-ops have been made (log entry 63). -/
def State.finishCard (s : State) (die tile k : Nat) : State :=
  let t := s.tile die tile
  let sl := t.slot k
  if sl.st == .current && sl.issuedAll && !t.ops.any (fun o => o.slot == k) && !t.checks.any (fun c => c.op.slot == k) then
    ((s.updTile die tile (fun t => t.updSlot k (fun x => { x with st := .finished }))).closeQueues die tile k).updNode sl.ctx sl.node
      (fun n => { n with lastTile := tile })
  else s

/-- R77. The oldest tile-op retires: its record is written, its counts and flags are added, and the card halts
or finishes. `cycle` is RETIRE_CYCLE, `stalls` its stall cycles by source. -/
def execTileopRetire (die tile cycle : Nat) (stalls : List (Nat × Nat)) (s : State) : Out :=
  let t := s.tile die tile
  match t.ops with
  | [] => .next s
  | o0 :: rest =>
    if !s.retirable die tile o0 || t.zeroingIn (o0.d.crOffset * 32) 32 then .next s
    else
      let k := o0.slot
      let sl := t.slot k
      let c := sl.ctx
      let fault := s.recordFault die tile c o0.d
      let o := match fault with
        | some st => { o0 with status := st, detail := 0x10 }
        | none => o0
      let seq := (sl.retired + 1).toNat
      let writes := !(fault.isSome || (o.d.crErrOnly && o.status == .ok))
      let s1 := s.updTile die tile (fun t =>
        let t1 := ({ t with
            ops := rest
            checks := if o.cmp = CmpSt.pending then t.checks ++ [({ op := o, seq := seq, cycle := cycle, epoch := sl.epoch, stalls := stalls, written := writes } : Check)]
              else t.checks }).updSlot k (fun x =>
          let n := (rest.filter (fun (e : InFlight) => e.slot == k)).length
          { x with retired := x.retired + 1, pass := if x.prog.isEmpty then x.pass else (x.pc - n) / x.prog.length % 65536 })
        stalls.foldl (fun t e => if 1 ≤ e.1 ∧ e.1 ≤ 9 then t.bump e.1 e.2 else t) (t1.bump 0x0A 1))
      let s2 := if writes then s1.putRecord die tile o seq cycle sl.epoch stalls else s1
      let s3 := if o.checkResult = 4 ∨ o.voided then s2
        else ((s2.count 0x8020 1 c o.sat).count 0x8020 2 c o.flush).updCtx c (fun x => { x with
          numeric := x.numeric ||| BitVec.ofNat 32 o.ieee })
      let s4 := (s3.updNode c sl.node (fun n => { n with
        poisonOut := n.poisonOut || o.poisonOut, reexec := n.reexec || o.reexec, dip := n.dip || o.dip })).retireReports die tile c seq o
      let s5 := if o.continues then s4 else s4.haltAt die tile o seq stalls
      .next ((s5.finishCard die tile k).moveActive die tile)

-- ---------------------------------------------------------------- the comparison (R70, R472, R473)

/-- The entries of a tile-op that mismatch, whether its twin differs, and whether a rehearsal makes it so (R521). -/
def State.comparison (s : State) (die tile : Nat) (o : InFlight) (faults : List Nat) : List Nat × Bool × Bool :=
  let t := s.tile die tile
  let reh := o.d.opc.accumulating && decide (0 < t.rehMismatch) && t.rehCtx == (t.slot o.slot).ctx
  let r := s.compareOp die tile o (if reh then s.rehEntry die tile o ++ faults else faults)
  (r.1, r.2, reh)

/-- Count a comparison made (R70, R89), and use up a rehearsed mismatch. -/
def Tile.countCompare (t : Tile) (o : InFlight) (reh : Bool) : Tile :=
  let t1 := if o.d.opc.accumulating then t.bump 0x0B 1 else t
  let t2 := if o.dip && o.d.opc.accumulating then t1.bump 0x0C 1 else t1
  if reh then { t2 with rehMismatch := t2.rehMismatch - 1 } else t2

/-- A tile-op whose outputs had left before its comparison failed (R472, first row). -/
def InFlight.failReleased (o : InFlight) (kind n : Nat) : InFlight :=
  { o with cmp := .failed, checkResult := 2, failKind := kind, mismatches := n, poisonOut := true, status := .checkFail, detail := min n 255 }

/-- The operand fields of a tile-op that name an accumulator set which another writes. -/
def InFlight.fieldsReading (o : InFlight) (ws : List HLoc) : List Nat :=
  let reads (l f : Nat) : List Nat :=
    failIf (locKind l == .acc && ws.any (HLoc.meets ⟨2, locArray l, locSet l, locSet l⟩)) f
  reads o.d.locA 0x0B ++ reads o.d.locB 0x0C ++ reads o.d.locD 0x0D

/-- A tile-op that read the destination of a failed one completes with POISON and poisons its own destinations (R473). -/
def State.poisonReader (s : State) (die tile : Nat) (failed : Check) (o : InFlight) : State :=
  (s.poisonDest die tile o).updOp die tile o.id (fun o => { o with
    status := if o.status = .ok then .poison else o.status
    detail := if o.status = .ok then (worst (o.fieldsReading failed.op.writes)).getD 0x0B else o.detail
    poisonOut := true })

/-- The comparison of a retired tile-op has been made: its record is completed, written now where CR_ERR_ONLY had kept it
back and the comparison failed (log entry 63). -/
def State.completeRecord (s : State) (die tile : Nat) (c : Check) (o : InFlight) : State :=
  let ctx := ((s.tile die tile).slot o.slot).ctx
  let s1 := s.updTile die tile (fun t => { t with checks := t.checks.filter (fun x => x.op.id != o.id) })
  if c.written || (o.status != .ok && (s.recordFault die tile ctx o.d).isNone) then s1.putRecord die tile o c.seq c.cycle c.epoch c.stalls
  else s1

/-- The comparison of a retired tile-op. A mismatch poisons its destination and the readers of that, and halts the card. -/
def State.compareRetired (s : State) (die tile : Nat) (c : Check) (faults : List Nat) : State :=
  let o := c.op
  let k := o.slot
  let sl := (s.tile die tile).slot k
  let r := s.comparison die tile o faults
  let s1 := s.updTile die tile (fun t => t.countCompare o r.2.2)
  if r.1.isEmpty then
    ((s1.completeRecord die tile c { o with cmp := .passed, checkResult := 1 }).finishCard die tile k).moveActive die tile
  else
    let o1 := o.failReleased 1 r.1.length
    let s2 := (s1.poisonDest die tile o1).scoreTile die tile 0x02 32 o.dip r.2.2
    let s3 := ((s2.tile die tile).ops.filter (fun x => x.derived.contains o.id)).foldl (fun s x => s.poisonReader die tile c x) s2
    let s4 := ((s3.completeRecord die tile c o1).updNode sl.ctx sl.node (fun n => { n with poisonOut := true })).retireReports
      die tile sl.ctx c.seq o1
    (s4.haltAt die tile o1 c.seq c.stalls).moveActive die tile

/-- R70. The check unit completes the comparisons of the oldest finished tile-op that awaits them; a mismatch
is handled as R472 and R473 give. -/
def execCheckCompare (die tile : Nat) (faults : List Nat) (s : State) : Out :=
  let t := s.tile die tile
  if t.underTest then .next s
  else match t.checks with
  | c :: _ => .next (s.compareRetired die tile c faults)
  | [] =>
  match t.ops.find? (fun o => o.cmp == .pending && o.phase == .done && o.applied) with
  | none => .next s
  | some o =>
    let r := s.comparison die tile o faults
    let reh := r.2.2
    let n := r.1.length
    let s1 := s.updTile die tile (fun t => t.countCompare o reh)
    if n = 0 ∧ !r.2.1 then
      .next ((s1.updOp die tile o.id (fun o => { o with cmp := .passed, checkResult := 1 })).releaseOp die tile o.id)
    else
      let kind := if n = 0 then 3 else 1
      if o.released then
        .next (((s1.poisonDest die tile o).updOp die tile o.id (fun o => o.failReleased kind n)).scoreTile die tile 0x02 32 o.dip reh)
      else if o.reexecutable then
        .next (s1.updOp die tile o.id (fun o => { o with cmp := .failed, checkResult := 0, failKind := kind, mismatches := n, reh := reh }))
      else
        .next (((s1.updOp die tile o.id (fun o => { o with failKind := kind })).failFinally die tile o n).scoreTile die tile
          (if kind = 3 then 0x05 else 0x03) (if kind = 3 then 48 else 64) o.dip reh)

-- ---------------------------------------------------------------- the island (R85 to R88)

/-- R85. 4,096 island cycles have passed in which an engine executed a tile-op of the card without stalling. -/
def execBeatTick (die tile slot : Nat) (s : State) : Out :=
  if !(s.tile die tile).underTest && (s.tile die tile).ops.any (fun o => o.slot == slot && o.phase == .executing && !o.todo) then
    .next (s.updTile die tile (fun t => t.updSlot slot (fun x => { x with beat := x.beat + 1 })))
  else .next s

/-- A write of TILE_ISLAND by context 0 (R86): FSTEP and VSTEP, the latter at most 4; a VSTEP written is the tile's own. -/
def State.writeIsland (s : State) (die tile value : Nat) : State :=
  match s.siteOf die tile with
  | none => s
  | some site =>
    let v := min 4 (fld value 16 4)
    let cs := if v = (s.site die site).vstep then [] else (s.tile die tile).ctxsOn
    (s.updSite die site (fun x => { x with vstep := v, fstep := fld value 20 4, ccSteps := if v = x.vstep then x.ccSteps else 0 })).tallyAll cs 512 1

/-- R86. Context 0 writes TILE_ISLAND. -/
def execTileIslandWrite (die tile value : Nat) (s : State) : Out := .next (s.writeIsland die tile value)

/-- R88. A requested frequency step takes effect at a tile-op boundary: no engine executes. -/
def execFreqStepApply (die tile : Nat) (s : State) : Out :=
  match s.siteOf die tile with
  | none => .next s
  | some site =>
    let x := s.site die site
    if x.fstep ≠ x.fapplied ∧ !(s.tile die tile).ops.any (fun o => o.phase == .executing) then
      .next ((s.updSite die site (fun x => { x with fapplied := x.fstep })).tallyAll (s.tile die tile).ctxsOn 512 1)
    else .next s

end Sys2Proof.Machine
end

