-- ==== Sys2Proof/Machine/Channels.lean ====
section
/-! DEFINITION. The events of the warp network (chapter The warp network and message channels): pick owners,
admission, arrival at queues and stream ports, spill rings, credits, stall reports, pauses and the barrier of
SYNC GROUP. An event that happens in a frame brings the die's frame count at least to that frame. -/

namespace Sys2Proof.Machine

/-- Bring a die's frame count at least to a frame. -/
def State.reachFrame (s : State) (die f : Nat) : State := s.updDie die (fun d => { d with frame := max d.frame f })

-- ---------------------------------------------------------------- pick owners (R263, R264)

/-- Whether a loaded card of context `c` on the die claims data pick `p`. -/
def State.pickClaimed (s : State) (die c p : Nat) : Bool :=
  (List.range 288).any (fun t => (List.range 4).any (fun k =>
    let sl := (s.tile die t).slot k
    sl.st.isLoaded && sl.ctx == c && ((List.range 5).any (fun port => reValid (SMap.get 0 sl.routes (port * 16 + p)))
      || sl.darned.any (fun e => e.1 % 16 == p && reValid (e.2 - 1)))))

/-- Write a die's pick owners: the picks that could not move keep their owner, and the answer says whether
every pick could be applied. -/
def State.writePickOwner (s : State) (die value : Nat) : State × Bool :=
  (List.range 15).foldl (fun acc i =>
    let p := i + 1
    let old := SMap.get 0 (acc.1.die die).pickOwner p
    let new := fld value (4 * p) 4
    if new = old then acc
    else if acc.1.pickClaimed die old p then (acc.1, false)
    else (acc.1.updDie die (fun d => { d with pickOwner := SMap.set 0 d.pickOwner p new }), acc.2)) (s, true)

/-- R264. A write of one die's entry of WARP_PICK_OWNER; an absent die's ignores it (R3). -/
def execWarpPickOwnerWrite (die value : Nat) (s : State) : Out :=
  if s.diePresent die then .next (s.writePickOwner die value).1 else .next s

-- ---------------------------------------------------------------- admission (R262, R277)

/-- Whether the quiet before a switch's commit frame stops the context's sources (R309 step 3). -/
def State.quiet (s : State) (die c : Nat) : Bool := (s.die die).groups.any (fun g => g.ctx == c && g.quiet)

/-- Where a flit that enters an output port of a site's router in a pick ends: site, SINK and links. -/
def State.pathFrom (s : State) (die c pick site port : Nat) : Option (Nat × Nat × Nat) :=
  if port = 0 then some (site, reSink (s.entryAt die site c 0 pick), 0)
  else match s.across die site (portDir port) with
    | none => none
    | some n => s.walk die c pick 64 n (oppPort port) 1

/-- A descriptor of a tile-op that a comparison still holds (R79). -/
def Tile.heldHead (t : Tile) (chan : Nat) (d : QDesc) : Bool :=
  t.ops.any (fun o => o.held && o.sentTo == some (chan, d))

/-- R277. The source router admits the head of a channel's transmit buffer in a data pick of its circuit. -/
def execWarpAdmit (die tile slot chan pick : Nat) (s : State) : Out :=
  let t := s.tile die tile
  let sl := t.slot slot
  let c := sl.chan chan
  match c.tx, s.siteOf die tile with
  | d :: rest, some site =>
    match (s.feeds die site sl.ctx chan).find? (fun f => f.2 == pick) with
    | none => .next s
    | some f =>
      let frame := (s.die die).frame
      let taken := (s.die die).flits.any (fun x => !x.stream && x.srcTile == tile && x.srcChan == chan && x.ctx == sl.ctx
        && x.pick == pick && x.frame == frame + x.hops)
      if !sl.st.isCurrent || c.peer == .paused || s.quiet die sl.ctx || t.heldHead chan d || taken then .next s
      else
        let s1 := s.updTile die tile (fun t => t.updSlot slot (fun sl => sl.updChan chan (fun c => { c with
          tx := rest, sent := c.sent + 1, spilled := c.spilled + (if d.spill then 1 else 0) })))
        match s.pathFrom die sl.ctx pick site f.1 with
        | some (st, sink, h) =>
          match s.tileAt die st with
          | some dt => .next (s1.updDie die (fun x => { x with flits := x.flits ++ [{
              ctx := sl.ctx, tile := dt, sink := sink, word := d, frame := frame + h, pick := pick
              srcTile := tile, srcChan := chan, srcSlot := slot, hops := h }] }))
          | none => .next (s1.count 0x8060 8 0 1)
        | none => .next (s1.count 0x8060 8 0 1)
  | _, _ => .next s

-- ---------------------------------------------------------------- arrival at a queue (R281, R282, R289)

/-- Local address of the descriptor at index `i` of a queue's ring. -/
def ringAddr (die tile : Nat) (x : Queue) (i : Nat) : Nat :=
  let w := x.cfg.toNat
  let off := i % max 1 (qRingEntries w) * 32
  if qRingLoc w = 1 then tileAddr die tile (x.ringCfg.toNat % 2 ^ 46) + off else x.ringCfg.toNat % 2 ^ 46 + off

/-- Discard a descriptor at a queue: counted, and its credit returned. -/
def State.discardAt (s : State) (die tile q sub c : Nat) : State :=
  ((s.updTile die tile (fun t => t.updQueue q (fun x => ({ x with discarded := x.discarded + 1 } : Queue).unreserve 1))).count 0x8060 sub c 1).returnCredit
    die tile q 0 1

/-- Whether a descriptor's context or generation does not match the queue's (R281 step 2). -/
def Queue.stale (x : Queue) (d : QDesc) : Bool :=
  !d.poison && (d.ctx != qCtx x.cfg.toNat || d.gen != qGen x.cfg.toNat)

/-- Whether the queue unit's access to a ring in shared scratchpad, or its answer, is lost on the weft (R246, R282). -/
def State.ringLost (s : State) (die tile : Nat) (x : Queue) (a : Nat) : Bool :=
  qRingLoc x.cfg.toNat != 1 && (match s.siteOf die tile with
    | some site => s.wayLost (siteNode die site) a
    | none => false)

/-- Append a descriptor to a queue's ring; a lost write leaves it or makes it, as a free value says (R246). -/
def State.ringPut (s : State) (die tile q : Nat) (d : QDesc) : State :=
  let x := (s.tile die tile).queue q
  let a := ringAddr die tile x (x.ringHead + x.ringCount)
  let s1 := s.reachFor (qCtx x.cfg.toNat) a 32 true
  let lost := s.ringLost die tile x a
  let s2 := if lost ∧ (Config.freeByte s.free).toNat % 2 = 0 then s1 else s1.memWrite a (leBytes 32 d.word.toNat) d.poison
  (if lost then (s2.count 0x8050 3 0 1).takeFree 1 else s2).updTile die tile
    (fun t => t.updQueue q (fun x => { x with ringCount := x.ringCount + 1 }))

/-- A descriptor reaches a queue. -/
def State.arrive (s : State) (die tile q : Nat) (d : QDesc) : State :=
  let x := (s.tile die tile).queue q
  match x.st with
  | .open_ =>
    if x.stale d then (s.discardAt die tile q 4 d.ctx).count 0x8050 4 d.ctx 1
    else
      let s1 := s.updTile die tile (fun t => t.updQueue q (fun x => { x with arrived := x.arrived + 1 }))
      if d.spill || decide (0 < x.ringCount) then s1.ringPut die tile q d
      else (s1.updTile die tile (fun t => t.updQueue q (fun x => { x with items := x.items ++ [d] }))).purgeQueue die tile q
  | .closed => s.discardAt die tile q 2 (qCtx x.cfg.toNat)
  | .fenced => s.discardAt die tile q 3 (qCtx x.cfg.toNat)
  | .idle => s.updTile die tile (fun t => t.updQueue q (fun x => { x with discarded := x.discarded + 1 }))

/-- Count and score a flit that failed its CRC on a link (R265, R486): `bad` is 0 where every router's check passed,
else 1 + site * 4 + direction of the link. -/
def State.flitError (s : State) (die bad : Nat) : State :=
  if bad = 0 then s
  else (s.count 0x8060 7 0 1).scoreHit (linkName die ((bad - 1) / 4) ((bad - 1) % 4)) 0x0A 8 false false

/-- Whether a descriptor would go to a ring whose bank is still being written to zero: it waits (R203). -/
def State.ringWaits (s : State) (die tile q : Nat) (d : QDesc) : Bool :=
  let x := (s.tile die tile).queue q
  x.st == .open_ && !x.stale d && (d.spill || decide (0 < x.ringCount))
    && s.zeroingAt (ringAddr die tile x (x.ringHead + x.ringCount)) 32

/-- R281. The oldest descriptor in transit to a queue reaches it, poisoned if its flit failed the CRC on a link. -/
def execQueueArrival (die tile queue bad : Nat) (s : State) : Out :=
  let d := s.die die
  match d.flits.find? (fun f => !f.stream && f.tile == tile && f.sink == queue) with
  | none => .next s
  | some f =>
    let w : QDesc := { f.word with poison := f.word.poison || bad != 0 }
    if s.ringWaits die tile queue w then .next s else
    let s1 := (s.updDie die (fun d => { d with flits := d.flits.erase f })).reachFrame die f.frame
    .next ((s1.flitError die bad).arrive die tile queue w)

/-- Move the head of the ring to the tail of the queue, with poison where the weft has lost the read; one whose generation is stale is discarded there. -/
def State.refillOne (s : State) (die tile q : Nat) : State :=
  let x := (s.tile die tile).queue q
  let a := ringAddr die tile x x.ringHead
  let lost := s.ringLost die tile x a
  let r := if lost then ((List.range 32).map (fun j => (Config.freeByte (s.free + j)).toNat), true) else s.memRead a 32
  let d : QDesc := { word := BitVec.ofNat 256 (leVal r.1), poison := r.2 }
  let s0 := if lost then (s.count 0x8050 3 0 1).takeFree 32 else s
  let s1 := (s0.reachFor (qCtx x.cfg.toNat) a 32 false).updTile die tile (fun t => t.updQueue q (fun x => { x with
    ringHead := (x.ringHead + 1) % max 1 (qRingEntries x.cfg.toNat), ringCount := x.ringCount - 1 }))
  if x.stale d then (s1.discardAt die tile q 4 d.ctx).count 0x8050 4 d.ctx 1
  else (s1.updTile die tile (fun t => t.updQueue q (fun x => { x with items := x.items ++ [d] }))).purgeQueue die tile q

def State.refill (s : State) (die tile q : Nat) : Nat → State
  | 0 => s
  | n + 1 =>
    let x := (s.tile die tile).queue q
    if 0 < x.ringCount ∧ x.items.length < qDepth x.cfg.toNat ∧ !s.zeroingAt (ringAddr die tile x x.ringHead) 32 then (s.refillOne die tile q).refill die tile q n else s

/-- R282. The queue unit moves descriptors from the ring into the queue while there is room. -/
def execRingRefill (die tile queue : Nat) (s : State) : Out :=
  let x := (s.tile die tile).queue queue
  .next (s.refill die tile queue x.ringCount)

-- ---------------------------------------------------------------- stream lines (R284)

/-- Give a stream port's lines to the tile-op that waits for them. -/
def State.feedWaiting (s : State) (die tile port : Nat) : State :=
  match (s.tile die tile).ops.find? (fun o =>
      (decide (0 < o.streamNeed) && o.streamPort == port) || (decide (0 < o.streamNeedB) && o.streamPortB == port)) with
  | some o => s.feedOp die tile o.id
  | none => s

/-- R284. The oldest stream line in transit to a port reaches its landing buffer. -/
def execStreamLineArrival (die tile port bad : Nat) (s : State) : Out :=
  match (s.die die).flits.find? (fun f => f.stream && f.tile == tile && f.sink == 8 + port) with
  | none => .next s
  | some f =>
    let s1 := (s.updDie die (fun d => { d with flits := d.flits.erase f })).reachFrame die f.frame
    let s2 := s1.flitError die bad
    let x := (s2.tile die tile).stream port
    if x.valid && x.ctx == f.ctx && (s2.ctx f.ctx).st.running then
      .next ((s2.updTile die tile (fun t => t.updStream port (fun x => { x with
        lines := x.lines ++ [{ f.line with poison := f.line.poison || bad != 0 }] }))).feedWaiting die tile port)
    else .next s2

-- ---------------------------------------------------------------- credits and notices (R271, R312)

/-- What a credit or notice does to a send channel. -/
def SendChan.credit (c : SendChan) (n count : Nat) : SendChan :=
  let p : Peer := match n with
    | 1 => .closed | 2 => .fenced | _ => .open_
  let c1 := if n = 0 then c
    else if c.peer = .paused then { c with peerSaved := p } else { c with peer := p }
  if scKind c.cfg.toNat = 3 then c1
  else { c1 with credits := c1.credits + min count c1.out, out := c1.out - min count c1.out }

/-- Two entries of one circuit, which keep their order on its way back. -/
def Credit.sameCircuit (a b : Credit) : Bool :=
  a.stream == b.stream && a.ctx == b.ctx && a.tile == b.tile && a.chan == b.chan && (!a.stream || a.circuit == b.circuit)

/-- R271. A credit or notice reaches its circuit's source: the oldest of its circuit. One of another epoch than that of the
card in force there is discarded, except for a send channel in the grace after a switch (R312). -/
def execCreditReturn (die idx : Nat) (s : State) : Out :=
  match (s.die die).credits[idx]? with
  | none => .next s
  | some e =>
    if ((s.die die).credits.take idx).any e.sameCircuit then .next s else
    let s1 := (s.updDie die (fun d => { d with credits := d.credits.eraseIdx idx })).reachFrame die e.frame
    if e.stream then
      let t := s1.tile die e.tile
      match t.currentSlot e.ctx, t.portOf e.ctx e.circuit e.chan with
      | some k, some p =>
        if (t.slot k).epoch ≠ e.epoch then .next s1
        else .next (s1.updTile die e.tile (fun t => t.updStream p (fun x => { x with credits := min 512 (x.credits + e.count) })))
      | _, _ => .next s1
    else
      let t := s1.tile die e.tile
      match t.currentSlot e.ctx with
      | none => .next s1
      | some k =>
        let sl := t.slot k
        let ch := sl.chan e.chan
        let ok : Bool := e.epoch == sl.epoch || (e.epoch == ch.graceEpoch && decide ((s1.die die).frame ≤ ch.graceUntil) && decide (0 < ch.graceUntil))
        if ok = true then
          .next (s1.updTile die e.tile (fun t => t.updSlot k (fun sl => sl.updChan e.chan (fun c => c.credit e.notice e.count))))
        else .next s1

-- ---------------------------------------------------------------- the flit of pick 0 (R270, R271, R310)

/-- The command section: TYPE 1 SELVEDGE, 2 CARD_SWITCH, 3 SYNC_ARRIVE, 4 SYNC_RELEASE, 5 CHAN_PAUSE, 6 CHAN_RESUME; context and
arguments. -/
def commandSection (type ctx args : Nat) : Nat := at_ 508 4 type + at_ 504 4 ctx + at_ 384 120 args

/-- A credit entry. -/
def Credit.entry (e : Credit) : Nat :=
  at_ 23 1 1 + at_ 21 2 e.notice + at_ 17 4 e.ctx + at_ 15 2 e.epoch + at_ 7 8 e.circuit + at_ 0 7 e.count

/-- The flit of pick 0: a command section and up to 16 credit entries. -/
def pickZero (command : Nat) (es : List Credit) : Nat :=
  command + ((List.range 16).map (fun i => match es[i]? with
    | some e => at_ (24 * i) 24 e.entry
    | none => 0)).sum

-- ---------------------------------------------------------------- stall reports (R287, R288)

/-- An endpoint packed as in R349. -/
def packEnd (die tile n : Nat) : Nat := at_ 12 1 die + at_ 3 9 tile + at_ 0 3 n

/-- Post a stall event about a card and keep it for the next HANG event (R388). -/
def State.stallEvent (s : State) (die tile k code : Nat) (st : Status) (arg0 arg1 kind endp : Nat) : State :=
  let sl := (s.tile die tile).slot k
  (s.postEvent sl.ctx {
    code := code, status := st, arg0 := arg0, arg1 := arg1, submitTag := s.runTag sl.ctx, nodeTag := s.nodeTag sl.ctx sl.node
    node := sl.node, die := die, tile := tile, slot := k }).updCtx sl.ctx (fun x => { x with stallKind := kind, stallEnd := endp })

def State.markStall (s : State) (die tile id : Nat) : State := s.updOp die tile id (fun o => { o with stallRaised := true })

/-- The tile-ops that execute on a tile and are blocked in their queues. -/
def Tile.blocked (t : Tile) : List InFlight := t.ops.filter (fun o => o.phase == .executing && o.todo)

/-- The channel on which a tile-op sends: SEND, or CHOOSE_Q. -/
def Desc.sendChan (d : Desc) : Option Nat :=
  if d.opc = .send ∨ (d.opc = .select ∧ d.func = 2) then some (locSel d.locD) else none

/-- Whether a tile-op is a SEND or CHOOSE_Q blocked on a channel whose wait is timed (R286), with no stall raised for it. -/
def Tile.sendStalls (t : Tile) (o : InFlight) : Bool :=
  match o.d.sendChan with
  | some ch => t.sendSt o.slot ch == .blocked && t.sendTimed o.slot ch && !o.stallRaised
  | none => false

/-- R287. A blocked SEND has waited for its context's send-wait window. -/
def execSendWaitExpire (die tile : Nat) (s : State) : Out :=
  let t := s.tile die tile
  match t.blocked.find? t.sendStalls with
  | none => .next s
  | some o =>
    let sl := t.slot o.slot
    let ch := (o.d.sendChan).getD 0
    let w := (sl.chan ch).cfg.toNat
    if t.underTest then .next s
    else if ((s.tile die (scDestTile w)).queue (scDestQ w)).joinNamed then .next (s.markStall die tile o.id)
    else .next (((s.markStall die tile o.id).count 0x8060 5 sl.ctx 1).stallEvent die tile o.slot 0x04 .queueStall
      (packEnd die tile ch) (packEnd die (scDestTile w) (scDestQ w)) 1 (packEnd die tile ch))

/-- Queues that a tile-op takes a token from. -/
def Desc.recvQueues (d : Desc) : List Nat :=
  match d.opc with
  | .recv => [locSel d.locA]
  | .select => if d.func = 0 then [locSel d.locA] else if d.func = 2 then [locSel d.locA, locSel d.locB] else []
  | _ => []

/-- A full queue (R288): COUNT equals DEPTH and RING_COUNT equals RING_ENTRIES. -/
def Queue.full (x : Queue) : Bool :=
  x.items.length == qDepth x.cfg.toNat && x.ringCount == qRingEntries x.cfg.toNat

/-- Mark the SEND blocked on a queue as one for which a stall was raised. -/
def State.markSender (s : State) (die : Nat) (x : Queue) : State :=
  let w := x.cfg.toNat
  let t := s.tile die (qSrcTile w)
  match t.blocked.find? (fun o => (t.slot o.slot).ctx == qCtx w && o.d.sendChan == some (qSrcChan w)
      && t.sendSt o.slot (qSrcChan w) == .blocked) with
  | some o => s.markStall die (qSrcTile w) o.id
  | none => s

/-- R288. A wait on the empty queue E, with queue F of the same card full, has lasted the send-wait window. -/
def execJoinStall (die tile qe qf : Nat) (s : State) : Out :=
  let t := s.tile die tile
  match t.blocked.find? (fun o => o.d.recvQueues.contains qe) with
  | none => .next s
  | some o =>
    let sl := t.slot o.slot
    let e := t.queue qe
    let f := t.queue qf
    if !t.underTest ∧ e.items = [] ∧ e.ringCount = 0 ∧ f.full ∧ qe ≠ qf ∧ SMap.get 0 sl.queueImgs qf ≠ 0 ∧
        qCtx f.cfg.toNat = sl.ctx ∧ !f.joinNamed ∧ !o.stallRaised then
      let src (x : Queue) : Nat := packEnd die (qSrcTile x.cfg.toNat) (qSrcChan x.cfg.toNat)
      let s1 := ((s.markStall die tile o.id).updTile die tile (fun t => t.updQueue qf (fun x => { x with joinNamed := true }))).markSender die f
      .next ((s1.count 0x8060 6 sl.ctx 1).stallEvent die tile o.slot 0x05 .joinStall
        (at_ 16 13 (packEnd die tile qe) + src e) (at_ 16 13 (packEnd die tile qf) + src f) 2 (packEnd die tile qe))
    else .next s

-- ---------------------------------------------------------------- pauses (R291, R309)

/-- Change PEER of every channel of current cards that has an end on a tile. -/
def State.eachChanOf (s : State) (die tile : Nat) (f : SendChan → SendChan) : State :=
  (List.range 288).foldl (fun s t =>
    s.updTile die t (fun x => (List.range 4).foldl (fun x k =>
      if (x.slot k).st.isCurrent then
        (List.range 8).foldl (fun x c =>
          let w := ((x.slot k).chan c).cfg.toNat
          if scKind w ≠ 0 ∧ (t = tile ∨ scDestTile w = tile) then x.updSlot k (fun sl => sl.updChan c f) else x) x
      else x) x)) s

/-- Pause the channels and stream ports of a tile (R291). -/
def State.pauseTile (s : State) (die tile : Nat) : State :=
  (s.eachChanOf die tile (fun c => if c.peer = .paused then c else { c with peerSaved := c.peer, peer := .paused })).updTile die tile
    (fun t => (List.range 4).foldl (fun t p => t.updStream p (fun x => { x with paused := x.valid })) { t with paused := true })

/-- Whether a channel of the context on the die is PAUSED. -/
def State.anyPaused (s : State) (die c : Nat) : Bool :=
  (List.range 288).any (fun t => (List.range 4).any (fun k =>
    let sl := (s.tile die t).slot k
    sl.st.isCurrent && sl.ctx == c && (List.range 8).any (fun ch => (sl.chan ch).peer == .paused)))

/-- SW_WAIT of the cards whose arrivals a group holds. -/
def State.groupWait (s : State) (die : Nat) (g : SwGroup) (wait : Nat) : State :=
  g.arrivals.foldl (fun s a => match a.slot with
    | some k => s.updTile die a.tile (fun t => t.updSlot k (fun sl => { sl with swWait := wait }))
    | none => s) s

/-- A group that is complete and whose COMMIT has not left. -/
def SwGroup.due (g : SwGroup) : Bool := g.commit.isNone && decide (g.size ≤ g.arrivals.length)

/-- Commit the groups of a die that are complete, in the frame after now (R309 step 2); one of a context with a PAUSED channel
waits for it, as its members' SW_WAIT says (R297). -/
def State.commitReady (s : State) (die : Nat) : State :=
  let gs := (s.die die).groups.filter SwGroup.due
  let s1 := gs.foldl (fun s g => s.groupWait die g (if s.anyPaused die g.ctx then 6 else 4)) s
  s1.updDie die (fun d => { d with groups := d.groups.map (fun g =>
    if g.due && !s.anyPaused die g.ctx then { g with commit := some (d.frame + 1 + 320) } else g) })

def State.resumeTile (s : State) (die tile : Nat) : State :=
  ((s.eachChanOf die tile (fun c => if c.peer = .paused then { c with peer := c.peerSaved } else c)).updTile die tile
    (fun t => (List.range 4).foldl (fun t p => t.updStream p (fun x => { x with paused := false })) { t with paused := false })).commitReady die

/-- R291, R492 step 3. CHAN_PAUSE of a tile that is being re-placed; the tile stops issuing. -/
def execChanPause (die tile : Nat) (s : State) : Out :=
  if s.cur.replacements.any (fun r => r.die == die && r.tile == tile && r.spareOk) then
    .next ((s.pauseTile die tile).updTile die tile (fun t => { t with stopped := true }))
  else .next s

/-- R291. CHAN_RESUME once the routes of a re-placed tile are rebuilt. -/
def execChanResume (die tile : Nat) (s : State) : Out :=
  if (s.tile die tile).paused && !s.cur.replacements.any (fun r => r.die == die && r.tile == tile) then .next (s.resumeTile die tile)
  else .next s

-- ---------------------------------------------------------------- SYNC GROUP (R186)

/-- The SYNC GROUP that heads a card on a tile: its context, group number and id, once every earlier tile-op of
its card has retired. -/
def Tile.syncHead (t : Tile) : Option (InFlight × Nat × Nat) :=
  match t.ops.find? (fun o => o.d.opc == .sync && o.d.func == 1 && o.syncWait) with
  | none => none
  | some o =>
    if (t.ops.find? (fun e => e.slot == o.slot)).map (·.id) = some o.id then some (o, (t.slot o.slot).ctx, fld o.d.aux 0 4) else none

/-- Tiles of a die whose SYNC GROUP of a context and group has arrived and not been released. -/
def State.syncArrived (s : State) (die c g : Nat) : List Nat :=
  (List.range 288).filter (fun t => match (s.tile die t).syncHead with
    | some (o, c', g') => o.arrived && !o.syncGo && c' == c && g' == g
    | none => false)

/-- R186. A member's arrival reaches the barrier; the last one completes the group. -/
def execSyncArrive (die tile : Nat) (s : State) : Out :=
  match (s.tile die tile).syncHead with
  | none => .next s
  | some (o, c, g) =>
    if o.arrived then .next s
    else
      let s1 := s.updOp die tile o.id (fun o => { o with arrived := true })
      let n := fld (SMap.get 0 ((s.tile die tile).slot o.slot).syncs g) 0 9
      let ts := s1.syncArrived die c g
      if n ≤ ts.length then
        .next (ts.foldl (fun s t => match (s.tile die t).syncHead with
          | some (o, _, _) => s.updOp die t o.id (fun o => { o with syncGo := true })
          | none => s) s1)
      else .next s1

/-- R186. The release reaches a member, which may retire its SYNC GROUP. -/
def execSyncRelease (die tile : Nat) (s : State) : Out :=
  match (s.tile die tile).syncHead with
  | some (o, _, _) => if o.syncGo then .next (s.updOp die tile o.id (fun o => { o with syncWait := false })) else .next s
  | none => .next s

end Sys2Proof.Machine
end

