-- ==== Sys2Proof/Machine/Cards.lean ====
section
/-! DEFINITION. Pattern cards (chapter Pattern cards and sections): the card image and the loader's checks, the
streamers of a card, releasing a slot, and what a switch changes on a tile. -/

namespace Sys2Proof.Machine

-- ---------------------------------------------------------------- the image (R294 to R296)

/-- The bytes of a card image as read, with accessors by offset. -/
abbrev Image := List Nat

def Image.num (im : Image) (off n : Nat) : Nat := leVal ((im.drop off).take n)
def Image.header (im : Image) : Nat := im.num 0 64
def Image.route (im : Image) (port pick : Nat) : Nat := im.num (0x40 + 0x40 * port + 4 * pick) 4
def Image.qCfg (im : Image) (q : Nat) : Nat := im.num (0x180 + 0x10 * q) 8
def Image.qRing (im : Image) (q : Nat) : Nat := im.num (0x188 + 0x10 * q) 8
def Image.scCfg (im : Image) (c : Nat) : Nat := im.num (0x200 + 8 * c) 8
def Image.spCfg (im : Image) (p : Nat) : Nat := im.num (0x240 + 8 * p) 8
def Image.sync (im : Image) (g : Nat) : Nat := im.num (0x260 + 2 * g) 2
def Image.streamer (im : Image) (i : Nat) : Nat := im.num (0x280 + 0x20 * i) 32
def Image.op (im : Image) (i : Nat) : Nat := im.num (0x300 + 64 * i) 64

-- header fields (R295); PROG_LEN and PROG_REPEAT stand with the issue of tile-ops
def hdrSection (h : Nat) : Nat := fld h 160 16
def hdrCrc (h : Nat) : Nat := fld h 128 32
def hdrPred (h r : Nat) : Nat := fld h (3 * r + 72) 3
def hdrStreams (h : Nat) : Nat := fld h 60 3
def hdrGroupSize (h : Nat) : Nat := fld h 51 9
def hdrGroup (h : Nat) : Nat := fld h 47 4
def hdrEpoch (h : Nat) : Nat := fld h 44 2

/-- Length of an image (R294). -/
def imageLen (h : Nat) : Nat := 0x300 + 64 * hdrProgLen h

-- streamer descriptors (R251)
def sdSrc (d : Nat) : Nat := fld d 210 46
def sdStride (d : Nat) : Nat := fld d 160 32
def sdRows (d : Nat) : Nat := fld d 144 16
def sdRowBytes (d : Nat) : Nat := fld d 128 16
def sdRepeat (d : Nat) : Nat := fld d 112 16
def sdCircuit (d : Nat) : Nat := fld d 104 8
def sdStreamer (d : Nat) : Nat := fld d 100 4
def sdPort (d : Nat) : Nat := fld d 98 2
/-- Lines a descriptor delivers in all, and the local address of line `n`. -/
def sdLines (d : Nat) : Nat := sdRows d * (sdRowBytes d / 64) * (sdRepeat d + 1)
def sdAddr (d n : Nat) : Nat :=
  let l := sdRowBytes d / 64
  sdSrc d + n / l % sdRows d * sdStride d + n % l * 64

-- stream-port images (SP_STATE, R284)
def spCircuit (x : Nat) : Nat := fld x 52 8
def spStreamer (x : Nat) : Nat := fld x 48 4
def spValid (x : Nat) : Bool := bitOf x 47

/-- Stops of a streamer in ascending order (R248, R250). -/
def streamerStops (n : Nat) : List Nat :=
  match n with
  | 0 => [61, 62, 63] | 1 => [50, 51, 52] | 2 => [18, 19, 20] | 3 => [29, 30, 31]
  | 4 => [1, 2, 3, 4] | 5 => [5, 6, 7, 8] | 6 => [9, 10, 11, 12] | 7 => [13, 14, 15, 16]
  | 8 => [33, 34] | 9 => [35, 36] | 10 => [45, 46] | 11 => [47, 48]
  | _ => []

-- ---------------------------------------------------------------- the loader's checks (R269, R300)

/-- Where an image may lie (check 1): the tile's own memory in banks the context owns, or shared scratchpad under
a READ window; on a 64-byte boundary. -/
def State.imageAt (s : State) (c die tile a n : Nat) : Bool :=
  a % 64 == 0 && (match place a with
    | .tileWin d t off => d == die && t == tile && decide (off + n ≤ 0x180000) && s.present a n && s.ownsBanks c d t off n
    | .spad _ _ => s.inWindow c a n [0]
    | _ => false)

/-- Check 3: the header's own fields and the CRC over the image. -/
def Image.badHeader (im : Image) : Bool :=
  let h := im.header
  fld h 0 16 != 0xC4D1 || fld h 16 8 != 1 || fld h 24 20 != 0 || fld h 176 336 != 0
  || hdrProgLen h == 0 || decide (256 < hdrProgLen h) || decide (4 < hdrStreams h)
  || (hdrGroup h != 0 && (hdrGroupSize h == 0 || decide (288 < hdrGroupSize h)))
  || (List.range 8).any (fun r => decide (4 ≤ hdrPred h r))
  || hdrCrc h != crc32 (im.take 16 ++ [0, 0, 0, 0] ++ im.drop 20)

/-- A route entry that breaks R261, R266 or R269: reserved bits and values, a SINK or CHAN the card does not
configure, a queue circuit that ends at a stream port. -/
def Image.badRoute (im : Image) (port pick : Nat) : Bool :=
  let e := im.route port pick
  (pick == 0 && e != 0) || fld e 16 5 != 0 || fld e 0 8 != 0 || decide (5 ≤ reIn e) || (port == 0 && decide (12 ≤ reSink e))
  || (reValid e && ((reIn e == 0 && scKind (im.scCfg (reChan e)) == 0)
    || (port == 0 && ((decide (reSink e < 8) && qKind (im.qCfg (reSink e)) == 0)
      || (decide (8 ≤ reSink e) && decide (reSink e < 12) && (!spValid (im.spCfg (reSink e - 8)) || reIn e == 0))))))

def Image.badQueue (im : Image) (q : Nat) : Bool :=
  let w := im.qCfg q
  let r := im.qRing q
  fld w 56 8 != 0 || fld w 37 3 != 0 || fld w 6 6 != 0 || fld r 46 18 != 0 || qRingLoc w == 3
  || (qKind w != 0 && (qDepth w == 0 || decide (32 < qDepth w)
    || !(qRingEntries w == 0 || (qRingEntries w % 16 == 0 && decide (qRingEntries w ≤ 4096))) || r % 64 != 0))

def Image.badChan (im : Image) (c : Nat) : Bool :=
  let w := im.scCfg c
  fld w 56 4 != 0 || fld w 22 14 != 0 || fld w 13 3 != 0

def Image.badStreamPort (im : Image) (p : Nat) : Bool :=
  let w := im.spCfg p
  fld w 10 37 != 0 || (spValid w && decide (12 ≤ spStreamer w))

/-- R251: a non-zero reserved field or a reserved value of a streamer descriptor. -/
def Image.badStreamer (im : Image) (i : Nat) : Bool :=
  let d := im.streamer i
  fld d 192 18 != 0 || fld d 0 98 != 0 || sdSrc d % 64 != 0 || sdStride d % 64 != 0 || sdRowBytes d % 64 != 0
  || sdRowBytes d == 0 || sdRows d == 0 || decide ((streamerStops (sdStreamer d)).length ≤ sdPort d)

/-- A stream circuit, from the ring-stop input of an edge router, that ends at a queue (R261, R266). -/
def Image.badType (im : Image) (site : Nat) : Bool :=
  (List.range 16).any (fun k =>
    let e := im.route 0 k
    reValid e && decide (1 ≤ reIn e) && decide (reIn e < 5) && (neighbour site (portDir (reIn e))).isNone && decide (reSink e < 8))

/-- Order 1 of R269, with the sync groups and streamer descriptors. -/
def Image.badWiring (im : Image) : Bool :=
  (List.range 5).any (fun p => (List.range 16).any (fun k => im.badRoute p k))
  || (List.range 8).any (fun q => im.badQueue q || im.badChan q)
  || (List.range 4).any im.badStreamPort
  || (List.range 16).any (fun g => fld (im.sync g) 9 6 != 0)
  || (List.range (hdrStreams im.header)).any im.badStreamer

/-- Order 2 of R269: picks owned; nothing configured by a loaded card of another context. -/
def State.badClaim (s : State) (c die tile : Nat) (im : Image) : Bool :=
  (List.range 15).any (fun i =>
    (List.range 5).any (fun p => reValid (im.route p (i + 1))) && SMap.get 0 (s.die die).pickOwner (i + 1) != c)
  || (List.range 4).any (fun k =>
    let sl := (s.tile die tile).slot k
    sl.st.isLoaded && sl.ctx != c && (
      (List.range 8).any (fun q => (qKind (im.qCfg q) != 0 && SMap.get 0 sl.queueImgs q != 0)
        || (scKind (im.scCfg q) != 0 && SMap.get 0 sl.chanImgs q != 0))
      || (List.range 4).any (fun p => spValid (im.spCfg p) && SMap.get 0 sl.streamImgs p != 0)))

/-- Order 3 of R269: a spill ring outside the context's banks and windows. -/
def State.badRing (s : State) (c die tile : Nat) (im : Image) : Bool :=
  (List.range 8).any (fun q =>
    let w := im.qCfg q
    let a := im.qRing q % 2 ^ 46
    let n := qRingEntries w * 32
    qKind w != 0 && n != 0 && (match qRingLoc w with
      | 1 => !(decide (a + n ≤ 0x180000) && s.ownsBanks c die tile a n)
      | 2 => !((match place a with
          | .spad _ _ => true
          | _ => false) && s.inWindow c a n [0, 1])
      | _ => false))

/-- Check 5: a range that a streamer descriptor fetches (R252). -/
def State.badStream (s : State) (c : Nat) (im : Image) : Bool :=
  (List.range (hdrStreams im.header)).any (fun i =>
    let d := im.streamer i
    (List.range (sdRows d)).any (fun r => !s.inWindow c (sdSrc d + r * sdStride d) (sdRowBytes d) [0]))

/-- Bytes that the loader reads of an image: its header first, then what the header says. -/
def State.imageSpan (s : State) (a : Nat) : Nat := 0x300 + 64 * min 256 (hdrProgLen (s.memNat a 64))

/-- The checks of R300 on the image at an address, in order; the bytes on success. -/
def State.loadCheck (s : State) (c die tile a : Nat) : Status × Image :=
  if !s.imageAt c die tile a 64 then (.window, [])
  else
    let n := s.imageSpan a
    if !s.imageAt c die tile a n then (.window, [])
    else
      let r := s.memRead a n
      if r.2 then (.poison, [])
      else
        let im : Image := r.1
        if im.badHeader || im.badWiring || (match s.siteOf die tile with
            | some site => im.badType site
            | none => false) then (.badOp, [])
        else if s.badClaim c die tile im then (.claim, [])
        else if s.badRing c die tile im then (.window, [])
        else if s.badStream c im then (.window, [])
        else (.ok, im)

-- ---------------------------------------------------------------- a loaded card

def predOf (wiring : Nat) (old : Pred) : Pred :=
  match wiring with
  | 0 => .true_ | 1 => .false_ | 2 => .void | _ => old

/-- Starting values of the predicate registers (R159, R313). -/
def predsOf (h : Nat) (old : List Pred) : List Pred :=
  (List.range 8).map (fun r => predOf (hdrPred h r) (old.getD r .true_))

def listMap (n : Nat) (f : Nat → Nat) : SMap Nat := SMap.ofList 0 0 ((List.range n).map f)

/-- The slot with a card copied into its store; progress registers cleared (R85, R293, R296). -/
def Slot.load (sl : Slot) (im : Image) (c gen : Nat) : Slot :=
  let h := im.header
  let ifKind (b : Bool) (v : Nat) : Nat := if b then v else 0
  { st := .loaded, ctx := c, gen := gen, epoch := hdrEpoch h, header := BitVec.ofNat 512 h
    prog := (List.range (hdrProgLen h)).map (fun i => BitVec.ofNat 512 (im.op i))
    routes := listMap 80 (fun i => im.route (i / 16) (i % 16))
    queueImgs := listMap 8 (fun q => ifKind (qKind (im.qCfg q) != 0) (im.qCfg q))
    ringImgs := listMap 8 (fun q => ifKind (qKind (im.qCfg q) != 0) (im.qRing q))
    chanImgs := listMap 8 (fun q => ifKind (scKind (im.scCfg q) != 0) (im.scCfg q))
    streamImgs := listMap 4 (fun p => ifKind (spValid (im.spCfg p)) (im.spCfg p))
    syncs := listMap 16 im.sync
    wiring := (List.range 8).map im.qCfg ++ (List.range 8).map im.qRing ++ (List.range 8).map im.scCfg ++ (List.range 4).map im.spCfg
    chans := SMap.ofList {} 0 ((List.range 8).map (fun c => { cfg := BitVec.ofNat 64 (im.scCfg c) }))
    streamers := (List.range (hdrStreams h)).map (fun i => BitVec.ofNat 256 (im.streamer i))
    preds := predsOf h []
    image := sl.image, node := sl.node }

/-- Whether two cards have the same wiring (R302). -/
def Slot.sameWiring (a b : Slot) : Bool :=
  a.epoch == b.epoch && a.routes == b.routes && a.wiring == b.wiring

/-- Set the MATCH bits of a newly loaded slot and of those it matches (R302). -/
def Tile.setMatch (t : Tile) (k : Nat) : Tile :=
  let new := t.slot k
  (List.range 4).foldl (fun t j =>
    let o := t.slot j
    if j ≠ k ∧ o.st.isLoaded ∧ o.ctx = new.ctx ∧ o.sameWiring new then
      (t.updSlot j (fun sl => { sl with cardMatch := sl.cardMatch ||| 2 ^ k })).updSlot k (fun sl => { sl with cardMatch := sl.cardMatch ||| 2 ^ j })
    else t) t

/-- Start the memory streamers of a card (R253). -/
def State.startStreams (s : State) (die tile k : Nat) : State :=
  let sl := (s.tile die tile).slot k
  sl.streamers.foldl (fun s d => s.updDie die (fun x => { x with
    streams := SMap.upd [] x.streams (sdStreamer d.toNat) (fun ss => ss ++ [{ tile := tile, slot := k, ctx := sl.ctx, desc := d }]) })) s

/-- Put a checked image into its slot (R300). -/
def State.putCard (s : State) (die tile k c : Nat) (im : Image) : State :=
  let s1 := s.updTile die tile (fun t => (t.updSlot k (fun sl => sl.load im c (s.ctx c).gen.toNat)).setMatch k)
  (s1.startStreams die tile k).count 0x8070 2 c 1

-- ---------------------------------------------------------------- releasing (R303)

/-- Streamed lines a card's streamers hold. -/
def State.stopStreams (s : State) (die tile k : Nat) : State :=
  s.updDie die (fun x => { x with streams := (List.range 12).foldl (fun m n =>
    SMap.upd [] m n (fun ss => ss.filter (fun y => !(y.tile == tile && y.slot == k)))) x.streams })

/-- Release a slot: it becomes EMPTY, its streamers stop and their data is discarded. The register of the last load
keeps its status. -/
def State.releaseSlot (s : State) (die tile k : Nat) : State :=
  let s1 := s.stopStreams die tile k
  (s1.updTile die tile (fun t =>
    let t1 := (List.range 4).foldl (fun t j => t.updSlot j (fun sl => { sl with
      cardMatch := sl.cardMatch - (if sl.cardMatch.testBit k then 2 ^ k else 0) })) t
    { t1 with
      slots := SMap.set {} t1.slots k { loadStatus := (t1.slot k).loadStatus }
      active := if t1.active = some k then none else t1.active })).noteIdle die tile

-- ---------------------------------------------------------------- what a switch changes on a tile (R311)

/-- Discard what a queue holds, ring included, each counted (R311, R316). -/
def State.dropQueue (s : State) (die tile q c : Nat) : State :=
  let x := (s.tile die tile).queue q
  (s.count 0x8070 1 c (x.items.length + x.ringCount)).updTile die tile (fun t => t.updQueue q (fun x => { x with
    items := [], ringCount := 0, ringHead := 0, reserved := 0, joinNamed := false }))

/-- Remove the old-epoch tokens of a kept queue under CUT; their credits return. -/
def State.cutQueue (s : State) (die tile q c epoch : Nat) : State :=
  let x := (s.tile die tile).queue q
  let n := (x.items.filter (fun d => decide (2 ≤ d.age epoch))).length
  if n = 0 then s
  else ((s.count 0x8070 1 c n).returnCreditAs die tile q 0 n epoch).updTile die tile (fun t => t.updQueue q (fun x =>
    ({ x with items := x.items.filter (fun d => !decide (2 ≤ d.age epoch)) } : Queue).unreserve n))

/-- Put the state of a queue: a queue behind a fence keeps FENCED and the new state for when the fence ends. -/
def Queue.put (x : Queue) (st : QSt) : Queue := if x.st = .fenced then { x with stSaved := st } else { x with st := st }

/-- A queue at a switch: `old` and `new` are its images in the two cards, 0 where one configures nothing; what it returns carries
the epoch of the card that is current from now on (R312). -/
def State.switchQueue (s : State) (die tile q c gen epoch : Nat) (cut : Bool) (old oldR new newR : Nat) : State :=
  let was := ((s.tile die tile).queue q).st
  if new = 0 then
    if old = 0 then s
    else
      let s1 := if was = .closed then s else s.returnCreditAs die tile q 1 0 epoch
      (s1.dropQueue die tile q c).updTile die tile (fun t => t.updQueue q (fun x => ({ x with lastEpoch := epoch } : Queue).put .closed))
  else
    let s1 := if old = new ∧ oldR = newR then (if cut then s.cutQueue die tile q c epoch else s)
      else (if old = 0 ∧ qCtx ((s.tile die tile).queue q).cfg.toNat ≠ c then s else s.dropQueue die tile q c)
    let s2 := s1.updTile die tile (fun t => t.updQueue q (fun x =>
      let y : Queue := if old = new ∧ oldR = newR then x else { x with
        cfg := BitVec.ofNat 64 (new + at_ 52 4 c + at_ 44 8 gen - at_ 52 4 (qCtx new) - at_ 44 8 (qGen new))
        ringCfg := BitVec.ofNat 64 newR, items := [], ringCount := 0, ringHead := 0, reserved := 0 }
      ({ y with lastEpoch := epoch } : Queue).put .open_))
    if was = .closed then s2.returnCreditAs die tile q 3 0 epoch else s2

/-- A kept send channel goes over to the target's slot: its credits, what is outstanding, its transmit buffer, its sink's state
and what is left of a grace (R312). SEQ, SENT and SPILLED count for the target card, since it was loaded (R274, R275). -/
def SendChan.takeOver (y x : SendChan) : SendChan :=
  { y with peer := x.peer, peerSaved := x.peerSaved, credits := x.credits, out := x.out, pending := x.pending, tx := x.tx
           graceUntil := x.graceUntil, graceEpoch := x.graceEpoch }

/-- A send channel of the target card at a switch, `x` the old card's (R311). Credits of the previous epoch are accepted for 64
frames on a kept one (R312). -/
def switchChan (x y : SendChan) (old new oldEpoch frame : Nat) : SendChan :=
  if new = 0 then y
  else if old = new then { y.takeOver x with graceUntil := frame + 64, graceEpoch := oldEpoch }
  else { y with credits := scCredits new, out := 0, pending := 0, peer := .open_, peerSaved := .open_, tx := [] }

/-- A stream port at a switch: a kept one keeps its credits, and those of lines that a CUT discards return (R284, R311). -/
def State.switchStream (s : State) (die tile p c epoch : Nat) (cut : Bool) (old new : Nat) : State :=
  let x := (s.tile die tile).stream p
  let drop := (s.count 0x8070 1 c x.lines.length).updTile die tile (fun t => t.updStream p (fun x => { x with lines := [] }))
  if old = 0 ∧ new = 0 then s
  else if new = 0 then drop.updTile die tile (fun t => t.updStream p (fun _ => {}))
  else if old = new then (if cut then drop.returnStreamCreditAs die tile p x.lines.length epoch else s)
  else (if old = 0 then s else drop).updTile die tile (fun t => t.updStream p (fun _ => {
    ctx := c, circuit := spCircuit new, streamer := spStreamer new, valid := spValid new, credits := 512 }))

/-- Lines the streamers of a card hold. -/
def State.streamHeld (s : State) (die tile k : Nat) : Nat :=
  ((List.range 12).map (fun n => (((SMap.get [] (s.die die).streams n).filter (fun y => y.tile == tile && y.slot == k)).map
    (fun y => y.buffer.length)).sum)).sum

/-- Make the card of a slot current on a tile: CARD waits end, predicates start, and it becomes active where the
rules of R311 and R352 say so. -/
def Tile.makeCurrent (t : Tile) (k : Nat) (oldPreds : List Pred) : Tile :=
  t.updSlot k (fun sl => { sl with
    st := .current, pc := 0, issuedAll := false, pass := 0, swPhase := .none, swWait := 0, swSection := false
    stillMs := 0, hangPosted := false, preds := predsOf sl.header.toNat oldPreds })

/-- End of a slot's time as current card: it reads LOADED, its transmit buffers are empty, and the CARD that asked for the switch
may retire. -/
def Tile.endCurrent (t : Tile) (k : Nat) : Tile :=
  let t1 := t.updSlot k (fun sl => { sl with
    st := .loaded, swPhase := .none, swWait := 0, swSection := false
    chans := (sl.chans.map (fun e => (e.1, ({ e.2 with tx := [], graceUntil := 0, graceEpoch := 0 } : SendChan)))).filter (fun e => e.2 != {}) })
  { t1 with ops := t1.ops.map (fun o => if o.slot = k ∧ o.d.opc = .card then { o with syncWait := false } else o) }

/-- The changes of R311 on one tile: from slot `old?` to slot `new?` of context `c`. -/
def State.switchTile (s : State) (die tile c : Nat) (old? new? : Option Nat) (cut wiring : Bool) : State :=
  let t := s.tile die tile
  let os := (old?.map t.slot).getD {}
  let ns := (new?.map t.slot).getD {}
  let gen := (s.ctx c).gen.toNat
  let frame := (s.die die).frame
  let ep := if new?.isSome then ns.epoch else os.epoch
  let s1 := if !wiring then s else
    (List.range 8).foldl (fun s q => s.switchQueue die tile q c gen ep cut
      (SMap.get 0 os.queueImgs q) (SMap.get 0 os.ringImgs q) (SMap.get 0 ns.queueImgs q) (SMap.get 0 ns.ringImgs q)) s
  let gone := ((List.range 8).map (fun ch =>
    if SMap.get 0 os.chanImgs ch = SMap.get 0 ns.chanImgs ch ∧ SMap.get 0 ns.chanImgs ch ≠ 0 then 0 else (os.chan ch).tx.length)).sum
  let s2 := if wiring && gone != 0 then s1.count 0x8070 1 c gone else s1
  let s3 := if !wiring then s2 else
    (List.range 4).foldl (fun s p => s.switchStream die tile p c ep cut (SMap.get 0 os.streamImgs p) (SMap.get 0 ns.streamImgs p)) s2
  let s4 := match old? with
    | some k => if cut then (s3.count 0x8070 1 c (s3.streamHeld die tile k)).stopStreams die tile k else s3
    | none => s3
  let chans := SMap.ofList {} 0 ((List.range 8).map (fun ch =>
    if wiring then switchChan (os.chan ch) (ns.chan ch) (SMap.get 0 os.chanImgs ch) (SMap.get 0 ns.chanImgs ch) os.epoch frame
    else (ns.chan ch).takeOver (os.chan ch)))
  let s5 := s4.updTile die tile (fun t =>
    let wasActive := old?.isSome && t.active == old?
    let t1 := match old? with
      | some k => t.endCurrent k
      | none => t
    let t2 := match new? with
      | some k => (t1.makeCurrent k os.preds).updSlot k (fun sl => { sl with chans := chans })
      | none => t1
    let idle : Bool := match t2.active with
      | none => true
      | some a => ((t2.slot a).st == .finished || (t2.slot a).st == .halted) && t2.quiet
    match new? with
    | some k => if wasActive || idle then t2.activate k else t2
    | none => if wasActive then { t2 with active := none } else t2)
  let s6 := s5.moveActive die tile
  (List.range 8).foldl (fun s q => s.purgeQueue die tile q) s6

/-- Frame at which the grace of a context's send channels ends on a die, 0 with none under way. -/
def State.graceEnd (s : State) (die ctx : Nat) : Nat :=
  ((List.range 288).flatMap (fun t => (List.range 4).flatMap (fun k =>
    let sl := (s.tile die t).slot k
    if sl.ctx = ctx then sl.chans.map (fun e => e.2.graceUntil) else []))).foldl max 0

/-- R271, R312. The grace of 64 frames for credits of the previous epoch ends on a die: that frame has come. -/
def execCreditGraceEnd (die ctx : Nat) (s : State) : Out :=
  .next (((List.range 288).foldl (fun s t =>
    s.updTile die t (fun x => (List.range 4).foldl (fun x k =>
      if (x.slot k).ctx = ctx then (List.range 8).foldl (fun x c =>
        if ((x.slot k).chan c).graceUntil = 0 then x
        else x.updSlot k (fun sl => sl.updChan c (fun ch => { ch with graceUntil := 0, graceEpoch := 0 }))) x
      else x) x)) s).reachFrame die (s.graceEnd die ctx))

end Sys2Proof.Machine
end

