-- ==== Sys2Proof/Machine/Varoa.lean ====
section
/-! DEFINITION. The Varoa link layer (chapter The Varoa fabric, R401 to R404, R413, R415, R420): the header flit of a packet, frames,
the choice of what an output port sends next, credits, the replay buffer. -/

namespace Sys2Proof.Machine

-- ---------------------------------------------------------------- the header flit (R415)

def hBirth (h : Nat) : Nat := fld h 448 64
def hDest (h : Nat) : Nat := fld h 430 18
def hSrc (h : Nat) : Nat := fld h 412 18
def hJob (h : Nat) : Nat := fld h 396 16
def hInc (h : Nat) : Nat := fld h 388 8
def hCtx (h : Nat) : Nat := fld h 384 4
def hGen (h : Nat) : Nat := fld h 376 8
def hLen (h : Nat) : Nat := fld h 369 7
def hOp (h : Nat) : Nat := fld h 365 4
def hClass (h : Nat) : Nat := fld h 363 2
def hVc (h : Nat) : Nat := fld h 360 3
def hStatus (h : Nat) : Nat := fld h 352 8
def hFlow (h : Nat) : Nat := fld h 340 12
def hSeq (h : Nat) : Nat := fld h 308 32
def hBound (h : Nat) : Nat := fld h 291 17
def hTag (h : Nat) : Nat := fld h 259 32
def hAddr (h : Nat) : Nat := fld h 213 46
def hMask (h : Nat) : Nat := fld h 149 64
def hArg (h : Nat) : Nat := fld h 0 149

/-- Put a virtual channel into a header. -/
def hSetVc (h vc : Nat) : Nat := h - at_ 360 3 (hVc h) + at_ 360 3 vc

/-- What a packet of this module carries besides the fields the router fills in. -/
structure Hdr where
  dest : Nat
  op : Nat
  cls : Nat := 2
  len : Nat := 0
  job : Nat := 0
  inc : Nat := 0
  ctx : Nat := 0
  gen : Nat := 0
  status : Nat := 0
  flow : Nat := 0
  seq : Nat := 0
  bound : Nat := 0
  tag : Nat := 0
  addr : Nat := 0
  mask : Nat := 0
  arg : Nat := 0
  deriving DecidableEq, Repr

def Hdr.bits (x : Hdr) (birth src : Nat) : Nat :=
  at_ 448 64 birth + at_ 430 18 x.dest + at_ 412 18 src + at_ 396 16 x.job + at_ 388 8 x.inc + at_ 384 4 x.ctx
  + at_ 376 8 x.gen + at_ 369 7 x.len + at_ 365 4 x.op + at_ 363 2 x.cls + at_ 352 8 x.status + at_ 340 12 x.flow
  + at_ 308 32 x.seq + at_ 291 17 x.bound + at_ 259 32 x.tag + at_ 213 46 x.addr + at_ 149 64 x.mask + at_ 0 149 x.arg

/-- Whether a packet is older than FABRIC_MAX_AGE_US (R413). -/
def State.tooOld (s : State) (h : Nat) : Bool := decide (hBirth h + s.obj 0x6032 0 0 * 1000 < s.ftc)

-- ---------------------------------------------------------------- ports

def State.fport (s : State) (p : Nat) : Port := SMap.get {} s.fab.ports p
def State.updPortF (s : State) (p : Nat) (f : Port → Port) : State :=
  { s with fab := { s.fab with ports := SMap.upd {} s.fab.ports p f } }

/-- WIDTH for a set of good wavelengths: all eight, the lower half, the upper half, or none (R399). -/
def widthOf (wl : Nat) : Nat :=
  if fld wl 0 8 = 0xFF then 3 else if fld wl 0 4 = 0xF then 1 else if fld wl 4 4 = 0xF then 2 else 0

/-- The class and virtual channel of a packet, as one number. -/
def hLane (h : Nat) : Nat := 8 * hClass h + hVc h

/-- Flits of buffer of a class and virtual channel at the far end: 16, and 4 more for CTRL (R402; log entry 76). -/
def laneFlits (lane : Nat) : Nat := if lane < 8 then 20 else 16

/-- Credits held for a packet's class and virtual channel. -/
def Port.credit (p : Port) (h : Nat) : Nat := laneFlits (hLane h) - SMap.get 0 p.used (hLane h)

-- ---------------------------------------------------------------- flits and frames (R401, R415)

/-- The data flits of a packet; the last is its TAIL. -/
def dataFlits (h : Nat) : List Line → List VaroaFlit
  | [] => []
  | l :: ls => { hdr := h, tail := ls.isEmpty, poison := l.poison, data := l.data } :: dataFlits h ls

/-- The flits of a packet: its header flit, then its data. -/
def flitsOf (h : Nat) (ls : List Line) : List VaroaFlit := { hdr := h, head := true, tail := ls.isEmpty, data := h } :: dataFlits h ls

/-- The flits of a packet that waits at an output. -/
def TxPacket.flits (x : TxPacket) : List VaroaFlit := flitsOf (hSetVc x.header x.vc) x.lines

/-- The four bits of FLIT_FLAGS of a slot that holds a flit. -/
def VaroaFlit.flags (x : VaroaFlit) : Nat := 8 + 4 * b2n x.head + 2 * b2n x.tail + b2n x.poison

def flagBits (i : Nat) : List VaroaFlit → Nat
  | [] => 0
  | x :: xs => at_ (48 + 4 * i) 4 x.flags + flagBits (i + 1) xs

/-- The entries of CREDITS: VALID, CLASS, VC and COUNT. -/
def creditBits (i : Nat) : List (Nat × Nat) → Nat
  | [] => 0
  | c :: cs => at_ (16 * i) 16 (2 ^ 15 + at_ 10 5 c.1 + at_ 0 10 c.2) + creditBits (i + 1) cs

/-- A frame's header (R401): TYPE 0 is DATA, 1 IDLE, 2 HELLO, 3 RETRAIN. -/
def frameHeader (seq ack : Nat) (nak : Bool) (type : Nat) (flits : List VaroaFlit) (credits : List (Nat × Nat)) : Nat :=
  at_ 84 12 seq + at_ 72 12 ack + at_ 71 1 (b2n nak) + at_ 68 3 type + flagBits 0 flits + creditBits 0 credits

/-- The four slots of a frame; a slot without a flit is zero. -/
def frameSlots (flits : List VaroaFlit) : List Nat := (List.range 4).map (fun i => (flits.getD i {}).data)

/-- CRC-32 over a frame's header and slots, least significant bytes first (R401; log entry 76). -/
def frameCrc (header : Nat) (slots : List Nat) : Nat := crc32 (leBytes 12 header ++ (slots.map (leBytes 64)).flatten)

/-- Send a frame through a port. -/
def State.emitFrame (s : State) (port seq : Nat) (nak : Bool) (type : Nat) (flits : List VaroaFlit) (credits : List (Nat × Nat)) : State :=
  let h := frameHeader seq (s.fport port).rxSeq nak type flits credits
  s.emit (.frame port h (frameSlots flits) (frameCrc h (frameSlots flits)))

/-- A frame of the replay buffer leaves, for the first time or again. -/
def State.emitData (s : State) (port : Nat) (f : VaroaFrame) : State := s.emitFrame port f.seq false 0 f.flits f.credits

/-- An IDLE frame that carries ACK and NAK; it has the SEQ of the last frame sent (log entry 76). -/
def State.emitIdle (s : State) (port : Nat) (nak : Bool) : State :=
  s.emitFrame port (((s.fport port).txSeq + 4095) % 4096) nak 1 [] []

/-- A HELLO or RETRAIN frame: slot 0 holds a HELLO's fields and is no flit of a packet; SEQ as in an IDLE frame (R401, R406; log
entry 76). -/
def State.emitLink (s : State) (port type fields : Nat) : State :=
  let h := frameHeader (((s.fport port).txSeq + 4095) % 4096) (s.fport port).rxSeq false type [] []
  s.emit (.frame port h [fields, 0, 0, 0] (frameCrc h [fields, 0, 0, 0]))

-- ---------------------------------------------------------------- the stamps of fabric time (R444)

/-- The counter of an I/O die less that of I/O die 0, in sixteenths of a nanosecond (R447). -/
def dieSkew (ioDie : Nat) : Int := if ioDie = 0 then 0 else (Config.dieSkew ioDie % 17 : Nat) - 8

/-- The stamp of a frame that leaves or enters now on an I/O die: FTC, or local time before FTC is acquired (log entry 28). -/
def State.stampAt (s : State) (ioDie : Nat) : Nat :=
  (((if s.time.ftc16 = 0 then s.pwr.uptime * 16 else s.time.ftc16 : Nat) + dieSkew ioDie) % 2 ^ 64).toNat

/-- A packet of the time exchange of a link: CTRL_CMD 0x08 or 0x09. -/
def timeCmd (h : Nat) : Bool := hOp h == 0xC && (fld h 144 5 == 8 || fld h 144 5 == 9)

/-- The header of a packet as its first bit leaves a port: TIME_SYNC takes up T1, TIME_ECHO the time that it was held. -/
def State.stampHeader (s : State) (port h : Nat) : Nat :=
  let now := s.stampAt (port / 4)
  if !timeCmd h then h
  else if fld h 144 5 = 8 then h - at_ 80 64 (fld h 80 64) + at_ 80 64 now
  else h - at_ 0 16 (fld h 0 16) + at_ 0 16 (now + 2 ^ 64 - fld h 16 64)

-- ---------------------------------------------------------------- what a port sends next (R402, R420)

/-- The first packet that waits and satisfies a test, and the others in order. -/
def takeFirst {α : Type} (t : α → Bool) : List α → Option (α × List α)
  | [] => none
  | x :: xs => if t x then some (x, xs) else (takeFirst t xs).map (fun r => (r.1, x :: r.2))

/-- Whether a waiting packet of a class may begin: a credit for its header flit, not over age, and CTRL, or fabric time
synchronised (R407, R413). -/
def State.mayBegin (s : State) (p : Port) (cls : Nat) (x : TxPacket) : Bool :=
  hClass x.header == cls && decide (0 < p.credit (hSetVc x.header x.vc)) && !s.tooOld x.header && (cls == 0 || s.time.synced)

/-- The flits to come that the next frame of GUARANTEED or BULK takes up: those of the packet being sent, else of the first that may
begin, GUARANTEED first. -/
def State.nextData (s : State) (p : Port) : Option (List VaroaFlit × List TxPacket) :=
  match p.sending with
  | f :: fs => if 0 < p.credit f.hdr then some (f :: fs, p.waiting) else none
  | [] => match takeFirst (s.mayBegin p 1) p.waiting with
    | some r => some (r.1.flits, r.2)
    | none => (takeFirst (s.mayBegin p 2) p.waiting).map (fun r => (r.1.flits, r.2))

/-- The CTRL packet that may begin: one of a single flit may stand between two flits of another packet (R402). -/
def State.nextCtrl (s : State) (p : Port) : Option (TxPacket × List TxPacket) :=
  takeFirst (fun x => s.mayBegin p 0 x && (p.sending.isEmpty || x.lines.isEmpty)) p.waiting

/-- Flits sent use up credits. -/
def Port.spend (p : Port) (fs : List VaroaFlit) : Port :=
  fs.foldl (fun p f => { p with used := SMap.upd 0 p.used (hLane f.hdr) (· + 1) }) p

/-- Send up to four flits of one packet as a frame; the rest of it is still to come. -/
def State.sendFrame (s : State) (port : Nat) (fs : List VaroaFlit) (rest : List TxPacket) (keep : List VaroaFlit) (since : Nat) : State :=
  let p := s.fport port
  let n := min 4 (p.credit (fs.headD {}).hdr)
  let f : VaroaFrame := { seq := p.txSeq, flits := fs.take n, credits := p.owed.take 3 }
  let s1 := s.updPortF port (fun p => { p.spend f.flits with
    sending := fs.drop n ++ keep, waiting := rest, sinceCtrl := since, txSeq := (p.txSeq + 1) % 4096
    owed := p.owed.drop 3, replay := p.replay ++ [f] })
  s1.emitData port f

/-- The flits of a CTRL packet as it leaves. -/
def State.ctrlFlits (s : State) (port : Nat) (x : TxPacket) : List VaroaFlit :=
  ({ x with header := s.stampHeader port x.header } : TxPacket).flits

/-- The next frame of a port. CTRL goes first where none of the last 63 frames carried it, and otherwise only where nothing else can
be sent: the link then carries IDLE frames between, which are not emitted one by one (R420; log entry 76). The replay buffer holds
512 frames (R403). -/
def State.nextFrame (s : State) (port : Nat) : Option State :=
  let p := s.fport port
  if 512 ≤ p.replay.length then none
  else match s.nextCtrl p, s.nextData p with
    | none, none => none
    | some c, d =>
      if 63 ≤ p.sinceCtrl ∨ d.isNone then some (s.sendFrame port (s.ctrlFlits port c.1) c.2 p.sending 0)
      else d.map (fun d => s.sendFrame port d.1 d.2 [] (p.sinceCtrl + 1))
    | none, some d => some (s.sendFrame port d.1 d.2 [] (p.sinceCtrl + 1))

/-- Send frames while any can be sent, at most the given number. -/
def State.pump (s : State) (port : Nat) : Nat → State
  | 0 => s
  | n + 1 => match s.nextFrame port with
    | none => s
    | some t => t.pump port n

/-- A packet is handed to its output port. -/
def State.toPort (s : State) (port : Nat) (x : TxPacket) : State :=
  (s.updPortF port (fun p => { p with waiting := p.waiting ++ [x] })).pump port 512

-- ---------------------------------------------------------------- what a frame carries back (R401 to R403)

/-- ACK: every frame up to it has arrived, where it stands in the replay buffer. -/
def Port.acked (p : Port) (ack : Nat) : Port :=
  match p.replay.findIdx? (fun f => f.seq == ack) with
  | some i => { p with replay := p.replay.drop (i + 1), resends := 0 }
  | none => p

/-- The entries of CREDITS of a header. -/
def creditsOf (h : Nat) : List (Nat × Nat) :=
  ((List.range 3).filter (fun i => bitOf h (16 * i + 15))).map (fun i => (fld h (16 * i + 10) 5, fld h (16 * i) 10))

/-- Credits come back. -/
def Port.credited (p : Port) (cs : List (Nat × Nat)) : Port :=
  cs.foldl (fun p c => { p with used := SMap.upd 0 p.used c.1 (· - c.2) }) p

/-- The router takes a flit of a packet from the input's buffer, and its credit is owed to the far end. -/
def Port.owe (p : Port) (h : Nat) : Port := { p with owed := SMap.upd 0 p.owed (hLane h) (· + 1) }

/-- A flit arrives: a HEAD begins a packet, of which it is the header; a single flit leaves the packet that arrives as it is; the
router takes every flit at once (R402; log entry 76). -/
def Port.arrive (p : Port) (flags data : Nat) : Port :=
  if !bitOf flags 3 then p
  else if bitOf flags 2 then
    let q := p.owe data
    { q with arriving := if bitOf flags 1 then p.arriving else some (data, []) }
  else match p.arriving with
    | none => p
    | some a =>
      let q := p.owe a.1
      { q with arriving := if bitOf flags 1 then none else some (a.1, a.2 ++ [{ data := data, poison := bitOf flags 0 }]) }

/-- The flits of a frame arrive, slot by slot. -/
def Port.arriveAll (p : Port) (h i : Nat) : List Nat → Port
  | [] => p
  | d :: ds => (p.arrive (fld h (48 + 4 * i) 4) d).arriveAll h (i + 1) ds

-- ---------------------------------------------------------------- a link that goes down (R404)

/-- The packets of which a flit stands in the replay buffer or is still to come. -/
def Port.lostPackets (p : Port) : List Nat := (((p.replay.map (·.flits)).flatten ++ p.sending).map (·.hdr)).eraseDups

/-- A port's link layer as it stands when its link comes up. -/
def Port.fresh (p : Port) : Port :=
  { p with
    rxSeq := 0, txSeq := 1, resends := 0, replay := [], waiting := [], sending := [], sinceCtrl := 63, used := [], owed := [], arriving := none }

end Sys2Proof.Machine
end

