-- ==== Sys2Proof/Machine/Fabric.lean ====
section
/-! DEFINITION. The fabric router (chapter The Varoa fabric, R409 to R430): the route of a packet out of this module, endpoints, sending, broadcasts to a partition, and the reports of late transfers. -/

namespace Sys2Proof.Machine

-- ---------------------------------------------------------------- configuration (R405, R410, R411)

def State.topology (s : State) : Nat := s.obj 0x6001 0 0
def State.roleOf (s : State) (p : Nat) : Nat := s.obj 0x6004 0 p

/-- A port that carries traffic. -/
def State.portUp (s : State) (p : Nat) : Bool :=
  s.portPresent p && ((s.fport p).st == .up || (s.fport p).st == .degraded)

/-- The up links of a bundle in ascending port order (R410). -/
def State.bundle (s : State) (role : Nat) : List Nat := (List.range 16).filter (fun p => s.portUp p && s.roleOf p == role)

/-- Size of a torus dimension 0 to 2 (X, Y, Z). -/
def State.dimSize (s : State) (d : Nat) : Nat := max 1 (fld (s.obj 0x6002 0 0) (8 * d) 8)
/-- A coordinate of a device ID. -/
def coord (dev d : Nat) : Nat := fld dev (6 * d) 6
def setCoord (dev d v : Nat) : Nat := dev - at_ (6 * d) 6 (coord dev d) + at_ (6 * d) 6 v

/-- A role and its opposite: 1 and 2 X+ and X−, 3 and 4 Y, 5 and 6 Z. -/
def oppRole (r : Nat) : Nat := if r % 2 = 1 then r + 1 else r - 1

/-- Size of the fabric as configured (R405). -/
def State.fabricSize (s : State) : Nat :=
  if s.topology = 3 then 16 * (fld (s.obj 0x6002 0 0) 0 8)
  else s.dimSize 0 * s.dimSize 1 * (if s.topology = 2 then s.dimSize 2 else 1)

/-- The device through a port of a role (R410, R411). -/
def State.neighbourDev (s : State) (role : Nat) : Nat :=
  let own := s.device
  if s.topology = 3 then
    if role = 0x20 then (own / 16 + own % 16 + 1) % 17 * 16 + (15 - own % 16) else own / 16 * 16 + role % 16
  else
    let d := (role - 1) / 2
    let n := s.dimSize d
    setCoord own d (if role % 2 = 1 then (coord own d + 1) % n else (coord own d + n - 1) % n)

-- ---------------------------------------------------------------- routes (R410 to R412)

/-- Whether the normal route through a bundle is lost: none of its links is up, or the routers still stand on the
fail-over route (R412, R648). -/
def State.bundleLost (s : State) (role : Nat) : Bool :=
  SMap.get false s.fab.failover role || (s.bundle role).isEmpty

/-- A torus route: output port, virtual channel, whether it is a fail-over route. A packet on VC2 or VC3 keeps its way round; on
entering the next dimension it returns to VC2, as R410 has it return to VC0, so that a second failure in any dimension leaves no
route (R412; DEDUCED, log entry 77). -/
def State.torusHop (s : State) (inPort : Option Nat) (h : Nat) : Option (Nat × Nat × Bool) :=
  let own := s.device
  let dst := hDest h
  match (List.range 3).find? (fun d => coord own d != coord dst d) with
  | none => none
  | some d =>
    let n := s.dimSize d
    let x := coord own d
    let fwd := (coord dst d + n - x) % n
    let inRole := match inPort with
      | some p => s.roleOf p
      | none => 0
    let same := inRole == 2 * d + 1 || inRole == 2 * d + 2
    let onFail := inPort.isSome && decide (2 ≤ hVc h)
    let dir := if same && onFail then oppRole inRole else if 2 * fwd ≤ n then 2 * d + 1 else 2 * d + 2
    let crosses (r : Nat) : Bool := if r % 2 = 1 then x + 1 == n else x == 0
    let pick (r : Nat) : Option Nat :=
      let ps := s.bundle r
      ps[(hSrc h ^^^ dst ^^^ hFlow h) % max 1 ps.length]?
    if !s.bundleLost dir then
      let base := if onFail then 2 else 0
      let odd := (same && hVc h % 2 == 1) || crosses dir
      (pick dir).map (fun p => (p, base + b2n odd, base == 2))
    else if onFail then none
    else (pick (oppRole dir)).map (fun p => (p, 2 + b2n (crosses (oppRole dir)), true))

/-- Member of group `g` whose global link leads to group `k` (R411). -/
def exitTo (g k : Nat) : Nat := (k + 17 - g - 1) % 17

/-- Whether a group link between two devices is up: as the fail-over told this router, and its own ports. -/
def State.linkUp (s : State) (a b : Nat) : Bool :=
  !SMap.get false s.fab.failover (2 ^ 40 + min a b * 2 ^ 18 + max a b) &&
    (if a = s.device then !(s.bundle (if a / 16 = b / 16 then 0x10 + b % 16 else 0x20)).isEmpty else true)
def State.legUp (s : State) (a b : Nat) : Bool := a == b || s.linkUp a b

/-- The global link from group `g` to group `k`: its two ends. -/
def globalLink (g k : Nat) : Nat × Nat := (16 * g + exitTo g k, 16 * k + (15 - exitTo g k))

/-- The devices of the normal GROUP route from one device to another, both ends included (R411). -/
def groupRoute (src dst : Nat) : List Nat :=
  let e := globalLink (src / 16) (dst / 16)
  if src / 16 = dst / 16 then [src, dst]
  else (if src = e.1 then [src] else [src, e.1]) ++ (if dst = e.2 then [dst] else [e.2, dst])

/-- Whether a packet that has come in by a port stands on a fail-over route: this device is not where its normal route is after
so many links as its virtual channel says (R411, R412; DEDUCED, log entry 77). -/
def State.groupFailed (s : State) (inPort : Option Nat) (h : Nat) : Bool :=
  inPort.isSome && (groupRoute (hSrc h) (hDest h))[hVc h + 1]? != some s.device

/-- The lowest-numbered group by which a packet at a member of its source's group comes around a global link that is down, all of
whose links are up (R412). -/
def State.groupVia (s : State) (src dst : Nat) : Option Nat :=
  let g := src / 16
  let k := dst / 16
  (List.range 17).find? (fun q =>
    let a := globalLink g q
    let b := globalLink q k
    q != g && q != k && s.legUp src a.1 && s.linkUp a.1 a.2 && s.legUp a.2 b.1 && s.linkUp b.1 b.2 && s.legUp b.2 dst)

/-- Whether a packet on a fail-over route, at a member of its source's group, has gone around its exit's global link: the link from
its source to the exit is up, so that the global link was the failure, or its way around both leads here. Otherwise that global link
is a second failure (R412; DEDUCED, log entry 77). -/
def State.wentAround (s : State) (src dst : Nat) : Bool :=
  let g := src / 16
  s.legUp src (globalLink g (dst / 16)).1 || (s.groupVia src dst).any (fun q => (globalLink g q).1 == s.device)

/-- Next device of a GROUP route and whether it is a fail-over route. A packet that is on one goes on along it, by the global link
of its exit where it is still in its source's group and its own group link was down, and meets no second failure. -/
def State.groupNext (s : State) (onFail : Bool) (src dst : Nat) : Option (Nat × Bool) :=
  let own := s.device
  let g := own / 16
  let k := dst / 16
  let local_ (t : Nat) : Option (Nat × Bool) :=
    if s.linkUp own t then some (t, onFail)
    else if onFail then none
    else ((List.range 16).find? (fun m => 16 * g + m != own && 16 * g + m != t && s.linkUp own (16 * g + m) && s.linkUp (16 * g + m) t)).map
      (fun m => (16 * g + m, true))
  if g = k then local_ dst
  else
    let e := globalLink g k
    if s.linkUp e.1 e.2 then (if own = e.1 then some (e.2, onFail) else local_ e.1)
    else if onFail then
      let far := (globalLink g ((g + own % 16 + 1) % 17)).2
      if g = src / 16 ∧ s.linkUp own far ∧ s.wentAround src dst then some (far, true) else none
    else
      match s.groupVia own dst with
      | none => none
      | some q => let a := globalLink g q; some (if own = a.1 then a.2 else a.1, true)

def State.groupHop (s : State) (inPort : Option Nat) (h : Nat) : Option (Nat × Nat × Bool) :=
  let vc := if inPort.isSome then hVc h + 1 else 0
  match s.groupNext (s.groupFailed inPort h) (hSrc h) (hDest h) with
  | none => none
  | some (t, fo) =>
    if 6 ≤ vc then none
    else ((s.bundle (if t / 16 = s.device / 16 then 0x10 + t % 16 else 0x20)).head?).map (fun p => (p, vc, fo))

/-- The route of a packet out of this module: port, virtual channel, fail-over. -/
def State.route (s : State) (inPort : Option Nat) (h : Nat) : Option (Nat × Nat × Bool) :=
  if hDest h = s.device then none
  else match s.topology with
    | 1 => s.torusHop inPort h
    | 2 => s.torusHop inPort h
    | 3 => s.groupHop inPort h
    | _ => none

-- ---------------------------------------------------------------- endpoints (R416)

def State.endpoint (s : State) (c : Nat) : Nat := SMap.get 0 s.fab.endpoints c
def epArmed (e : Nat) : Bool := bitOf e 63
def epPart (e : Nat) : Nat := fld e 55 4
def epJob (e : Nat) : Nat := fld e 23 16
def epInc (e : Nat) : Nat := fld e 39 8

/-- The armed context of a job and incarnation. -/
def State.endpointOf (s : State) (job inc : Nat) : Option Nat :=
  (List.range 16).find? (fun c => epArmed (s.endpoint c) && epJob (s.endpoint c) == job && epInc (s.endpoint c) == inc)

-- ---------------------------------------------------------------- late transfers (R426, R427)

def State.flow (s : State) (f : Nat) : Flow := SMap.get {} s.fab.flows f
def flowValid (e : Nat) : Bool := bitOf e 127
def flowCtx (e : Nat) : Nat := fld e 123 4
def flowDest (e : Nat) : Nat := fld e 105 18
def flowBound (e : Nat) : Nat := fld e 72 17
def flowBurst (e : Nat) : Nat := fld e 40 24
def flowRate (e : Nat) : Nat := fld e 16 24
def flowSlices (e : Nat) : Nat := fld e 0 5

/-- Report a transfer of this source once: reason 1 DELIVERED_LATE, 2 LOST, 3 UNCONFIRMED; it leaves the transfers
under way. -/
def State.reportLate (s : State) (f seq reason late : Nat) : State :=
  match (s.flow f).transfers.find? (fun t => t.seq == seq && !t.reported) with
  | none => s
  | some t =>
    let e := (s.flow f).entry.toNat
    let c := flowCtx e
    let s1 : State := { s with fab := { s.fab with flows := SMap.upd {} s.fab.flows f (fun x =>
      { x with transfers := x.transfers.filter (fun y => y.seq != seq) }) } }
    ((s1.count 0x80A0 7 c 1).tally c 448 1).postEvent c {
      code := 0x0A, status := .late, submitTag := s1.runTag c
      arg0 := at_ 32 32 seq + at_ 20 12 f + at_ 18 2 reason + at_ 0 18 (flowDest e)
      arg1 := at_ 32 32 t.collId + (if reason = 1 then min late (2 ^ 32 - 1) else 0) }

-- ---------------------------------------------------------------- sending

/-- Send a packet on, or discard it for want of a route (R412): it is handed to its output port. -/
def State.forward (s : State) (inPort : Option Nat) (h : Nat) (data : List Line) : State :=
  match s.route inPort h with
  | none => s.count 0x80A0 6 0 1
  | some (p, vc, fo) => (if fo then s.count 0x80A0 5 0 1 else s).toPort p { inPort := inPort, header := h, vc := vc, lines := data }

/-- CTRL arguments of a LATE_NOTICE: command 0x02, lateness in 33:2, reason in 1:0 (log entry 22). -/
def lateArg (reason late : Nat) : Nat := at_ 144 5 2 + at_ 2 32 (min late (2 ^ 32 - 1)) + at_ 0 2 reason

/-- Tell the source of a GUARANTEED transfer that it was late or lost (R426). -/
def State.sendLate (s : State) (h reason late : Nat) : State :=
  if hSrc h = s.device then s.reportLate (hFlow h) (hSeq h) reason late
  else s.forward none (({
    dest := hSrc h, op := 0xC, cls := 0, job := hJob h, inc := hInc h, flow := hFlow h, seq := hSeq h
    arg := lateArg reason late } : Hdr).bits s.ftc s.device) []

/-- Discard a packet: counted, and a GUARANTEED one is reported LOST (R404, R412, R413, R426). -/
def State.discard (s : State) (h : Nat) : State :=
  let s1 := s.count 0x80A0 6 0 1
  if hClass h = 1 then s1.sendLate h 2 0 else s1

/-- Route a packet, or discard it for its age or for want of a route. -/
def State.routePacket (s : State) (inPort : Option Nat) (h : Nat) (data : List Line) : State :=
  if s.tooOld h ∨ (s.route inPort h).isNone then s.discard h else s.forward inPort h data

/-- Whether this device is the time root (R446). -/
def State.isRoot (s : State) : Bool := s.device == s.obj 0x6041 0 0

/-- Neighbours that may be parents: SYNCED, and not under an alarm. -/
def State.syncPorts (s : State) : List Nat :=
  (List.range 16).filter (fun p => s.portUp p && (s.fport p).nSync && !(s.fport p).alarm)

/-- R447, R449. ROOT_DIST, the parents and HOLDOVER as the neighbours stand. -/
def State.findParents (s : State) : State :=
  if !s.time.synced then s
  else if s.isRoot then { s with time := { s.time with rootDist := 0, parents := 0, holdover := false } }
  else
    let ps := s.syncPorts
    let least := (ps.map (fun p => (s.fport p).nDist)).foldl min 255
    let par := ps.filter (fun p => (s.fport p).nDist == least && least != 255)
    { s with time := { s.time with
        rootDist := if par.isEmpty then s.time.rootDist else least + 1
        parents := maskOf par
        holdover := par.isEmpty } }

/-- Discard the packets that wait at a port and are over age (R413). -/
def State.discardOld (s : State) (port : Nat) : State :=
  let old := (s.fport port).waiting.filter (fun x => s.tooOld x.header)
  old.foldl (fun s x => s.discard x.header)
    (s.updPortF port (fun p => { p with waiting := p.waiting.filter (fun x => !s.tooOld x.header) }))

/-- A packet of this module that has no BIRTH_FTC yet is admitted now (R413, R415). -/
def State.admit1 (s : State) (h : Nat) (data : List Line) : State := s.routePacket none (h % 2 ^ 448 + at_ 448 64 s.ftc) data

/-- Send a packet of this module: one that is not CTRL waits until fabric time is synchronised (R407, R415). -/
def State.fabSend (s : State) (x : Hdr) (data : List Line) : State :=
  if x.cls ≠ 0 ∧ !s.time.synced then { s with fab := { s.fab with unsent := s.fab.unsent ++ [(x.bits 0 s.device, data)] } }
  else s.admit1 (x.bits 0 s.device) data

/-- Fabric time is synchronised: the packets that waited for it are admitted in order (R407). -/
def State.admitUnsent (s : State) : State :=
  s.fab.unsent.foldl (fun s x => s.admit1 x.1 x.2) { s with fab := { s.fab with unsent := [] } }

/-- Drop what the engines of a context, or one operation of it, have not yet handed to the router (R373, R438). -/
def State.dropUnsent (s : State) (t : Nat → Bool) : State :=
  { s with fab := { s.fab with
      unsent := s.fab.unsent.filter (fun x => !t x.1)
      flows := s.fab.flows.map (fun e => (e.1, { e.2 with waiting := e.2.waiting.filter (fun x => !t x.1) })) } }

-- ---------------------------------------------------------------- partitions and broadcasts (R428, R429)

def State.partition (s : State) (i : Nat) : Nat := SMap.get 0 s.fab.partitions i
def partValid (e : Nat) : Bool := bitOf e 127
def partGroup (e : Nat) : Bool := bitOf e 126
def partId (e : Nat) : Nat := fld e 110 16
def partFirst (e d : Nat) : Nat := fld e (12 * d) 6
def partLast (e d : Nat) : Nat := fld e (12 * d + 6) 6
def partGroups (e : Nat) : Nat := fld e 16 17
def partMembers (e : Nat) : Nat := fld e 0 16

def popcount (n w : Nat) : Nat := ((List.range w).filter (fun i => n.testBit i)).length

/-- Extent of a torus partition in a dimension. -/
def State.partExtent (s : State) (e d : Nat) : Nat :=
  let n := s.dimSize d
  (partLast e d + n - partFirst e d % n) % n + 1

/-- Number of members of a partition. -/
def State.partSize (s : State) (e : Nat) : Nat :=
  if partGroup e then popcount (partGroups e) 17 * popcount (partMembers e) 16
  else s.partExtent e 0 * s.partExtent e 1 * s.partExtent e 2

/-- Whether a device is a member of a partition. -/
def State.inPartition (s : State) (e dev : Nat) : Bool :=
  if partGroup e then (partGroups e).testBit (dev / 16) && (partMembers e).testBit (dev % 16)
  else (List.range 3).all (fun d =>
    let n := s.dimSize d
    decide ((coord dev d + n - partFirst e d % n) % n < s.partExtent e d))

/-- The valid partition entry with a PART_ID. -/
def State.partOf (s : State) (pid : Nat) : Option Nat :=
  ((List.range 16).map s.partition).find? (fun e => partValid e && partId e == pid)

/-- Coordinates in one dimension to which a device at `x` sends a broadcast that began at `o` (R429). -/
def State.bcastDim (s : State) (e d o x : Nat) : List Nat :=
  let n := s.dimSize d
  let ext := s.partExtent e d
  if ext = n then
    let p := n / 2
    let r := (x + n - o) % n
    (if r < p then [(x + 1) % n] else []) ++
      (if (r = 0 ∧ p + 1 < n) ∨ p + 1 < r then [(x + n - 1) % n] else [])
  else
    let f := partFirst e d % n
    let r := (x + n - f) % n
    let ro := (o + n - f) % n
    (if ro ≤ r ∧ r + 1 < ext then [(x + 1) % n] else []) ++ (if r ≤ ro ∧ 1 ≤ r then [(x + n - 1) % n] else [])

/-- Devices to which this one sends on a broadcast of a partition that began at `origin`. -/
def State.bcastTo (s : State) (e origin : Nat) : List Nat :=
  let own := s.device
  if partGroup e then
    let g := own / 16
    let og := origin / 16
    let mates := ((List.range 16).map (fun m => 16 * g + m)).filter (fun d => d != own)
    let far := (g + own % 16 + 1) % 17
    if g = og then
      (if own = origin then mates else [])
        ++ (if far ≠ og ∧ (partGroups e).testBit far then [16 * far + (15 - own % 16)] else [])
    else if own = (globalLink og g).2 then mates else []
  else
    let along (d : Nat) : List Nat := (s.bcastDim e d (coord origin d) (coord own d)).map (setCoord own d)
    let zEq := coord own 2 == coord origin 2
    let yEq := coord own 1 == coord origin 1
    (if zEq && yEq then along 0 else []) ++ (if zEq then along 1 else []) ++ along 2

/-- Send on a broadcast (R429). -/
def State.broadcast (s : State) (e origin : Nat) (x : Hdr) : State :=
  (s.bcastTo e origin).foldl (fun s d => s.fabSend { x with dest := d } []) s

/-- KIND and EXTENT of a partition, by which a broadcast finds its way: a member relays it whether or not its own table holds the
partition (R429; log entry 22). -/
def partWay (e : Nat) : Nat := at_ 36 1 (b2n (partGroup e)) + fld e 0 36
/-- The partition that a broadcast's KIND and EXTENT describe. -/
def wayPart (w : Nat) : Nat := at_ 126 2 (2 + b2n (bitOf w 36)) + fld w 0 36

/-- CTRL arguments of a COLL_ABORT: command 0x01, KIND and EXTENT in 122:86, the fabric time of the abort in 85:22, the aborting
device in 21:4, the cause in 3:0 (log entry 22). -/
def abortArg (part cause device time : Nat) : Nat :=
  at_ 144 5 1 + at_ 86 37 (partWay part) + at_ 22 64 time + at_ 4 18 device + at_ 0 4 cause

/-- Tell the partition of a context's endpoint that a collective has ended: cause 0 reset, 1 timeout, 2 anchor,
3 late (R438). -/
def State.broadcastAbort (s : State) (c collId cause : Nat) : State :=
  let e := s.endpoint c
  if !epArmed e then s
  else s.broadcast (s.partition (epPart e)) s.device {
    dest := 0, op := 0xC, cls := 0, job := epJob e, inc := epInc e, tag := collId
    arg := abortArg (s.partition (epPart e)) cause s.device s.ftc }

end Sys2Proof.Machine
end

