-- ==== Sys2Proof/Machine/Sequencer.lean ====
section
/-! DEFINITION. The graph sequencer (chapter The graph sequencer): the graph descriptor, the checks of a graph
and of a node, readiness, card loads, completion, the ends of a graph and the step ledger's record. -/

namespace Sys2Proof.Machine

-- ---------------------------------------------------------------- the graph descriptor (R324 to R330)

def ghState (h : Nat) : Nat := fld h 466 46
def ghSection (h : Nat) : Nat := fld h 420 46
def ghTensor (h : Nat) : Nat := fld h 374 46
def ghEdge (h : Nat) : Nat := fld h 328 46
def ghNode (h : Nat) : Nat := fld h 282 46
def ghEdges (h : Nat) : Nat := fld h 224 32
def ghNodes (h : Nat) : Nat := fld h 200 24
def ghTensors (h : Nat) : Nat := fld h 180 20
def ghSections (h : Nat) : Nat := fld h 164 16
def ghTag (h : Nat) : Nat := fld h 144 16
def ghCrc (h : Nat) : Nat := fld h 96 32
def ghPostAll (h : Nat) : Bool := bitOf h 25
def ghGated (h : Nat) : Bool := bitOf h 24

def neWork (e : Nat) : Nat := fld e 210 46
def neEdgeFirst (e : Nat) : Nat := fld e 160 32
def neEdgeCount (e : Nat) : Nat := fld e 144 16
def neSection (e : Nat) : Nat := fld e 128 16
def neTag (e : Nat) : Nat := fld e 112 16
def neTiles (e : Nat) : Nat := fld e 103 9
def neDie (e : Nat) : Nat := fld e 99 1
def nePreload (e : Nat) : Bool := bitOf e 98
def nePost (e : Nat) : Bool := bitOf e 97
def neKind (e : Nat) : Nat := fld e 0 4

def seSection (e : Nat) : Nat := fld e 112 16
def seTiles (e d : Nat) : Nat := fld e (94 + 9 * d) 9
def seSwitch (e d : Nat) : Nat := fld e (76 + 9 * d) 9
def seEpoch (e : Nat) : Nat := fld e 74 2
def seCut (e : Nat) : Bool := bitOf e 73
def seGated (e : Nat) : Bool := bitOf e 72

/-- Bytes of one bitmap of the state area (R330). -/
def bitmapBytes (n : Nat) : Nat := (n + 511) / 512 * 64

-- ---------------------------------------------------------------- the running graph

def State.updGraph (s : State) (c : Nat) (f : Graph → Graph) : State :=
  s.updCtx c (fun x => { x with graph := x.graph.map f })

def Graph.sect (g : Graph) (k : Nat) : Nat := (g.sections.getD k 0).toNat
def Graph.node? (g : Graph) (i : Nat) : Option Node := g.nodes.find? (fun n => n.idx == i)

/-- The next section of a die: the first one after the current one that has tiles there (R322, R339). -/
def Graph.nextSect (g : Graph) (die : Nat) : Option Nat :=
  (List.range g.sections.length).find? (fun k => decide (SMap.get 0 g.curSect die ≤ k) && seTiles (g.sect k) die != 0)

/-- Nodes in flight (R338). -/
def Node.inFlight (n : Node) : Bool := n.st != .resident

/-- Whether a die's sequencer sees every predecessor complete (R337). -/
def Graph.ready (g : Graph) (n : Node) : Bool := n.preds.all (fun p => SMap.get false g.noticed (2 * p + n.die))

/-- Nodes on a die of graphs that have ended, whose completion entries still wait: they stay resident and in flight (R335, R338, R347). -/
def Ctx.pastOn (x : Ctx) (die : Nat) : Nat := (x.cqWait.filter (fun w => w.past && w.node.map (·.1) == some die)).length

/-- A context's nodes on a die, resident or in flight. -/
def Ctx.nodesOn (x : Ctx) (die : Nat) (flight : Bool) : Nat :=
  x.pastOn die + (match x.graph with
    | some g => (g.nodes.filter (fun n => n.die == die && (!flight || n.inFlight))).length
    | none => 0)

/-- Nodes resident and in flight on a die, all contexts (R344). -/
def State.nodesOn (s : State) (die : Nat) (flight : Bool) : Nat := ((List.range 16).map (fun c => (s.ctx c).nodesOn die flight)).sum

/-- Room for one more node in flight (R338). -/
def State.flightRoom (s : State) (c die : Nat) : Bool :=
  decide ((s.ctx c).nodesOn die true < (s.ctx c).inflightQuota) && decide (s.nodesOn die true < 4096)

-- ---------------------------------------------------------------- gates (R452 to R454)

/-- Number of a graph's gate within the graph: key 0 the graph's own, 1 + k section k. -/
def Graph.gateIndex (g : Graph) (key : Nat) : Nat :=
  if key = 0 then 0
  else b2n (ghGated g.header.toNat) + ((List.range (key - 1)).filter (fun k => seGated (g.sect k))).length

def Graph.gateCount (g : Graph) : Nat := g.gateIndex (g.sections.length + 1)
def Graph.isGate (g : Graph) (key : Nat) : Bool := if key = 0 then ghGated g.header.toNat else seGated (g.sect (key - 1))

/-- Launch value of a gate. -/
def State.launchValue (s : State) (c : Nat) (g : Graph) (key : Nat) : Nat :=
  ((s.ctx c).launchAt.toNat + (g.gateBase + g.gateIndex key) * (s.ctx c).stepNs.toNat) % 2 ^ 64

def Graph.gateOpen (g : Graph) (key die : Nat) : Bool := !g.isGate key || SMap.get false g.gatesOpen (2 * key + die)

/-- Note that a die's sequencer has reached the gate of its next section. -/
def State.reachGate (s : State) (c die : Nat) : State :=
  s.updGraph c (fun g => match g.nextSect die with
    | some k => if SMap.get 0 g.gateReached (2 * (k + 1) + die) = 0 then { g with gateReached := SMap.set 0 g.gateReached (2 * (k + 1) + die) (s.ftc + 1) } else g
    | none => g)

-- ---------------------------------------------------------------- the checks of a graph (R334)

/-- Whether a table of `n` entries of `size` bytes lies in a window that grants the bits. -/
def State.tableOk (s : State) (c a n size : Nat) (need : List Nat) : Bool := n == 0 || s.inWindow c a (n * size) need

/-- A tensor's place (check 6). -/
def State.tensorOk (s : State) (c e : Nat) : Bool :=
  let a := fld e 82 46
  let n := fld e 24 40
  let need := (if bitOf e 0 then [0] else []) ++ (if bitOf e 1 then [1] else [])
  s.inWindow c a n need || (match place a with
    | .tileWin d t off => s.present a n && decide (off + n ≤ 0x180000) && s.ownsBanks c d t off n
    | _ => false)

/-- A section entry (check 7), `prev` the entries before it. -/
def State.sectionBad (s : State) (e : Nat) (prev : List Nat) : Bool :=
  fld e 0 72 != 0 || prev.any (fun p => seSection p == seSection e)
  || (List.range 2).any (fun d => (!s.diePresent d && (seTiles e d != 0 || seSwitch e d != 0))
    || decide (seSwitch e d < seTiles e d) || decide (288 < seSwitch e d))
  || (match prev.getLast? with
    | some p => seEpoch e != (seEpoch p + 1) % 4
    | none => false)

def headerBad (h : Nat) (bytes : List Nat) : Bool :=
  fld h 0 16 != 0x5E9C || fld h 16 8 != 1 || fld h 26 70 != 0 || fld h 128 16 != 0 || fld h 160 4 != 0 || fld h 256 26 != 0
  || ghNodes h == 0 || decide (16777214 < ghNodes h)
  || ghCrc h != crc32 (bytes.take 12 ++ [0, 0, 0, 0] ++ bytes.drop 16)
  || ghNode h % 64 != 0 || ghEdge h % 64 != 0 || ghTensor h % 64 != 0 || ghSection h % 64 != 0 || ghState h % 64 != 0

/-- First entry of a table that fails: its status and address. -/
def firstBad (n : Nat) (addr : Nat → Nat) (bad : Nat → Option Status) : Option (Status × Nat) :=
  ((List.range n).filterMap (fun i => (bad i).map (fun st => (st, addr i)))).head?

/-- The checks of R334 on the graph at an address: the first failure with its address, or the header and sections. -/
def State.graphCheck (s : State) (c a : Nat) : Sum (Status × Nat) (Nat × List (BitVec 128)) :=
  if !s.inWindow c a 64 [0] then .inl (.window, a)
  else
    let r := s.memRead a 64
    let h := leVal r.1
    if r.2 then .inl (.poison, a)
    else if headerBad h r.1 then .inl (.badGraph, a)
    else if !s.tableOk c (ghNode h) (ghNodes h) 32 [0] then .inl (.window, ghNode h)
    else if !s.tableOk c (ghEdge h) (ghEdges h) 4 [0] then .inl (.window, ghEdge h)
    else if !s.tableOk c (ghTensor h) (ghTensors h) 16 [0] then .inl (.window, ghTensor h)
    else if !s.tableOk c (ghSection h) (ghSections h) 16 [0] then .inl (.window, ghSection h)
    else if !s.inWindow c (ghState h) (2 * bitmapBytes (ghNodes h)) [0, 1] then .inl (.window, ghState h)
    else
      let tAddr (i : Nat) : Nat := ghTensor h + 16 * i
      let sAddr (i : Nat) : Nat := ghSection h + 16 * i
      match firstBad (ghTensors h) tAddr (fun i =>
          let x := s.memRead (tAddr i) 16
          let e := leVal x.1
          if x.2 then some .poison else if fld e 64 18 != 0 || fld e 2 22 != 0 || fld e 24 40 == 0 then some .badGraph else none) with
      | some f => .inl f
      | none =>
      match firstBad (ghTensors h) tAddr (fun i => if s.tensorOk c (s.memNat (tAddr i) 16) then none else some .window) with
      | some f => .inl f
      | none =>
      let es := (List.range (ghSections h)).map (fun i => s.memNat (sAddr i) 16)
      match firstBad (ghSections h) sAddr (fun i =>
          if (s.memRead (sAddr i) 16).2 then some .poison
          else if s.sectionBad (es.getD i 0) (es.take i) then some .badGraph else none) with
      | some f => .inl f
      | none => .inr (h, es.map (BitVec.ofNat 128))

-- ---------------------------------------------------------------- the step ledger (R462, R463)

/-- Discard or write a ledger record, numbering it. -/
def State.ledgerWrite (s : State) (c rec_ : Nat) : State :=
  match s.ringRoom c .ledger with
  | .disabled => s
  | r =>
    let s1 := s.updCtx c (fun x => { x with ledgerSeq := x.ledgerSeq + 1 })
    if r = .room then s1.ringWrite c .ledger (rec_ + at_ 224 32 (s1.ctx c).ledgerSeq) true
    else s1.count 0x80B0 4 c 1

def clamp32 (n : Nat) : Nat := min n (2 ^ 32 - 1)

/-- The record of a graph that ends now, without STEP_SEQ and PHASE. -/
def State.ledgerRecord (s : State) (c : Nat) (g : Graph) (st : Status) : Nat :=
  let cnt (k : Nat) : Nat := SMap.get 0 g.tally k
  let keys := [592, 576, 560, 544, 528, 512, 496, 480, 464, 448]
  let now := s.ftc
  let dEnd (d : Nat) : Nat := SMap.get 0 g.dEnd d
  let cards := g.cardsNs + (if g.cardsSince = 0 then 0 else now + 1 - g.cardsSince)
  at_ 960 64 now + at_ 896 64 g.ftcGate + at_ 832 64 g.ftcStart + at_ 768 64 g.ftcDoorbell
  + at_ 736 32 (clamp32 (s.counter 0x80B0 1 c - g.ndcOrder0))
  + at_ 704 32 (clamp32 (s.counter 0x80B0 2 c + s.counter 0x80B0 3 0 - g.ndcTiming0))
  + at_ 672 32 (clamp32 g.gateLate) + at_ 640 32 (clamp32 g.collNs) + at_ 608 32 (clamp32 cards)
  + (keys.map (fun k => at_ k 16 (min (cnt k) 0xFFFF))).sum
  + at_ 416 32 (clamp32 (dEnd 0)) + at_ 384 32 (clamp32 (dEnd 1)) + at_ 352 32 (clamp32 g.slowNs)
  + at_ 328 24 g.slowNode + at_ 296 24 g.lastNode + at_ 287 9 g.lastTile + at_ 286 1 g.lastDie
  + at_ 208 16 g.tag + at_ 192 16 (ghTag g.header.toNat) + at_ 184 8 st.code
  + at_ 7 1 (b2n (g.gateCount != 0)) + at_ 6 1 (b2n (keys.any (fun k => decide (0xFFFF < cnt k)))) + at_ 5 1 (b2n g.rehearsal)

-- ---------------------------------------------------------------- starting and ending graphs (R332, R334, R342)

/-- What a doorbell latches (R107, R465, R483). -/
def State.latch (s : State) (c : Nat) : Latched :=
  let n := (s.ctx c).numeric
  { flush := n.getLsbD 0, strict := n.getLsbD 1, level := s.obj 0x3011 1 c, contain := s.obj 0x3014 0 c }

/-- Start the next queued graph of an ACTIVE context, if none is running (R334, R358). Its quotas are those in force now (R357). -/
def State.startGraph (s : State) (c : Nat) : State :=
  let x := s.ctx c
  match x.graph, x.subs with
  | none, b :: rest =>
    if x.st ≠ .active then s else
    s.updCtx c (fun x => { x with
      subs := rest, residentQuota := s.obj 0x5024 1 c, inflightQuota := s.obj 0x5024 2 c
      stillMs := 0, stuckPosted := 0, hangSaid := false
      graph := some { tag := b.tag, addr := b.addr, latched := b.latched, ftcDoorbell := b.ftc, ftcStart := s.ftc
                      ndcOrder0 := s.counter 0x80B0 1 c, ndcTiming0 := s.counter 0x80B0 2 c + s.counter 0x80B0 3 0 } })
  | _, _ => s

/-- Assign a replay tile on its die to each tile of a context's grant; a site serves at most 16 tiles (R478). -/
def State.assignReplay (s : State) (c : Nat) : State :=
  (List.range s.factory.computeDies).foldl (fun s d =>
    let may := fixedOrder.filter (s.mayReplay d)
    ((List.range 288).filter ((s.ctx c).granted d)).foldl (fun s t =>
      let m := SMap.set 0 s.cur.replayOf (tkey d t) 0
      let free := may.filter (fun x => decide ((m.filter (fun e => e.1 / 288 == d && e.2 == x + 1)).length < 16))
      let k := if free.isEmpty then 0 else 1 + free.getD (Config.replayPick d t s.free % free.length) 0
      { s with cur := { s.cur with replayOf := SMap.set 0 m (tkey d t) k } }) s) s

/-- A completion entry without PHASE (R346). -/
structure CqEntry where
  tag : Nat
  nodeTag : Nat
  node : Nat
  status : Status
  detail : Nat := 0
  die : Nat := 0
  tile : Nat := 0
  graphDone : Bool := false
  flags : Nat := 0
  runNs : Nat := 0
  deriving DecidableEq, Repr

/-- `flags` holds POISON_OUT to DIP as bits 4 to 0. -/
def CqEntry.bits (e : CqEntry) (ftc : Nat) : Nat :=
  at_ 192 64 ftc + at_ 176 16 e.tag + at_ 160 16 e.nodeTag + at_ 136 24 e.node + at_ 128 8 e.status.code
  + at_ 104 24 e.detail + at_ 103 1 e.die + at_ 94 9 e.tile + at_ 93 1 (b2n e.graphDone) + at_ 88 5 e.flags
  + at_ 32 32 (clamp32 e.runNs)

/-- End the running graph: its GRAPH_DONE entry, then its ledger record, and the next graph starts. -/
def State.graphDone (s : State) (c : Nat) (st : Status) : State :=
  match (s.ctx c).graph with
  | none => s
  | some g =>
    let e : CqEntry := {
      tag := g.tag, nodeTag := ghTag g.header.toNat, node := 0xFFFFFF, status := st, detail := g.failDetail
      die := g.failDie, tile := g.failTile, graphDone := true, runNs := s.ftc - g.ftcStart }
    let r := s.postCompletion c (e.bits s.ftc) none
    let lr := s.ledgerRecord c g st
    let s1 := if r.2 then r.1.ledgerWrite c lr
      else r.1.updCtx c (fun x => { x with
        cqWait := x.cqWait.dropLast ++ (x.cqWait.getLast?.map (fun w => { w with ledger := lr })).toList })
    ((s1.updCtx c (fun x => { x with
      graph := none, lastStatus := st, latched := g.latched, cqWait := x.cqWait.map (fun w => { w with past := true }) })).count 0x8080 1 c 1).startGraph c

-- ---------------------------------------------------------------- failures and completions (R341, R343)

/-- Note a failure: the first one gives GRAPH_DONE its status. -/
def State.noteFail (s : State) (c : Nat) (st : Status) (detail die tile : Nat) : State :=
  (s.updGraph c (fun g => if g.failed then g else { g with
    failed := true, failStatus := st, failDetail := detail, failDie := die, failTile := tile })).count 0x8080 3 c 1

/-- Post a GRAPH_FAIL or LOAD_FAIL event. -/
def State.failEvent (s : State) (c code : Nat) (st : Status) (addr node nodeTag die tile slot : Nat) : State :=
  s.postEvent c {
    code := code, status := st, arg0 := addr, submitTag := s.runTag c, nodeTag := nodeTag, node := node
    die := die, tile := tile, slot := slot }

/-- Set a bit of a bitmap of the state area (R330); from the selvedge on the context's memory is left alone (R358, R373). -/
def State.setStateBit (s : State) (c i : Nat) (released : Bool) : State :=
  match (s.ctx c).graph with
  | none => s
  | some g =>
    if !(s.ctx c).st.running then s else
    let h := g.header.toNat
    let a := ghState h + (if released then bitmapBytes (ghNodes h) else 0) + i / 8
    (s.reachFor c a 1 true).memWrite a [(s.memByte a) ||| 2 ^ (i % 8)] false

/-- Time during which any CARDS node is in flight (R463): call after the set of nodes has changed. -/
def State.cardsClock (s : State) (c : Nat) : State :=
  s.updGraph c (fun g =>
    let on := g.nodes.any (fun n => n.kind == 1 && n.inFlight)
    if on ∧ g.cardsSince = 0 then { g with cardsSince := s.ftc + 1 }
    else if !on ∧ g.cardsSince ≠ 0 then { g with cardsNs := g.cardsNs + (s.ftc + 1 - g.cardsSince), cardsSince := 0 }
    else g)

/-- A completed node leaves residence. -/
def State.dropNode (s : State) (c i : Nat) : State :=
  s.updGraph c (fun g => { g with nodes := g.nodes.filter (fun m => m.idx != i) })

/-- Post a node's completion entry: the node stays in flight until it is written (R347). -/
def State.postNode (s : State) (c die i entry : Nat) : State :=
  let r := s.postCompletion c entry (some (die, i))
  if r.2 then r.1.dropNode c i else r.1.updNode c i (fun n => { n with st := .posting })

/-- A node completes with a status (R341): DONE, counts, the first failure, and its completion entry, which for a node of die 1
is posted once die 0's sequencer has learned of the completion (R347). -/
def State.completeNode (s : State) (c i : Nat) (st : Status) (detail tile : Nat) : State :=
  match (s.ctx c).graph with
  | none => s
  | some g =>
    match g.node? i with
    | none => s
    | some n =>
      let run := s.ftc - n.ftcLaunch
      let s1 := ((s.setStateBit c i false).count 0x8080 2 c 1).updCtx c (fun x => { x with moved := true })
      let s2 := if st = .ok then s1 else s1.noteFail c st detail n.die tile
      let s3 := s2.updGraph c (fun g => { g with
        done := SMap.set false g.done i true
        noticed := SMap.set false g.noticed (2 * i + n.die) true
        nodesDone := g.nodesDone + 1
        dEnd := SMap.set 0 g.dEnd n.die (s.ftc - g.ftcStart)
        lastNode := i, lastTile := n.lastTile, lastDie := n.die
        collNs := if n.kind = 2 then g.collNs + run else g.collNs
        slowNs := if n.kind = 1 ∧ g.slowNs < run then run else g.slowNs
        slowNode := if n.kind = 1 ∧ g.slowNs < run then i else g.slowNode })
      let s4 :=
        if n.post || ghPostAll g.header.toNat then
          let e : CqEntry := {
            tag := g.tag, nodeTag := n.tag, node := i, status := st, detail := detail
            die := if st = .ok then 0 else n.die, tile := if st = .ok then 0 else tile
            flags := 16 * b2n n.poisonOut + 8 * b2n n.reexec + 4 * b2n n.relieved + 2 * b2n n.replaced + b2n n.dip
            runNs := run }
          if n.die = 0 then s3.postNode c 0 i (e.bits s.ftc)
          else (s3.updNode c i (fun n => { n with st := .posting })).updGraph c (fun g => { g with
            untold := g.untold ++ [{ entry := e.bits s.ftc, node := some (n.die, i) }] })
        else s3.dropNode c i
      s4.cardsClock c

-- ---------------------------------------------------------------- card loads (R300, R339, R341)

/-- Release the LOADED cards of a node that failed (R341). -/
def State.releaseCards (s : State) (c : Nat) (n : Node) : State :=
  n.slots.foldl (fun s e =>
    let sl := (s.tile n.die e.1).slot (e.2 - 1)
    if sl.st = .loaded ∧ sl.ctx = c ∧ sl.node = n.idx then s.releaseSlot n.die e.1 (e.2 - 1) else s) s

/-- A load that ends with a status other than OK: the event (R300), and the node completes with it, unless it has completed before;
the node's LOADED cards are released. -/
def State.loadFailed (s : State) (c node die tile slot image : Nat) (st : Status) : State :=
  let s2 := (s.count 0x8070 3 c 1).failEvent c 0x02 st image node (s.nodeTag c node) die tile slot
  match (s.ctx c).graph with
  | none => s2
  | some g =>
    match g.node? node with
    | none => s2
    | some n =>
      if n.st = .posting then s2.releaseCards c n else (s2.releaseCards c n).completeNode c node st 0 tile

/-- Request the load of one card of a node (R339): the slot becomes LOADING, the load waits, or it ends at once. -/
def State.tryLoad (s : State) (c node die tile image : Nat) : State :=
  match (s.ctx c).graph with
  | none => s
  | some g =>
    match g.node? node with
    | none => s
    | some n =>
      if g.failed ∨ SMap.get 0 n.slots tile ≠ 0 then s
      else if (s.siteOf die tile).isNone then s.loadFailed c node die tile 0 image .retired
      else if !(s.ctx c).granted die tile ∨ (s.ctx c).slotMask = 0 then s.loadFailed c node die tile 0 image .window
      else
        let t := s.tile die tile
        match (List.range 4).find? (fun k => (s.ctx c).slotMask.testBit k && (t.slot k).st == .empty) with
        | none => s
        | some k =>
          if t.underTest || t.stopped then s
          else
            (s.updTile die tile (fun t => t.updSlot k (fun _ => ({
              st := .loading, ctx := c, gen := (s.ctx c).gen.toNat, image := image, node := node } : Slot)))).updNode c node (fun n => { n with
              slots := SMap.set 0 n.slots tile (k + 1)
              st := .inFlight
              ftcLaunch := if n.st = .resident then s.ftc else n.ftcLaunch })

/-- Make the load requests that R339 allows on a die: launched nodes, and PRELOAD nodes as the quota allows, of the
next section. -/
def State.requestLoads (s : State) (c die : Nat) : State :=
  match (s.ctx c).graph with
  | none => s
  | some g =>
    if !(s.ctx c).st.running ∨ !g.checked ∨ g.failed ∨ SMap.get 0 g.switching die ≠ 0 then s
    else
      match g.nextSect die with
      | none => s
      | some k =>
        let ns := g.nodes.filter (fun n => n.die == die && n.kind == 1 && n.sect == k && (n.launched || n.preload))
        (ns.foldl (fun s n =>
          let free : Bool := match (s.ctx c).graph with
            | some _ => n.launched || n.inFlight || s.flightRoom c die
            | none => false
          if free = true then n.cards.foldl (fun s e => s.tryLoad c n.idx die e.1 e.2) s else s) s).cardsClock c

end Sys2Proof.Machine
end

