-- ==== Sys2Proof/Machine/SeqEvents.lean ====
section
/-! DEFINITION. The events of the graph sequencer and of the switch unit (chapters Pattern cards and sections and
The graph sequencer, R300, R307 to R315, R319, R331 to R347, R452 to R454): submission, reading and launching nodes,
loads, switches, gates, completions and the ends of graphs. -/

namespace Sys2Proof.Machine

-- ---------------------------------------------------------------- submission (R332, R334)

/-- Refuse a doorbell write. -/
def State.refuseSubmit (s : State) (c value : Nat) (st : Status) : State :=
  ((s.updCtx c (fun x => { x with submitRefused := true })).count 0x8080 4 c 1).postEvent c {
    code := 0x0D, status := st, arg0 := value, submitTag := fld value 48 16 }

/-- A write of SEQ_DOORBELL. -/
def State.doorbell (s : State) (ctx value : Nat) : State :=
  let x := s.ctx ctx
  if x.st ≠ .active then s.refuseSubmit ctx value .fenced
  else if fld value 46 2 ≠ 0 ∨ fld value 0 6 ≠ 0 then s.refuseSubmit ctx value .badGraph
  else if 8 ≤ x.subs.length then s.refuseSubmit ctx value .ok
  else
    let l := s.latch ctx
    let b : Submission := { tag := fld value 48 16, addr := fld value 6 40 * 64, latched := l, ftc := s.ftc }
    (s.updCtx ctx (fun x => { x with subs := x.subs ++ [b], latched := l })).startGraph ctx

/-- R334. Die 0's sequencer finishes checking the graph and zeroing its state area. -/
def execGraphChecked (ctx : Nat) (s : State) : Out :=
  match (s.ctx ctx).graph with
  | none => .next s
  | some g =>
    if g.checked ∨ !(s.ctx ctx).st.running then .next s
    else
    let w := (s.reachFor ctx g.addr 64 false).tryWeft
    let s := w.2
    let g := ((s.ctx ctx).graph).getD g
    let hdr := if w.1 || !s.inWindow ctx g.addr 64 [0] || (s.memRead g.addr 64).2 then 0 else s.memNat g.addr 64
    match (if w.1 then .inl (.poison, g.addr) else s.graphCheck ctx g.addr) with
      | .inl (st, a) =>
        .next ((((s.updGraph ctx (fun g => { g with failed := true, failStatus := st, header := BitVec.ofNat 512 hdr })).failEvent ctx 0x03 st a 0xFFFFFF 0 0 0 0)).graphDone ctx st)
      | .inr (h, ss) =>
        let g1 : Graph := { g with header := BitVec.ofNat 512 h, sections := ss, checked := true, gateBase := (s.ctx ctx).gateNext }
        let s1 := ((s.reachFor ctx (ghState h) (2 * bitmapBytes (ghNodes h)) true).zeroOut (ghState h) (2 * bitmapBytes (ghNodes h))).updCtx ctx (fun x => { x with
          graph := some (if ghGated h then { g1 with gateReached := SMap.ofList 0 0 [s.ftc + 1, s.ftc + 1] } else g1)
          gateNext := x.gateNext + g1.gateCount })
        let s2 := if g.latched.level = 3 then s1.assignReplay ctx else s1
        .next ((s2.reachGate ctx 0).reachGate ctx 1)

-- ---------------------------------------------------------------- reading the node table (R335)

/-- The entries of a node's edge list. -/
def State.edgesOf (s : State) (h e : Nat) : List Nat :=
  (List.range (neEdgeCount e)).map (fun i => s.memNat (ghEdge h + 4 * (neEdgeFirst e + i)) 4)

/-- Predecessors that an edge list names (R327). -/
def edgePreds (es : List Nat) : List Nat := (es.filter (fun x => fld x 30 2 == 0)).map (fun x => fld x 0 24)

/-- An edge entry that names a predecessor at or above its own node, a tensor that does not exist, or (DEDUCED, log entry 61) the
reserved KIND; reserved bits are ignored (R13). -/
def edgeBad (h i x : Nat) : Bool :=
  (match fld x 30 2 with
    | 0 => decide (i ≤ fld x 0 24)
    | 3 => true
    | _ => decide (ghTensors h ≤ fld x 0 24))

/-- Whether an entry of the node table fails R335. -/
def State.nodeBad (s : State) (h i e : Nat) : Bool :=
  decide (3 < neKind e) || fld e 192 18 != 0 || fld e 100 3 != 0 || fld e 4 93 != 0 || !s.diePresent (neDie e)
  || (neEdgeCount e != 0 && decide (ghEdges h < neEdgeFirst e + neEdgeCount e))
  || (s.edgesOf h e).any (edgeBad h i)
  || (if neKind e = 1 then decide (ghSections h ≤ neSection e) || neTiles e == 0 || decide (288 < neTiles e)
      else neSection e != 0xFFFF || neTiles e != 0)
  || (neKind e != 1 && neKind e != 2 && neWork e != 0)

/-- The card list of a CARDS node, or the status with which it fails. -/
def State.cardList (s : State) (c e : Nat) : Sum Status (List (Nat × Nat)) :=
  let a := neWork e
  let n := neTiles e * 8
  if !s.inWindow c a n [0] then .inl .window
  else if (s.memRead a n).2 then .inl .poison
  else
    let ws := (List.range (neTiles e)).map (fun j => s.memNat (a + 8 * j) 8)
    let ts := ws.map (fun w => fld w 0 9)
    if ws.any (fun w => fld w 9 9 != 0) || !decide ts.Nodup || ts.any (fun t => decide ((s.die (neDie e)).tilesN ≤ t)) then .inl .badGraph
    else .inr (ws.map (fun w => (fld w 0 9, fld w 18 46)))

/-- What reading node entry `i` gives: a failure with the address it names, or the resident node. -/
def State.readNode (s : State) (c h i : Nat) : Sum (Status × Nat) Node :=
  let a := ghNode h + 32 * i
  let r := s.memRead a 32
  let e := leVal r.1
  let ea := ghEdge h + 4 * neEdgeFirst e
  if r.2 then .inl (.poison, a)
  else if s.nodeBad h i e then .inl (.badGraph, a)
  else if (s.memRead ea (4 * neEdgeCount e)).2 then .inl (.poison, ea)
  else
    let n : Node := {
      idx := i, die := neDie e, kind := neKind e, sect := neSection e, tag := neTag e, preload := nePreload e
      post := nePost e, work := neWork e, preds := edgePreds (s.edgesOf h e) }
    if neKind e = 1 then
      match s.cardList c e with
      | .inl st => .inl (st, neWork e)
      | .inr cs => .inr { n with cards := cs }
    else .inr n

/-- Fail a node on a check of this chapter, with its GRAPH_FAIL event (R343). -/
def State.failNode (s : State) (c i die tag : Nat) (st : Status) (addr : Nat) : State :=
  (s.failEvent c 0x03 st addr i tag die 0 0).noteFail c st 0 die 0

/-- Key of a section whose switch was delayed on a die (R354). -/
def sectKey (k die : Nat) : Nat := 2 ^ 24 + 2 * k + die

/-- Whether a boundary delay concerns a node: it is of the delayed section, or follows a node that the delay concerns (R354). -/
def Graph.concerned (g : Graph) (n : Node) : Bool :=
  (n.kind == 1 && SMap.get false g.delayed (sectKey n.sect n.die)) || n.preds.any (fun p => SMap.get false g.delayed p)

/-- Mark a node that a delay concerns. -/
def Graph.markDelayed (g : Graph) (n : Node) : Graph :=
  if g.concerned n then
    { g with delayed := SMap.set false g.delayed n.idx true, nodes := g.nodes.map (fun m => if m.idx = n.idx then { m with relieved := true } else m) }
  else g

/-- A node becomes resident. -/
def Graph.addNode (g : Graph) (n : Node) : Graph := ({ g with nodes := g.nodes ++ [n] } : Graph).markDelayed n

/-- A boundary delay of a die's switch to section `k`: its nodes and those that follow from them, in ascending order of index. -/
def Graph.delaySwitch (g : Graph) (k die : Nat) : Graph :=
  let g1 : Graph := { g with delayed := SMap.set false g.delayed (sectKey k die) true }
  (g1.nodes.mergeSort (fun a b => a.idx ≤ b.idx)).foldl Graph.markDelayed g1

/-- R335. A die's sequencer reads the next node entry: it skips the other die's nodes. An entry that names an
absent die is failed by die 0. -/
def execNodeRead (ctx die : Nat) (s : State) : Out :=
  match (s.ctx ctx).graph with
  | none => .next s
  | some g =>
    let h := g.header.toNat
    let i := SMap.get 0 g.nextRead die
    if !g.checked || g.failed || !(s.ctx ctx).st.running || !s.diePresent die || decide (ghNodes h ≤ i) then .next s
    else
      let e := s.memNat (ghNode h + 32 * i) 32
      let mine := neDie e == die || (die == 0 && !s.diePresent (neDie e))
      let step (s : State) : State := s.updGraph ctx (fun g => { g with nextRead := SMap.set 0 g.nextRead die (i + 1) })
      if !mine then .next (step s)
      else if (s.ctx ctx).residentQuota ≤ (s.ctx ctx).nodesOn die false ∨ 8192 ≤ s.nodesOn die false then .next s
      else
      let w := ((s.reachFor ctx (ghNode h + 32 * i) 32 false).reachFor ctx (neWork e) (if neKind e = 1 then neTiles e * 8 else 0) false).tryWeft
      let s := w.2
      match (if w.1 then .inl (.poison, ghNode h + 32 * i) else s.readNode ctx h i) with
        | .inl (st, a) => .next ((step s).failNode ctx i die (neTag e) st a)
        | .inr n => .next ((step s).updGraph ctx (fun g => g.addNode n))

-- ---------------------------------------------------------------- readiness and launching (R337, R338)

/-- A write of SEQ_RELEASE; from the selvedge on it releases nothing (R358). -/
def State.seqRelease (s : State) (ctx value : Nat) : State :=
  let i := fld value 0 24
  let ok : Bool := (s.ctx ctx).st.running && match (s.ctx ctx).graph with
    | some g => g.checked && g.tag == fld value 48 16 && decide (i < ghNodes g.header.toNat)
        && neKind (s.memNat (ghNode g.header.toNat + 32 * i) 32) == 3
    | none => false
  if ok = true then
    let s1 := (s.setStateBit ctx i true).updGraph ctx (fun g => { g with released := SMap.set false g.released i true })
    match (s1.ctx ctx).graph with
    | some g =>
      match g.node? i with
      | some n => if n.launched && n.st == .inFlight then s1.completeNode ctx i .ok 0 0 else s1
      | none => s1
    | none => s1
  else
    (s.count 0x8080 6 ctx 1).postEvent ctx { code := 0x0E, arg0 := value }

/-- R337. A write to SEQ_RELEASE. -/
def execSeqRelease (ctx value : Nat) (s : State) : Out := .next (s.seqRelease ctx value)

/-- The completion entries of die 1's nodes that die 0's sequencer has learned of with a node's completion: its own, after those of
the completions before it (R356; log entry 80). -/
def Graph.toldWith (g : Graph) (node : Nat) : List CqWait :=
  match g.untold.findIdx? (fun w => w.node.map (·.2) == some node) with
  | some k => g.untold.take (k + 1)
  | none => []

/-- R337, R347, R356. A completion becomes known to a die's sequencer; die 0's posts the entries of nodes of die 1 in the order of
their completions. -/
def execNodeDoneNotice (ctx node die : Nat) (s : State) : Out :=
  let ws : List CqWait := match (s.ctx ctx).graph with
    | some g => if die = 0 then g.toldWith node else []
    | none => []
  let known (g : Graph) (i : Nat) : Graph := if SMap.get false g.done i then { g with noticed := SMap.set false g.noticed (2 * i + die) true } else g
  let s1 := s.updGraph ctx (fun g =>
    (node :: ws.filterMap (fun w => w.node.map (·.2))).foldl known { g with untold := g.untold.drop ws.length })
  .next ((ws.foldl (fun s w => s.postNode ctx 1 ((w.node.map (·.2)).getD 0) w.entry) s1).cardsClock ctx)

/-- Launch one node: a MARKER, or a released HOST_WAIT, completes at once. -/
def State.launch (s : State) (c : Nat) (n : Node) (released : Bool) : State :=
  let s1 := (s.updNode c n.idx (fun n => { n with st := .inFlight, launched := true, ftcLaunch := s.ftc })).cardsClock c
  if n.kind = 0 ∨ (n.kind = 3 ∧ released) then s1.completeNode c n.idx .ok 0 0 else s1

/-- Whether every tile granted to a context is awake: its first launch waits for them (R549). -/
def State.grantAwake (s : State) (c : Nat) : Bool :=
  (List.range s.factory.computeDies).all (fun d => (List.range 288).all (fun t =>
    !(SMap.get 0 (s.ctx c).tiles d).testBit t || (match s.siteOf d t with
      | some i => (s.site d i).idle == 0
      | none => true)))

/-- R338, R356. The sequencer launches the lowest ready node of a context on a die, once the quota allows that one, and makes the
load requests of R339. -/
def execNodeLaunch (ctx die : Nat) (s : State) : Out :=
  match (s.ctx ctx).graph with
  | none => .next s
  | some g =>
    if !g.checked || g.failed || !(s.ctx ctx).st.running || !g.gateOpen 0 die || !s.grantAwake ctx then .next (s.requestLoads ctx die)
    else
      match g.nodes.find? (fun n => n.die == die && !n.launched && n.st != .posting && g.ready n) with
      | none => .next (s.requestLoads ctx die)
      | some n =>
        if n.inFlight || s.flightRoom ctx die then .next ((s.launch ctx n (SMap.get false g.released n.idx)).requestLoads ctx die)
        else .next (s.requestLoads ctx die)

-- ---------------------------------------------------------------- loads (R300, R339)

/-- The section entry's SECTION and EPOCH do not match the card's header (R322). -/
def Graph.wrongSection (g : Graph) (node h : Nat) : Bool :=
  match g.node? node with
  | some n => hdrSection h != seSection (g.sect n.sect) || hdrEpoch h != seEpoch (g.sect n.sect)
  | none => false

/-- A node that has completed, posted or not. -/
def Graph.ended (g : Graph) (node : Nat) : Bool := ((g.node? node).map (fun n => n.st == .posting)).getD true

/-- R300. The loader finishes reading and checking the image of a slot that is LOADING. -/
def execCardLoadDone (die tile slot : Nat) (s : State) : Out :=
  let sl := (s.tile die tile).slot slot
  let c := sl.ctx
  if sl.st ≠ .loading ∨ (s.tile die tile).underTest ∨ s.zeroingAt sl.image (s.imageSpan sl.image) then .next s
  else if !(s.ctx c).st.running then .next (s.releaseSlot die tile slot)
  else
    let w := (s.hbmDelay c sl.image (s.imageSpan sl.image)).tryWeft
    let s := w.2.gbWeftRange sl.image (s.imageSpan sl.image) false
    let seen : Status × Image := if w.1 then (.poison, []) else s.loadCheck c die tile sl.image
    match seen with
    | (.ok, im) =>
      let s1 := (s.putCard die tile slot c im).updCtx c (fun x => { x with moved := true })
      match (s1.ctx c).graph with
      | some g =>
        if g.ended sl.node then .next (s1.releaseSlot die tile slot)
        else if g.wrongSection sl.node im.header then
          let n := (g.node? sl.node).getD {}
          .next (((s1.failEvent c 0x02 .ok sl.image sl.node n.tag die tile slot).releaseCards c n).completeNode c sl.node .badGraph 0 tile)
        else .next (s1.requestLoads c die)
      | none => .next (s1.releaseSlot die tile slot)
    | (st, _) =>
      let s1 := (s.updTile die tile (fun t => { t with slots := SMap.set {} t.slots slot { loadStatus := st } })).noteIdle die tile
      .next (s1.loadFailed c sl.node die tile slot sl.image st)

-- ---------------------------------------------------------------- section switches (R319, R340)

/-- Slot of the card with which a tile joins section `k`. -/
def Graph.joinSlot (g : Graph) (die k tile : Nat) : Option Nat :=
  match g.nodes.find? (fun n => n.die == die && n.kind == 1 && n.sect == k && SMap.get 0 n.slots tile != 0) with
  | some n => some (SMap.get 0 n.slots tile - 1)
  | none => none

/-- CARDS nodes of a section on a die. -/
def Graph.sectNodes (g : Graph) (die k : Nat) : List Node := g.nodes.filter (fun n => n.die == die && n.kind == 1 && n.sect == k)

/-- Sections whose resident nodes name more tiles than the section entry gives. -/
def Graph.overfull (g : Graph) (die : Nat) : Option Nat :=
  (List.range g.sections.length).find? (fun k =>
    decide (seTiles (g.sect k) die < ((g.sectNodes die k).map (fun n => n.cards.length)).sum))

/-- Fail a resident node of an overfull section: one in flight completes with the status, its LOADED cards released. -/
def State.failResident (s : State) (c h : Nat) (n : Node) : State :=
  let a := ghNode h + 32 * n.idx
  if n.st = .posting then s
  else if n.inFlight then
    let s1 := s.failEvent c 0x03 .badGraph a n.idx n.tag n.die 0 0
    (s1.releaseCards c n).completeNode c n.idx .badGraph 0 0
  else s.failNode c n.idx n.die n.tag .badGraph a

/-- Mark the cards that leave at a section or closing switch, with the slot that each tile's new-section card is in. -/
def State.markLeaving (s : State) (c die : Nat) (cut : Bool) (target : Nat → Option Nat) : State :=
  (List.range 288).foldl (fun s t =>
    match (s.tile die t).currentSlot c with
    | none => s
    | some k => s.updTile die t (fun x => x.updSlot k (fun sl =>
        if sl.swPhase = .none then { sl with swPhase := .waiting, swSection := true, swCut := cut, swTarget := (target t).getD 0, swWait := 1 } else sl))) s

/-- Whether the next section of a die may be switched to (R340). -/
def State.mayswitch (s : State) (g : Graph) (die k : Nat) : Bool :=
  let ns := g.sectNodes die k
  ns.all (fun n => n.launched && g.ready n) && ((ns.map (fun n => n.cards.length)).sum == seTiles (g.sect k) die)
  && ns.all (fun n => n.cards.all (fun e => match SMap.get 0 n.slots e.1 with
    | 0 => false
    | j + 1 => ((s.tile die e.1).slot j).st == .loaded && ((s.tile die e.1).slot j).node == n.idx))
  && g.gateOpen (k + 1) die

/-- R340. A die's sequencer starts the switch to its next section. -/
def execSectionSwitchStart (ctx die : Nat) (s : State) : Out :=
  match (s.ctx ctx).graph with
  | none => .next s
  | some g =>
    if !g.checked || g.failed || !(s.ctx ctx).st.running || SMap.get 0 g.switching die != 0 then .next s
    else match g.overfull die with
      | some k => .next ((g.sectNodes die k).foldl (fun s n => s.failResident ctx g.header.toNat n) s)
      | none =>
        match g.nextSect die with
        | none => .next s
        | some k =>
          if s.mayswitch g die k then
            let e := g.sect k
            let s1 := (s.markLeaving ctx die (seCut e) (g.joinSlot die k)).updDie die (fun d => { d with groups := d.groups ++ [{
              ctx := ctx, isSection := true, sect := k, cut := seCut e, size := seSwitch e die }] })
            .next (s1.updGraph ctx (fun g => { g with switching := SMap.set 0 g.switching die (k + 1) }))
          else .next s

-- ---------------------------------------------------------------- readiness of a card to switch (R307, R308)

/-- Descriptors in a queue's ring, oldest first. -/
def State.ringItems (s : State) (die tile : Nat) (x : Queue) : List QDesc :=
  (List.range x.ringCount).map (fun i =>
    let r := s.memRead (ringAddr die tile x (x.ringHead + i)) 32
    { word := BitVec.ofNat 256 (leVal r.1), poison := r.2 })

/-- No old token relative to an epoch in any queue or ring that the card of a slot configures. -/
def State.noOldToken (s : State) (die tile k epoch : Nat) : Bool :=
  let t := s.tile die tile
  (List.range 8).all (fun q => SMap.get 0 (t.slot k).queueImgs q == 0 ||
    ((t.queue q).items ++ s.ringItems die tile (t.queue q)).all (fun d => decide (d.age epoch < 2)))

/-- Every streamer descriptor of the card has delivered its last line and its landing buffers are empty. -/
def State.streamsDone (s : State) (die tile k : Nat) : Bool :=
  let t := s.tile die tile
  (List.range 12).all (fun n => (SMap.get [] (s.die die).streams n).all (fun y =>
    !(y.tile == tile && y.slot == k) || y.delivered == sdLines y.desc.toNat))
  && (List.range 4).all (fun p => SMap.get 0 (t.slot k).streamImgs p == 0 || ((t.stream p).lines.isEmpty
    && !(s.die die).flits.any (fun f => f.stream && f.tile == tile && f.sink == 8 + p)))

def Tile.setWait (t : Tile) (k wait : Nat) : Tile := t.updSlot k (fun sl => { sl with swWait := wait })

/-- The card's tile-ops but a pending CARD at the head, which waits for the switch, have retired, and their comparisons
have been made (log entry 63). -/
def Tile.opsGone (t : Tile) (k : Nat) : Bool :=
  (t.ops.filter (fun o => o.slot == k && !(o.d.opc == .card && o.syncWait))).isEmpty && !t.checks.any (fun c => c.op.slot == k)

/-- Landed lines of the card's stream ports are discarded by a CUT (R307). -/
def State.dropLanded (s : State) (die tile k c : Nat) : State :=
  (List.range 4).foldl (fun s p =>
    let x := (s.tile die tile).stream p
    if SMap.get 0 ((s.tile die tile).slot k).streamImgs p = 0 ∨ x.lines = [] then s
    else ((s.count 0x8070 1 c x.lines.length).returnStreamCredit die tile p x.lines.length).updTile die tile
      (fun t => t.updStream p (fun x => { x with lines := [] }))) s

/-- A CARD whose target slot has come to hold another context's card completes with CARD_SLOT (R185). -/
def Tile.failCard (t : Tile) (k : Nat) : Tile :=
  let tgt := (t.slot k).swTarget
  ({ t with ops := t.ops.map (fun (o : InFlight) => if o.slot == k && o.syncWait && o.d.opc == Opc.card then
      { o with syncWait := false, status := .cardSlot, detail := tgt } else o) }).updSlot k (fun sl => { sl with swPhase := .none, swWait := 0 })

/-- A card whose CARD tile-op waits: the condition not yet met, 0 when it is ready (R307). -/
def State.cardWait (s : State) (die tile k : Nat) : Nat :=
  let t := s.tile die tile
  let sl := t.slot k
  let tg := t.slot sl.swTarget
  if !t.opsGone k then 1
  else if tg.st ≠ .loaded ∨ tg.ctx ≠ sl.ctx then 2
  else if !sl.swCut && !(s.noOldToken die tile k tg.epoch && s.streamsDone die tile k) then 3
  else 0

/-- A leaving card of a section switch or a closing switch (R319, R343). -/
def State.leaveWait (s : State) (die tile k : Nat) (g : SwGroup) (epoch : Nat) (failed : Bool) : Nat :=
  let t := s.tile die tile
  let sl := t.slot k
  if !t.opsGone k then 1
  else if g.closing && failed && sl.st == .halted then 0
  else if sl.st ≠ .finished then 1
  else if !g.cut && !(s.noOldToken die tile k epoch && s.streamsDone die tile k) then 3
  else 0

/-- Send a card's ARRIVE, or note what it waits for. `section_` is KIND and the target of a section switch, which takes in a card
made current after it began (R319). -/
def State.setArrived (s : State) (die tile k wait : Nat) (section_ : Option (Bool × Nat)) : State :=
  s.updTile die tile (fun t => t.updSlot k (fun sl =>
    let y := match section_ with
      | some (cut, target) => { sl with swSection := true, swCut := cut, swTarget := target }
      | none => sl
    if wait = 0 then { y with swPhase := .arrived, swWait := 4 } else { y with swPhase := .waiting, swWait := wait }))

/-- The section or closing switch under way for a context on a die. -/
def State.sectionGroup (s : State) (die c : Nat) : Option SwGroup :=
  (s.die die).groups.find? (fun g => g.ctx == c && g.isSection && g.commit.isNone)

/-- Epoch against which tokens are old at a section switch; at a closing switch, which has no target, the card's own. -/
def State.switchEpoch (s : State) (c : Nat) (g : SwGroup) (own : Nat) : Nat :=
  if g.closing then own
  else match (s.ctx c).graph with
    | some x => seEpoch (x.sect g.sect)
    | none => own

/-- R307 to R309. A card becomes ready to switch: a local switch completes; otherwise ARRIVE is sent. -/
def execCardSwitchReady (die tile slot : Nat) (s : State) : Out :=
  let t := s.tile die tile
  let sl := t.slot slot
  let c := sl.ctx
  if t.underTest || t.stopped || sl.swPhase == .arrived then .next s
  else if sl.st.isCurrent && sl.swPhase == .waiting && !sl.swSection then
    let w := s.cardWait die tile slot
    if (t.slot sl.swTarget).holdsOther c then .next (s.updTile die tile (fun t => t.failCard slot))
    else if w ≠ 0 then .next (s.updTile die tile (fun t => t.setWait slot w))
    else if sl.cardMatch.testBit sl.swTarget ∧ hdrGroup sl.header.toNat = 0 then
      let s1 := if sl.swCut then s.dropLanded die tile slot c else s
      .next ((s1.switchTile die tile c (some slot) (some sl.swTarget) sl.swCut false).count 0x8070 4 c 1)
    else .next (s.setArrived die tile slot 0 none)
  else match s.sectionGroup die c with
    | none => .next s
    | some g =>
      let failed : Bool := match (s.ctx c).graph with
        | some x => x.failed
        | none => false
      let target : Option Nat := match (s.ctx c).graph with
        | some x => if g.closing then none else x.joinSlot die g.sect tile
        | none => none
      let sw := some (g.cut, target.getD 0)
      if sl.st.isCurrent then
        .next (s.setArrived die tile slot (s.leaveWait die tile slot g (s.switchEpoch c g sl.epoch) failed) sw)
      else if target == some slot && sl.st == .loaded && (t.currentSlot c).isNone then .next (s.setArrived die tile slot 0 sw)
      else .next s

-- ---------------------------------------------------------------- the switch unit (R309, R310, R315)

/-- The number of the section that a section switch makes current; 0 for others and at a closing switch, which makes none
current (R310). -/
def State.switchSection (s : State) (g : SwGroup) : Nat :=
  match g.isSection && !g.closing, (s.ctx g.ctx).graph with
  | true, some x => seSection (x.sect g.sect)
  | _, _ => 0

/-- Arguments of the CARD_SWITCH ARRIVE of a tile (R310): KIND, SWITCH_GROUP and GROUP_SIZE of its old card, the last 0 for a tile
that only joins. -/
def State.arriveArgs (s : State) (die tile k : Nat) : Nat :=
  let sl := (s.tile die tile).slot k
  let own := sl.st.isCurrent && !sl.swSection
  at_ 118 2 0 + at_ 117 1 (b2n sl.swCut) + at_ 116 1 (b2n !own) + at_ 112 4 (if own then hdrGroup sl.header.toNat else 0)
  + at_ 96 16 (if own then 0 else ((s.sectionGroup die sl.ctx).map s.switchSection).getD 0) + at_ 55 9 tile
  + at_ 46 9 (if sl.st.isCurrent then hdrGroupSize sl.header.toNat else 0) + at_ 44 2 sl.swTarget

/-- Arguments of CARD_SWITCH COMMIT, which names the frame; and of CANCEL. -/
def State.commitArgs (s : State) (g : SwGroup) : Nat :=
  at_ 118 2 1 + at_ 116 1 (b2n g.isSection) + at_ 112 4 (if g.isSection then 0 else g.group)
  + at_ 96 16 (s.switchSection g) + at_ 64 32 (g.commit.getD 0)
def State.cancelArgs (s : State) (g : SwGroup) : Nat :=
  at_ 118 2 2 + at_ 116 1 (b2n g.isSection) + at_ 112 4 (if g.isSection then 0 else g.group) + at_ 96 16 (s.switchSection g)

/-- The slot of a context on a tile whose ARRIVE has been sent. -/
def Tile.arrivedSlot (t : Tile) (c : Nat) : Option Nat :=
  (List.range 4).find? (fun k => (t.slot k).swPhase == .arrived && (t.slot k).ctx == c)

/-- Put an arrival into the first group that satisfies `p`, or into a new one. -/
def addArrival (p : SwGroup → Bool) (a : Arrival) (new : Option SwGroup) : List SwGroup → List SwGroup
  | [] => match new with
    | some g => [{ g with arrivals := [a] }]
    | none => []
  | g :: gs => if p g then { g with arrivals := g.arrivals ++ [a] } :: gs else g :: addArrival p a new gs

/-- R309. An ARRIVE reaches the switch unit, which commits a complete group. -/
def execCardSwitchArrive (die tile ctx : Nat) (s : State) : Out :=
  let t := s.tile die tile
  match t.arrivedSlot ctx with
  | none => .next s
  | some k =>
    let sl := t.slot k
    if (s.die die).groups.any (fun g => g.ctx == ctx && g.arrivals.any (fun a => a.tile == tile)) then .next s
    else if sl.st.isCurrent && !sl.swSection then
      let n := hdrGroup sl.header.toNat
      let a : Arrival := { tile := tile, slot := some k, target := some sl.swTarget }
      let new : SwGroup := { ctx := ctx, group := n, cut := sl.swCut, size := if n = 0 then 1 else hdrGroupSize sl.header.toNat }
      let p (g : SwGroup) : Bool := n != 0 && g.ctx == ctx && g.group == n && !g.isSection && g.commit.isNone
      .next ((s.updDie die (fun d => { d with groups := addArrival p a (some new) d.groups })).commitReady die)
    else
      let target : Option Nat := match (s.ctx ctx).graph, s.sectionGroup die ctx with
        | some x, some g => if g.closing then none else x.joinSlot die g.sect tile
        | _, _ => none
      let a : Arrival := { tile := tile, slot := if sl.st.isCurrent then some k else none, target := target }
      let p (g : SwGroup) : Bool := g.ctx == ctx && g.isSection && g.commit.isNone
      .next ((s.updDie die (fun d => { d with groups := addArrival p a none d.groups })).commitReady die)

/-- The first group of a context and number on a die that satisfies `p`. -/
def Die.group? (d : Die) (c n : Nat) (p : SwGroup → Bool) : Option SwGroup :=
  d.groups.find? (fun g => g.ctx == c && g.group == n && p g)

/-- R309. COMMIT has reached every router and source of the die. -/
def execCardSwitchCommit (die ctx group : Nat) (s : State) : Out :=
  match (s.die die).group? ctx group (fun g => g.commit.isSome && !g.quiet) with
  | none => .next s
  | some g => .next (g.arrivals.foldl (fun s a => match a.slot with
      | some k => s.updTile die a.tile (fun t => t.setWait k 5)
      | none => s) s)

/-- R309 step 3. Frame F − 64 comes: the context's sources stop admitting. -/
def execSwitchQuietStart (die ctx group : Nat) (s : State) : Out :=
  match (s.die die).group? ctx group (fun g => g.commit.isSome && !g.quiet) with
  | none => .next s
  | some g => .next ((s.updDie die (fun d => { d with groups := d.groups.map (fun x => if x = g then { x with quiet := true } else x) })).reachFrame
      die (g.commit.getD 0 - 64))

/-- Release the cards of a context on a die that a section switch has left behind (R340). -/
def State.releaseLeft (s : State) (die c section_ : Nat) : State :=
  (List.range 288).foldl (fun s t => (List.range 4).foldl (fun s k =>
    let sl := (s.tile die t).slot k
    if sl.st = .loaded ∧ sl.ctx = c ∧ hdrSection sl.header.toNat ≠ section_ then s.releaseSlot die t k else s) s) s

/-- R309 step 4, R311. Frame F comes: every member makes its target current. -/
def execSwitchTakeEffect (die ctx group : Nat) (s : State) : Out :=
  match (s.die die).group? ctx group (fun g => g.commit.isSome && g.quiet) with
  | none => .next s
  | some g =>
    if (s.die die).flits.any (fun f => f.ctx == ctx) then .next s
    else
      let s1 := (s.updDie die (fun d => { d with groups := d.groups.erase g })).reachFrame die (g.commit.getD 0)
      let s2 := g.arrivals.foldl (fun s a =>
        let cut : Bool := if g.isSection then g.cut else match a.slot with
          | some k => ((s.tile die a.tile).slot k).swCut
          | none => false
        let s' := s.switchTile die a.tile ctx a.slot a.target cut true
        if g.closing then s' else s'.count 0x8070 4 ctx 1) s1
      if !g.isSection then .next s2
      else if g.closing then .next (s2.updGraph ctx (fun x => { x with closed := SMap.set false x.closed die true }))
      else
        let sn := match (s2.ctx ctx).graph with
          | some x => seSection (x.sect g.sect)
          | none => 0
        let s3 := s2.updGraph ctx (fun x => { x with
          curSect := SMap.set 0 x.curSect die (g.sect + 1), switching := SMap.set 0 x.switching die 0 })
        .next ((s3.releaseLeft die ctx sn).reachGate ctx die)

/-- Drop a context's groups from a die's switch unit. -/
def State.cancelSwitches (s : State) (die c : Nat) : State :=
  s.updDie die (fun d => { d with groups := d.groups.filter (fun g => g.ctx != c) })

/-- R315. CANCEL: the switch unit discards the arrivals of a context that is being reset. -/
def execCardSwitchCancel (die ctx : Nat) (s : State) : Out :=
  if (s.ctx ctx).st.running then .next s else .next (s.cancelSwitches die ctx)

-- ---------------------------------------------------------------- gates (R452 to R454)

/-- R453, R454. A gate that a die's sequencer has reached opens, once fabric time has come to its launch value; a gate reached late
on either die is recorded and counted once. `gate` is 0 for the graph's own, 1 + k for section k. -/
def execGateOpen (ctx die gate : Nat) (s : State) : Out :=
  match (s.ctx ctx).graph with
  | none => .next s
  | some g =>
    let at0 := SMap.get 0 g.gateReached (2 * gate + die)
    let v := s.launchValue ctx g gate
    if !g.checked || !g.isGate gate || at0 == 0 || SMap.get false g.gatesOpen (2 * gate + die) || decide (s.ftc < v) then .next s
    else
      let other := SMap.get false g.gatesOpen (2 * gate + (1 - die))
      let late := decide (v + 1 < at0) && !(other && decide (v + 1 < SMap.get 0 g.gateReached (2 * gate + (1 - die))))
      let s1 := s.updGraph ctx (fun g => { g with
        gatesOpen := SMap.set false g.gatesOpen (2 * gate + die) true
        gateLate := if late then g.gateLate + (s.ftc - v) else g.gateLate
        ftcGate := if g.gatesOpen.isEmpty then s.ftc else g.ftcGate })
      let s2 := if other then s1 else s1.updCtx ctx (fun x => { x with gatesPassed := x.gatesPassed + 1 })
      .next (if late then s2.count 0x80B0 6 ctx 1 else s2)

-- ---------------------------------------------------------------- completion and the ends of graphs (R341, R342, R347)

/-- Whether the card that a node loaded on a tile has ended: FINISHED, HALTED, or gone from its slot. -/
def State.cardEnded (s : State) (c : Nat) (n : Node) (tile : Nat) : Bool :=
  match SMap.get 0 n.slots tile with
  | 0 => false
  | k + 1 =>
    let sl := (s.tile n.die tile).slot k
    sl.st == .finished || sl.st == .halted || sl.st == .empty || sl.ctx != c || sl.node != n.idx

/-- R341. The node's cards have ended and its tiles are drained: it completes. -/
def execNodeDrainDone (ctx node : Nat) (s : State) : Out :=
  match (s.ctx ctx).graph with
  | none => .next s
  | some g =>
    match g.node? node with
    | none => .next s
    | some n =>
      if (s.ctx ctx).st.running ∧ n.kind = 1 ∧ n.st = .inFlight ∧ n.cards.all (fun e => s.cardEnded ctx n e.1) ∧
          !s.accs.any (fun a => a.die == n.die && a.ctx == ctx && a.st == .sent && (a.kind == 1 || a.kind == 2)
            && !a.orphan && n.cards.any (fun e => e.1 == a.tile)) then
        .next (s.completeNode ctx node n.haltStatus n.haltDetail n.haltTile)
      else .next s

/-- Start the closing switch of a die (R342), or note that it has nothing to close. -/
def State.closeDie (s : State) (c die : Nat) : State :=
  let n := ((List.range 288).filter (fun t => ((s.tile die t).currentSlot c).isSome)).length
  if n = 0 then s.updGraph c (fun g => { g with closed := SMap.set false g.closed die true })
  else
    ((s.markLeaving c die false (fun _ => none)).updDie die (fun d => { d with
      groups := d.groups ++ [{ ctx := c, isSection := true, closing := true, size := n }] })).updGraph c
      (fun g => { g with closing := SMap.set false g.closing die true })

/-- R342. Every node has completed, or a node has failed and none is left in flight: the closing switches start. -/
def execGraphFinish (ctx : Nat) (s : State) : Out :=
  match (s.ctx ctx).graph with
  | none => .next s
  | some g =>
    if g.checked && !g.finished && (s.ctx ctx).st.running && (g.nodesDone == ghNodes g.header.toNat || (g.failed && !g.nodes.any (·.inFlight)))
        && !(List.range 2).any (fun d => SMap.get 0 g.switching d != 0) then
      let s1 := s.updGraph ctx (fun g => { g with finished := true })
      .next ((List.range s.factory.computeDies).foldl (fun s d => s.closeDie ctx d) s1)
    else .next s

/-- Every slot of a context is released (R342). -/
def State.releaseAll (s : State) (c : Nat) : State :=
  (List.range 2).foldl (fun s d => (List.range 288).foldl (fun s t => (List.range 4).foldl (fun s k =>
    let sl := (s.tile d t).slot k
    if sl.st ≠ .empty ∧ sl.ctx = c then s.releaseSlot d t k else s) s) s) s

/-- R342. The closing switches are complete: every slot is released and GRAPH_DONE is posted. -/
def execGraphDone (ctx : Nat) (s : State) : Out :=
  match (s.ctx ctx).graph with
  | none => .next s
  | some g =>
    let loading := (List.range 2).any (fun d => (List.range 288).any (fun t => (List.range 4).any (fun k =>
      let sl := (s.tile d t).slot k
      sl.st == .loading && sl.ctx == ctx)))
    if g.finished && (s.ctx ctx).st.running && (List.range s.factory.computeDies).all (fun d => SMap.get false g.closed d) && !loading && g.untold.isEmpty then
      .next ((s.releaseAll ctx).graphDone ctx (if g.failed then g.failStatus else .ok))
    else .next s

/-- What follows an entry that has been written or discarded: its node leaves flight; a GRAPH_DONE entry's ledger
record is written. -/
def State.afterEntry (s : State) (c : Nat) (w : CqWait) : State :=
  let s1 := match w.node with
    | some (_, i) => if w.past then s else
      (s.updGraph c (fun g => { g with nodes := g.nodes.filter (fun m => !(m.idx == i && m.st == .posting)) })).cardsClock c
    | none => s
  if w.ledger = 0 then s1 else s1.ledgerWrite c w.ledger

/-- R347. Die 0's sequencer writes the oldest completion entry that waits. -/
def execCqEntryWrite (ctx : Nat) (s : State) : Out :=
  match (s.ctx ctx).cqWait with
  | [] => .next s
  | w :: rest =>
    match s.ringRoom ctx .cq with
    | .full => .next s
    | .room =>
      .next (((s.updCtx ctx (fun x => { x with cqWait := rest })).ringWrite ctx .cq w.entry true).afterEntry ctx w)
    | _ => .next (((s.updCtx ctx (fun x => { x with cqWait := rest })).count 0x8080 8 ctx 1).afterEntry ctx w)

-- ---------------------------------------------------------------- ring configuration (R345, R351)

/-- The value that a ring's configuration register reads. -/
def RingQ.cfg (r : RingQ) : Nat :=
  at_ 31 1 (b2n r.enable) + at_ 30 1 (b2n r.host) + at_ 29 1 (b2n r.irq) + at_ 16 8 r.holdoff + at_ 0 5 r.log2

/-- A write of a ring's configuration register. -/
def RingQ.writeCfg (r : RingQ) (v : Nat) : RingQ :=
  let en := bitOf v 31
  if fld v 0 5 < 4 ∨ 16 < fld v 0 5 then r
  else if r.enable then { r with enable := en }
  else
    let r1 : RingQ := { r with host := bitOf v 30, irq := bitOf v 29, holdoff := fld v 16 8, log2 := fld v 0 5 }
    if en then { r1 with enable := true, tail := 0, head := 0 } else r1

/-- A write of a ring's base: bits 5:0 are ignored, and all of it while the ring is enabled. -/
def RingQ.writeBase (r : RingQ) (v : Nat) : RingQ := if r.enable then r else { r with base := BitVec.ofNat 64 (v / 64 * 64) }

/-- Write the configuration of a context's ring; completion entries that wait are discarded when their queue is
disabled (R351). -/
def State.writeRingCfg (s : State) (c : Nat) (k : RingKind) (v : Nat) : State :=
  let old := (s.ctx c).ring k
  let s1 := s.updCtx c (fun x => x.setRing k (old.writeCfg v))
  if k = .cq ∧ old.enable ∧ !((s1.ctx c).ring k).enable then
    let ws := (s1.ctx c).cqWait
    ws.foldl (fun s w => (s.count 0x8080 8 c 1).afterEntry c w) (s1.updCtx c (fun x => { x with cqWait := [] }))
  else s1

/-- R345. A write of CQ_CFG. -/
def execCqCfgWrite (ctx value : Nat) (s : State) : Out := .next (s.writeRingCfg ctx .cq value)
/-- R345. A write of EQ_CFG. -/
def execEqCfgWrite (ctx value : Nat) (s : State) : Out := .next (s.writeRingCfg ctx .eq value)
/-- R462. A write of LEDGER_CFG. -/
def execLedgerCfgWrite (ctx value : Nat) (s : State) : Out := .next (s.writeRingCfg ctx .ledger value)

/-- A write of FTC_LAUNCH_AT: the gates are numbered from 0 again. -/
def State.writeLaunchAt (s : State) (ctx value : Nat) : State :=
  s.updCtx ctx (fun x => { x with launchAt := BitVec.ofNat 64 value, gateNext := 0, gatesPassed := 0 })

/-- R451, R452. A write of FTC_LAUNCH_AT. -/
def execFtcLaunchAtWrite (ctx value : Nat) (s : State) : Out := .next (s.writeLaunchAt ctx value)

end Sys2Proof.Machine
end

