-- ==== Sys2Proof/Machine/CollOps.lean ====
section
/-! DEFINITION. The operations of the collective engines (chapter The Varoa fabric, R432 to R434, R437 to R439): the descriptor, the
chunks, what an operation sends and when it begins, and how one ends. -/

namespace Sys2Proof.Machine

-- ---------------------------------------------------------------- the descriptor (R432)

def cdScratch (d : Nat) : Nat := fld d 430 46
def cdMembersAt (d : Nat) : Nat := fld d 384 46
def cdDst (d : Nat) : Nat := fld d 320 46
def cdSrc (d : Nat) : Nat := fld d 256 46
def cdElements (d : Nat) : Nat := fld d 192 40
def cdRoot (d : Nat) : Nat := fld d 165 18
def cdMembers (d : Nat) : Nat := fld d 146 19
def cdRank (d : Nat) : Nat := fld d 128 18
def cdTimeout (d : Nat) : Nat := fld d 112 16
def cdAnchor (d : Nat) : Int := toInt 10 (fld d 96 10)
def cdId (d : Nat) : Nat := fld d 64 32
def cdEngine (d : Nat) : Nat := fld d 48 2
def cdFlow (d : Nat) : Nat := fld d 36 12
def cdGuaranteed (d : Nat) : Bool := bitOf d 35
def cdArrival (d : Nat) : Bool := bitOf d 34
def cdAlgo (d : Nat) : Nat := fld d 32 2
def cdFormat (d : Nat) : Nat := fld d 28 4
def cdOp (d : Nat) : Nat := fld d 24 4

/-- A field that is malformed or holds a reserved value, or an absent engine (R434); reserved fields are ignored (R13).
DESIGN CHOICE (log entry 62): an ANCHOR outside R132's range is no malformed field, and the engine sums blocks that carry it. -/
def State.descBad (s : State) (c d : Nat) : Bool :=
  fld d 0 16 != 0xC011 || fld d 16 8 != 1 || decide (3 < cdOp d) || cdAlgo d == 3
  || !(cdFormat d == 1 || cdFormat d == 9 || (cdFormat d == 0xA && cdOp d == 2))
  || (cdArrival d && cdAlgo d != 2) || decide (cdMembers d < 2) || decide (262144 < cdMembers d) || decide (cdMembers d ≤ cdRank d)
  || cdElements d == 0 || (cdFormat d == 9 && cdElements d % 1024 != 0) || decide (cdMembers d ≤ cdRoot d)
  || decide (s.factory.ioDies ≤ cdEngine d)
  || (cdGuaranteed d && (let e := (s.flow (cdFlow d)).entry.toNat; !flowValid e || flowCtx e != c))

-- ---------------------------------------------------------------- chunks (R433)

/-- Elements in the unit that is never cut: an anchored block, else one element; and its bytes. -/
def cdUnit (d : Nat) : Nat := if cdFormat d = 9 then 1024 else 1
def cdUnitBytes (d : Nat) : Nat := if cdFormat d = 9 then 16448 else if cdFormat d = 0xA then 8 else 4
/-- Units of the whole vector: n × N elements for ALL_GATHER and REDUCE_SCATTER. -/
def cdUnits (d : Nat) : Nat := cdElements d / cdUnit d * (if cdOp d < 2 then 1 else cdMembers d)
/-- Units in a chunk, and in chunk `c` (the last ones may be short or empty). -/
def cdChunk (d : Nat) : Nat := (cdUnits d + cdMembers d - 1) / cdMembers d
def cdChunkUnits (d c : Nat) : Nat := min (cdChunk d) (cdUnits d - c * cdChunk d)
def cdChunkBytes (d c : Nat) : Nat := cdChunkUnits d c * cdUnitBytes d
def cdChunkOff (d c : Nat) : Nat := c * cdChunk d * cdUnitBytes d

/-- Bytes of the input, the output and the scratch area (R433, R434). -/
def cdSrcBytes (d : Nat) : Nat := cdElements d / cdUnit d * cdUnitBytes d * (if cdOp d = 3 then cdMembers d else 1)
def cdDstBytes (d : Nat) : Nat := cdElements d / cdUnit d * cdUnitBytes d * (if cdOp d = 2 then cdMembers d else 1)
def cdScratchBytes (d : Nat) : Nat :=
  (match cdAlgo d with
  | 0 => 2 * cdChunk d | 1 => 2 * cdUnits d | _ => (cdMembers d - 1) * cdChunk d) * cdUnitBytes d

/-- Local address of a chunk of the input and of the output. -/
def cdSrcAt (d c : Nat) : Nat := cdSrc d + (if cdOp d = 2 then 0 else cdChunkOff d c)
def cdDstAt (d c : Nat) : Nat := cdDst d + (if cdOp d = 3 then 0 else cdChunkOff d c)

/-- Bytes of memory as lines with their poison. -/
def State.packLines (s : State) (a n : Nat) : List Line :=
  (List.range ((n + 63) / 64)).map (fun i =>
    let r := s.memRead (a + 64 * i) (min 64 (n - 64 * i))
    { data := leVal r.1, poison := r.2 })

/-- Write lines over `n` bytes. -/
def State.unpackLines (s : State) (a : Nat) : Nat → List Line → State
  | _, [] => s
  | n, l :: ls => (s.memWrite a ((leBytes 64 l.data).take n) l.poison).unpackLines (a + 64) (n - 64) ls

/-- Elements of a line of a block: four codes of 128 bits. -/
def lineAnc (l : Line) : List Int := (List.range 4).map (fun i => ancOfCode (fld l.data (128 * i) 128))

/-- The blocks of an anchored output with their NAN_COUNT and OVF_COUNT recounted (R436). -/
def ancRecount (anchor : Int) (ls : List Line) : List Line :=
  ((List.range ((ls.length + 256) / 257)).map (fun i => match (ls.drop (257 * i)).take 257 with
    | [] => []
    | h :: b => { h with data := ancHeader anchor ((b.map lineAnc).flatten) } :: b)).flatten

/-- Own contribution to a chunk. -/
def State.contribution (s : State) (d c : Nat) : List Line := s.packLines (cdSrcAt d c) (cdChunkBytes d c)

-- ---------------------------------------------------------------- operations in flight

def Coll.d (k : Coll) : Nat := k.desc.toNat
def Coll.id (k : Coll) : Nat := cdId k.d
def Coll.own (k : Coll) : Nat := cdRank k.d
def Coll.n (k : Coll) : Nat := cdMembers k.d

def State.coll? (s : State) (c node : Nat) : Option Coll := s.fab.colls.find? (fun k => k.ctx == c && k.node == node)
def State.updColl (s : State) (c node : Nat) (f : Coll → Coll) : State :=
  { s with fab := { s.fab with colls := s.fab.colls.map (fun k => if k.ctx = c ∧ k.node = node then f k else k) } }
def State.dropColl (s : State) (c node : Nat) : State :=
  { s with fab := { s.fab with colls := s.fab.colls.filter (fun k => !(k.ctx == c && k.node == node)) } }

/-- Note that an operation has advanced (R437). -/
def State.advance (s : State) (c : Nat) : State := s.updCtx c (fun x => { x with moved := true })

/-- The packets of a chunk for a rank: writes into its scratch area, 64 lines each (log entry 27). -/
def State.sendPackets (s : State) (k : Coll) (x : CollSend) (scratch : Nat) : State :=
  let d := k.d
  let e := s.endpoint k.ctx
  let dest := k.members.getD x.rank 0
  let at0 := scratch + (if cdAlgo d = 0 then x.part else k.own % max 1 (k.n - 1)) * cdChunk d * cdUnitBytes d
  (List.range ((x.lines.length + 63) / 64)).foldl (fun s i =>
    let ls := (x.lines.drop (64 * i)).take 64
    let h : Hdr := {
      dest := dest, op := 4, cls := if cdGuaranteed d then 1 else 2, len := ls.length, job := epJob e, inc := epInc e
      ctx := k.ctx, gen := (s.ctx k.ctx).gen.toNat, tag := k.id, addr := at0 + 4096 * i
      flow := if cdGuaranteed d then cdFlow d else 0
      bound := if cdGuaranteed d then flowBound (s.flow (cdFlow d)).entry.toNat else 0 }
    if cdGuaranteed d then
      { s with fab := { s.fab with flows := SMap.upd {} s.fab.flows (cdFlow d) (fun f => { f with
          waiting := f.waiting ++ [(h.bits 0 s.device, ls)] }) } }
    else s.fabSend h ls) s

/-- Send what an operation may send: to ranks whose READY has come. -/
def State.flushSends (s : State) (c node : Nat) : State :=
  match s.coll? c node with
  | none => s
  | some k =>
    let go := k.toSend.filter (fun x => SMap.get 0 k.ready x.rank != 0)
    let s1 := go.foldl (fun s x => (s.sendPackets k x (SMap.get 0 k.ready x.rank - 1)).advance c) s
    s1.updColl c node (fun k => { k with toSend := k.toSend.filter (fun x => SMap.get 0 k.ready x.rank == 0) })

/-- Whether every chunk that this member's output needs is in place, and everything it owes has been sent. -/
def Coll.complete (k : Coll) : Bool :=
  let d := k.d
  let all := cdOp d = 1 ∨ cdOp d = 2 ∨ (cdOp d = 0 ∧ cdRoot d = k.own)
  k.toSend.isEmpty && (List.range k.n).all (fun c =>
    cdChunkUnits d c == 0
    || ((SMap.get false k.landed c || (!all && c != k.own)) && (cdAlgo d != 0 || cdOp d == 2 || c == k.own || SMap.get false k.passed c)))

/-- Ranks that receive the result of the own chunk. -/
def Coll.receivers (k : Coll) : List Nat :=
  match cdOp k.d with
  | 0 => if cdRoot k.d = k.own then [] else [cdRoot k.d]
  | 3 => []
  | _ => (List.range k.n).filter (· != k.own)

/-- A chunk of this member's output: written to DST where the member has one; its poison is a collective output's (R485). -/
def State.land (s : State) (k : Coll) (c : Nat) (ls : List Line) : State :=
  let d := k.d
  let write := cdOp d = 1 ∨ cdOp d = 2 ∨ (cdOp d = 0 ∧ cdRoot d = k.own) ∨ (cdOp d = 3 ∧ c = k.own)
  let out := if cdFormat d = 9 then ancRecount (cdAnchor d) ls else ls
  let s1 := if write then (s.reachFor k.ctx (cdDstAt d c) (cdChunkBytes d c) true).unpackLines (cdDstAt d c) (cdChunkBytes d c) out else s
  let s2 := if write && ls.any (·.poison) then
      (linesOf (cdDstAt d c) (cdChunkBytes d c)).foldl (fun s l => if s.linePoison l then s.markPoison 0 (64 * l) else s) s1
    else s1
  (s2.updColl k.ctx k.node (fun k => { k with
    landed := SMap.set false k.landed c true, poison := k.poison || (write && ls.any (·.poison)) })).advance k.ctx

/-- The own chunk's result is there: it lands and goes to every member that receives it. -/
def State.ownResult (s : State) (k : Coll) (ls : List Line) : State :=
  ((s.land k k.own ls).updColl k.ctx k.node (fun x => { x with
    held := [], acc := []
    toSend := x.toSend ++ k.receivers.map (fun r => { rank := r, chunk := k.own, part := 1, lines := ls }) })).flushSends k.ctx k.node

-- ---------------------------------------------------------------- ends (R438)

/-- Cause codes of COLL_ABORT: 0 reset, 1 timeout, 2 anchors, 3 a LOST transfer. -/
def abortStatus (cause : Nat) : Status :=
  match cause with
  | 2 => .anchor | 3 => .late | _ => .peerReset

/-- What an operation does when it begins to run (R434): the contributions that it owes, its own chunk, and READY. -/
def State.beginColl (s0 : State) (k : Coll) : State :=
  let d := k.d
  let s := s0.reachFor k.ctx (cdSrc d) (cdSrcBytes d) false
  let e := s.endpoint k.ctx
  let others := (List.range k.n).filter (· != k.own)
  let gets := cdOp d = 1 ∨ cdOp d = 2 ∨ (cdOp d = 0 ∧ cdRoot d = k.own)
  let senders := if gets ∨ cdAlgo d ≠ 0 then others else [(k.own + k.n - 1) % k.n]
  let s1 := senders.foldl (fun s r => s.fabSend {
    dest := k.members.getD r 0, op := 5, cls := 0, job := epJob e, inc := epInc e, ctx := k.ctx
    gen := (s.ctx k.ctx).gen.toNat, tag := k.id, addr := cdScratch d } []) s
  let firsts : List CollSend :=
    if cdOp d = 2 then []
    else if cdAlgo d = 0 then
      let c := (k.own + k.n - 1) % k.n
      if cdChunkUnits d c = 0 then [] else [{ rank := (k.own + 1) % k.n, chunk := c, part := 0, lines := s.contribution d c }]
    else (others.filter (fun c => cdChunkUnits d c != 0)).map (fun c => { rank := c, chunk := c, part := 0, lines := s.contribution d c })
  let s2 := s1.updColl k.ctx k.node (fun k => { k with
    running := true, toSend := firsts
    passed := if cdAlgo d = 0 then SMap.set false k.passed ((k.own + k.n - 1) % k.n) true else k.passed
    arrived := [k.own]
    acc := if cdArrival d then s.contribution d k.own else []
    held := SMap.set [] k.held k.own (if cdArrival d ∨ cdOp d = 2 then [] else s.contribution d k.own) })
  let s3 := s2.flushSends k.ctx k.node
  if cdOp d = 2 then s3.ownResult k (s.contribution d k.own) else s3

/-- Begin the operation that waits longest for an engine, if the engine runs fewer than 16. -/
def State.beginNext (s : State) (engine : Nat) : State :=
  if 16 ≤ (s.fab.colls.filter (fun k => k.running && cdEngine k.d == engine)).length then s
  else match s.fab.colls.find? (fun k => !k.running && cdEngine k.d == engine) with
    | some k => s.beginColl k
    | none => s

/-- Write a range to bytes that the manual does not fix. -/
def State.writeFree (s : State) (a n : Nat) : State :=
  (s.memWrite a ((List.range n).map (fun i => (Config.freeByte (s.free + i)).toNat)) false).takeFree n

/-- Whether this member has an output. -/
def Coll.hasOutput (k : Coll) : Bool := cdOp k.d != 0 || cdRoot k.d == k.own

/-- An operation leaves its engine without having completed: what of it has not yet been handed to the router is dropped, DST holds
unspecified values, and it is counted (R438, R440). -/
def State.closeColl (s : State) (k : Coll) : State :=
  let s1 := (s.dropColl k.ctx k.node).dropUnsent (fun h => hOp h == 4 && hCtx h == k.ctx && hTag h == k.id)
  let s2 := if k.hasOutput then s1.writeFree (cdDst k.d) (cdDstBytes k.d) else s1
  s2.count 0x80A0 0x0C k.ctx 1

/-- End an operation here with a failure: its event and its node's status. -/
def State.endColl (s : State) (k : Coll) (st : Status) (cause device time : Nat) : State :=
  let tag := match (s.ctx k.ctx).graph with
    | some g => ((g.node? k.node).map (·.tag)).getD 0
    | none => 0
  let die := match (s.ctx k.ctx).graph with
    | some g => ((g.node? k.node).map (·.die)).getD 0
    | none => 0
  let s1 := s.closeColl k
  let s2 := if st = .peerReset then s1.postEvent k.ctx {
      code := 0x09, status := .peerReset, arg0 := at_ 32 32 k.id + at_ 18 2 cause + at_ 0 18 device, arg1 := time
      submitTag := s1.runTag k.ctx, nodeTag := tag, node := k.node, die := die }
    else s1.failEvent k.ctx 0x03 st k.addr k.node tag die 0 0
  (s2.completeNode k.ctx k.node st 0 0).beginNext (cdEngine k.d)

/-- This engine meets the cause: it tells the partition and ends the operation. -/
def State.abortColl (s : State) (k : Coll) (cause : Nat) : State :=
  (s.broadcastAbort k.ctx k.id cause).endColl k (abortStatus cause) cause s.device s.ftc

/-- The same for an operation named by context and COLL_ID. -/
def State.abortHere (s : State) (c collId cause : Nat) : State :=
  match s.fab.colls.find? (fun k => k.ctx == c && k.id == collId) with
  | some k => s.abortColl k cause
  | none => s

/-- End a context's collective operations here, telling their members (R373, R439); READYs for it that came early are forgotten. Those
of other contexts that waited for its engines begin. -/
def State.abortColls (s : State) (c cause : Nat) : State :=
  let ks := s.fab.colls.filter (fun k => k.ctx == c)
  ks.foldl (fun s k => s.beginNext (cdEngine k.d)) (ks.foldl (fun s k => (s.broadcastAbort c k.id cause).closeColl k)
    { s with fab := { s.fab with earlyReady := s.fab.earlyReady.filter (fun r => r.1 != c) } })

/-- Abort the operations of which a transfer that was under way before has been reported LOST since (R438). -/
def State.abortLost (s before : State) : State :=
  before.fab.flows.foldl (fun s f =>
    (f.2.transfers.filter (fun t => !(s.flow f.1).transfers.any (fun u => u.seq == t.seq))).foldl (fun s t =>
      s.abortHere (flowCtx f.2.entry.toNat) t.collId 3) s) s

end Sys2Proof.Machine
end

