-- ==== Sys2Proof/Machine/Registers.lean ====
section
/-! DEFINITION. What the registers of tile windows and context pages read (R85, R86, R199, R201, R216, R227, R228,
R266, R273, R274, R284, R297, R331, R333, R345, R364 to R366, R369, R380, R451). A register is read as 64-bit words at
offsets that are multiples of 8; offsets not listed read as zero. -/

namespace Sys2Proof.Machine

-- ---------------------------------------------------------------- tiles

/-- TILE_PORT_MODE (R199). -/
def Tile.portMode (t : Tile) : Nat :=
  at_ 16 8 (((List.range 4).map (fun k => at_ (2 * k) 2 (b2n (bitOf (t.slot k).header.toNat 46)))).sum)
  + at_ 8 1 (b2n t.split) + at_ 0 6 ((t.gb.filter (·.dirty)).length)

/-- A signed byte. -/
def signed8 (v : Nat) : Int := toInt 8 (v % 256)

/-- Frequency code in force at a site (R86). -/
def State.freqCode (s : State) (die site : Nat) : Nat := s.oppCode die site - (s.site die site).fapplied

/-- Voltage set point in mV, kept within the limits of R538. -/
def State.setPoint (s : State) (die site : Nat) : Nat :=
  let o : Int := s.oppMv die site
  let v := o + signed8 (s.obj 0x7404 0 (tkey die site)) + 10 * (s.site die site).vstep
  (min (o + 70) (max (o - 30) v)).toNat

/-- POWER of TILE_ISLAND (R86, R546). -/
def State.islandPower (s : State) (die site : Nat) : Nat :=
  let sl := (SMap.get {} s.test.slices (tkey die site)).st
  let test : Bool := (match s.tileAt die site with
    | some t => (s.tile die t).underTest
    | none => false) || sl == .running || sl == .reinit
  if test then 3 else match (s.site die site).idle with
    | 0 => 0 | 1 => 1 | _ => 2

/-- TILE_ISLAND of a logical tile (R86); 0 while it is unmapped. -/
def State.tileIsland (s : State) (die tile : Nat) : Nat :=
  match s.siteOf die tile with
  | none => 0
  | some i =>
    let x := s.site die i
    at_ 31 1 (b2n s.pwr.stretch) + at_ 29 2 (s.islandPower die i) + at_ 24 3 (s.freqCode die i) + at_ 20 4 x.fstep
    + at_ 16 4 x.vstep + at_ 0 12 (s.setPoint die i)

/-- A byte of TILE_BANK_OWNER (R201). -/
def Bank.reg (b : Bank) : Nat := at_ 7 1 (b2n b.valid) + at_ 0 4 b.ctx

def Slot.progOps (sl : Slot) : Nat := at_ 32 32 sl.retired.toNat + sl.beat.toNat
def Slot.progTokens (sl : Slot) : Nat := at_ 32 32 sl.sent.toNat + sl.received.toNat

def Queue.stateReg (q : Queue) : Nat :=
  at_ 62 2 q.st.code + at_ 32 13 q.ringCount + at_ 16 6 q.reserved + at_ 0 6 q.items.length
def Queue.totals (q : Queue) : Nat := at_ 32 32 q.arrived.toNat + q.discarded.toNat
def SendChan.stateReg (c : SendChan) : Nat := at_ 62 2 c.peer.code + at_ 32 13 c.credits + at_ 0 16 c.pending
def SendChan.totals (c : SendChan) : Nat := at_ 32 32 c.sent.toNat + c.spilled.toNat
def StreamPort.reg (p : StreamPort) : Nat :=
  at_ 60 4 p.ctx + at_ 52 8 p.circuit + at_ 48 4 p.streamer + at_ 47 1 (b2n p.valid) + at_ 0 10 p.lines.length

/-- SLOT_STATE (R297). -/
def Tile.slotState (t : Tile) (k : Nat) : Nat :=
  let sl := t.slot k
  let pending := sl.st.isCurrent && sl.swPhase != .none
  at_ 60 4 sl.ctx + at_ 52 8 sl.gen + at_ 50 2 sl.epoch + at_ 47 3 sl.st.code + at_ 46 1 (b2n (t.active == some k && sl.st.isCurrent))
  + at_ 42 4 sl.cardMatch + at_ 41 1 (b2n pending) + at_ 40 1 (b2n (pending && sl.swCut))
  + at_ 38 2 (if pending then sl.swTarget else 0) + at_ 34 4 (if pending then sl.swWait else 0) + at_ 16 8 sl.loadStatus.code + at_ 0 16 sl.pass

/-- Queue, channel and stream-port registers, offsets from 0x1000. -/
def Tile.chanReg (t : Tile) (reader off : Nat) : Nat :=
  if off < 0x1200 then
    let q := t.queue ((off - 0x1000) / 0x40)
    if reader ≠ 0 ∧ qCtx q.cfg.toNat ≠ reader then 0
    else match off % 0x40 / 8 with
      | 0 => q.cfg.toNat | 1 => q.ringCfg.toNat | 2 => q.stateReg | 3 => q.totals | _ => 0
  else if off < 0x1400 then 0
  else if off < 0x1800 then
    let sl := t.slot ((off - 0x1400) / 0x100)
    let c := sl.chan (off % 0x100 / 0x20)
    if reader ≠ 0 ∧ sl.ctx ≠ reader then 0
    else match off % 0x20 / 8 with
      | 0 => c.cfg.toNat | 1 => c.stateReg | 2 => c.totals | _ => 0
  else if off < 0x1840 then
    let p := t.stream ((off - 0x1800) / 0x10)
    if (reader ≠ 0 ∧ p.ctx ≠ reader) ∨ off % 0x10 ≠ 0 then 0 else p.reg
  else 0

/-- Card-slot and route-entry registers, offsets from 0x2000. -/
def State.slotReg (s : State) (reader die tile off : Nat) : Nat :=
  let t := s.tile die tile
  let own (k : Nat) : Bool := reader == 0 || (t.slot k).ctx == reader
  if off < 0x2100 then (if off % 0x40 = 0 ∧ own ((off - 0x2000) / 0x40) then t.slotState ((off - 0x2000) / 0x40) else 0)
  else if off < 0x2200 then 0
  else if off < 0x2300 then
    (if own ((off - 0x2200) / 0x40) then fld (t.slot ((off - 0x2200) / 0x40)).header.toNat (off % 0x40 * 8) 64 else 0)
  else if off < 0x4000 then 0
  else
    let k := (off - 0x4000) / 0x1000
    let port := off % 0x1000 / 0x40
    let pick := off % 0x40 / 4
    if port < 5 ∧ own k then
      s.slotEntry die tile (t.slot k) port pick + 2 ^ 32 * s.slotEntry die tile (t.slot k) port (pick + 1)
    else 0

/-- A word of a tile's registers, at an offset from 0x1C_0000 that is a multiple of 8 (R227, R228). -/
def State.tileReg (s : State) (reader die tile off : Nat) : Nat :=
  let t := s.tile die tile
  if off < 0x1000 then
    if (off = 0 ∨ off = 8) ∧ reader ≠ 0 ∧ !t.holdsSlot reader then 0
    else if off = 0 then t.portMode
    else if off = 8 then s.tileIsland die tile
    else if off = 0x10 then
      (if reader = 0 then (match s.siteOf die tile with
        | some i => (s.site die i).memErr.toNat
        | none => 0) else 0)
    else if 0x20 ≤ off ∧ off < 0x38 then leVal ((List.range 8).map (fun i => (t.bank (off - 0x20 + i)).reg))
    else if 0x100 ≤ off ∧ off < 0x140 then
      let sl := t.slot ((off - 0x100) / 0x10)
      if reader ≠ 0 ∧ sl.ctx ≠ reader then 0 else if off % 0x10 = 0 then sl.progOps else sl.progTokens
    else 0
  else if off < 0x2000 then t.chanReg reader off
  else s.slotReg reader die tile off

-- ---------------------------------------------------------------- context pages

/-- CTX_STATUS (R365). -/
def State.ctxStatus (s : State) (c : Nat) : Nat :=
  let x := s.ctx c
  at_ 48 8 x.gen.toNat + at_ 45 3 x.st.code + at_ 32 8 x.lastCause.code + at_ 16 16 x.resets.toNat + at_ 0 4 c

/-- A gate that a die's sequencer has reached and that has not opened (R453). -/
def Graph.waitsAt (g : Graph) (key die : Nat) : Bool :=
  g.isGate key && SMap.get 0 g.gateReached (2 * key + die) != 0 && !SMap.get false g.gatesOpen (2 * key + die)

def State.gateWait (s : State) (g : Graph) : Bool :=
  g.checked && (List.range s.factory.computeDies).any (fun d => g.waitsAt 0 d || (match g.nextSect d with
    | some k => g.waitsAt (k + 1) d
    | none => false))

/-- SEQ_STATUS (R333). -/
def State.seqStatus (s : State) (c : Nat) : Nat :=
  let x := s.ctx c
  let g : Graph := x.graph.getD {}
  at_ 48 16 g.tag + at_ 40 8 x.lastStatus.code + at_ 36 4 x.subs.length + at_ 35 1 (b2n x.graph.isSome)
  + at_ 34 1 (b2n (x.graph.isSome && s.gateWait g)) + at_ 33 1 (b2n g.failed) + at_ 32 1 (b2n x.submitRefused)
  + at_ 31 1 (b2n x.eqLost) + at_ 0 24 g.nodesDone

/-- Whether a context is being reset: IN_RESET of CTX_FENCE (R370). -/
def CtxSt.inReset : CtxSt → Bool
  | .inactive | .active => false
  | _ => true

/-- CTX_WINDOW_PENDING (R366). -/
def Ctx.pendingReg (x : Ctx) : Nat := at_ 1 1 (b2n (x.heldTiles.isSome || x.heldSlots.isSome)) + b2n (!x.heldWindowOn.isEmpty)

/-- A ring's four registers, from its base. -/
def RingQ.reg (r : RingQ) (i : Nat) : Nat :=
  match i with
  | 0 => r.base.toNat | 1 => r.cfg | 2 => r.tail.toNat | _ => r.head.toNat

/-- A word of the administration area in context 0's page (R366). -/
def State.adminReg (s : State) (off : Nat) : Nat :=
  if off < 0xA000 then fld (SMap.get 0 (s.ctx ((off - 0x8000) / 0x200)).windows (off % 0x200 / 0x10)) (off % 0x10 * 8) 64
  else if off < 0xA400 then
    let c := (off - 0xA000) / 0x40
    match off % 0x40 / 8 with
    | 0 => s.ctxStatus c
    | 1 => at_ 8 4 (s.ctx c).cmdStatus
    | 2 => (s.ctx c).pendingReg
    | 3 => (s.ctx c).slotMask
    | _ => 0
  else if off < 0xB000 then 0
  else
    let o := off - 0xB000
    if o % 0x100 < 0x80 then fld (SMap.get 0 (s.ctx (o / 0x100)).tiles (o % 0x100 / 0x40)) (o % 0x40 * 8) 64 else 0

/-- A word of a context's page (R364). -/
def State.pageReg (s : State) (c off : Nat) : Nat :=
  let x := s.ctx c
  if off = 0 then s.ctxStatus c
  else if off = 0x10 then x.numeric.toNat
  else if off = 0x100 then at_ 8 1 (b2n x.st.inReset)
  else if 0x200 ≤ off ∧ off < 0x220 then SMap.get 0 x.vranges ((off - 0x200) / 8)
  else if off = 0x408 then s.seqStatus c
  else if 0x420 ≤ off ∧ off < 0x440 then x.cq.reg ((off - 0x420) / 8)
  else if 0x440 ≤ off ∧ off < 0x460 then x.eq.reg ((off - 0x440) / 8)
  else if off = 0x600 then s.ftc
  else if off = 0x608 then x.launchAt.toNat
  else if off = 0x610 then at_ 32 16 x.gatesPassed.toNat + x.stepNs.toNat
  else if 0x620 ≤ off ∧ off < 0x640 then x.ledger.reg ((off - 0x620) / 8)
  else if off = 0x640 then s.counter 0x80B0 1 c
  else if off = 0x648 then s.counter 0x80B0 2 c
  else if c = 0 ∧ 0x8000 ≤ off ∧ off < 0xC000 then s.adminReg off
  else 0

/-- A word of registers at a local address that is a multiple of 8, as read by a context. -/
def State.regWord (s : State) (reader a : Nat) : Nat :=
  match place a with
  | .tileWin d t off => if isTileReg off then s.tileReg reader d t (off - 0x1C0000) else 0
  | .page c off => s.pageReg c off
  | _ => 0

/-- Whether an address names registers and not memory. -/
def isReg (a : Nat) : Bool :=
  match place a with
  | .tileWin _ _ off => decide (0x180000 ≤ off)
  | .page _ _ => true
  | _ => false

/-- Bytes at a local address, memory or registers, as a context reads them, with their poison. -/
def State.readAny (s : State) (reader a n : Nat) : List Nat × Bool :=
  if isReg a then ((List.range n).map (fun i => fld (s.regWord reader ((a + i) / 8 * 8)) ((a + i) % 8 * 8) 8), false)
  else s.memRead a n

end Sys2Proof.Machine
end

