-- ==== Sys2Proof/Machine/Contexts.lean ====
section
/-! DEFINITION. Contexts (chapter Contexts, fencing, hangs and resets; R201 to R203, R220 to R223): what context 0
writes, activation, the steps of a context reset, the vitrine and the hang detector. -/

namespace Sys2Proof.Machine

-- ---------------------------------------------------------------- bank owners (R201, R203)

/-- One byte of TILE_BANK_OWNER. -/
def Bank.write (b : Bank) (v : Nat) : Bank :=
  let valid := bitOf v 7
  let c := fld v 0 4
  { valid := valid, ctx := c, zeroing := b.zeroing || (valid && (!b.valid || b.ctx != c)) }

/-- A write of bytes of TILE_BANK_OWNER by context 0. -/
def State.writeBankOwner (s : State) (die tile : Nat) : Nat → List Nat → State
  | _, [] => s
  | off, v :: vs =>
    let s1 := if off < 24 then s.updTile die tile (fun t => { t with banks := SMap.upd {} t.banks off (fun b => b.write v) }) else s
    s1.writeBankOwner die tile (off + 1) vs

/-- R201, R203. Context 0 writes bytes of a tile's TILE_BANK_OWNER; an absent tile's ignores them (R3). -/
def execBankOwnerWrite (die tile off : Nat) (bytes : List Nat) (s : State) : Out :=
  if s.tilePresent die tile ∧ s.diesRun then .next (s.writeBankOwner die tile off bytes) else .next s

-- ---------------------------------------------------------------- windows (R220 to R223)

/-- The bits of a window entry that are not reserved. -/
def winMask (w : Nat) : Nat := at_ 76 34 (fld w 76 34) + at_ 30 34 (fld w 30 34) + fld w 0 6

/-- Replace bytes of a number. -/
def putBytes : Nat → Nat → List Nat → Nat
  | w, _, [] => w
  | w, off, b :: bs => putBytes (w - at_ (8 * off) 8 (fld w (8 * off) 8) + at_ (8 * off) 8 b) (off + 1) bs

/-- Whether a range meets a store at `base` of `len` bytes; base 0 disables the store. -/
def meetsStore (base len a n : Nat) : Bool := base != 0 && decide (a < base + len) && decide (base < a + n)

/-- Whether a user context's window would reach the vitrine store or the save store (R379, R548). -/
def State.reachesStore (s : State) (w : Nat) : Bool :=
  let b := winBase w
  meetsStore (s.obj 0x5016 1 0) 0x2000000 b (winEnd w - b) || meetsStore (s.obj 0x2030 2 0) 0x48000000 b (winEnd w - b)

/-- Whether replacing `old` by `new` narrows an entry in force. -/
def winNarrows (old new : Nat) : Bool :=
  winValid old && (!winValid new || decide (winBase old < winBase new) || decide (winEnd new < winEnd old)
    || [0, 1, 3, 4, 5].any (fun i => bitOf old i && !bitOf new i))

/-- Apply a whole entry (R221, R223). -/
def State.applyWindow (s : State) (c e w : Nat) : State :=
  let x := s.ctx c
  let old := SMap.get 0 x.windows e
  if winValid w && (!s.winFits w || (c != 0 && s.reachesStore w)) then s
  else if winNarrows old w && x.st.running then
    s.updCtx c (fun x => { x with heldWindows := SMap.set 0 x.heldWindows e w, heldWindowOn := SMap.set false x.heldWindowOn e true })
  else
    s.updCtx c (fun x => { x with
      windows := SMap.set 0 x.windows e w, heldWindows := SMap.set 0 x.heldWindows e 0, heldWindowOn := SMap.set false x.heldWindowOn e false })

/-- A write of bytes of an entry through its staging copy (R221). -/
def State.writeWindow (s : State) (c e off : Nat) (bytes : List Nat) : State :=
  let x := s.ctx c
  let cur := if SMap.get false x.stagingOn e then SMap.get 0 x.staging e else SMap.get 0 x.windows e
  let v := putBytes cur off (bytes.take (16 - off))
  if off ≤ 15 ∧ 15 < off + bytes.length then
    (s.updCtx c (fun x => { x with staging := SMap.set 0 x.staging e 0, stagingOn := SMap.set false x.stagingOn e false })).applyWindow c e (winMask v)
  else s.updCtx c (fun x => { x with staging := SMap.set 0 x.staging e v, stagingOn := SMap.set false x.stagingOn e true })

/-- R221. Context 0 writes bytes 0 to 15 of a window entry. -/
def execCtxWindowWrite (ctx entry off : Nat) (bytes : List Nat) (s : State) : Out :=
  if ctx < 16 ∧ entry < 32 ∧ off < 16 then .next (s.writeWindow ctx entry off bytes) else .next s

-- ---------------------------------------------------------------- tile grants (R369)

/-- Whether the grants of two user contexts would overlap on a tile. -/
def grantsOverlap (m1 m2 : Nat) (t1 t2 : SMap Nat) : Bool :=
  (m1 &&& m2) != 0 && (List.range 2).any (fun d => (SMap.get 0 t1 d &&& SMap.get 0 t2 d) != 0)

/-- Whether going from one grant to another removes a tile or a slot. -/
def grantRemoves (oldM newM : Nat) (oldT newT : SMap Nat) : Bool :=
  (oldM &&& newM) != oldM || (List.range 2).any (fun d => (SMap.get 0 oldT d &&& SMap.get 0 newT d) != SMap.get 0 oldT d)

/-- The tiles of either of two grants. -/
def grantJoin (t1 t2 : SMap Nat) : SMap Nat := SMap.set 0 (SMap.set 0 t1 0 (SMap.get 0 t1 0 ||| SMap.get 0 t2 0)) 1 (SMap.get 0 t1 1 ||| SMap.get 0 t2 1)

/-- The tiles of the first of two grants that the second does not have. -/
def grantMinus (t1 t2 : SMap Nat) : SMap Nat :=
  SMap.set 0 (SMap.set 0 [] 0 (SMap.get 0 t1 0 - (SMap.get 0 t1 0 &&& SMap.get 0 t2 0))) 1 (SMap.get 0 t1 1 - (SMap.get 0 t1 1 &&& SMap.get 0 t2 1))

/-- The slots and tiles in force that no write may take from a context now: all of an ACTIVE one's; behind a fence those whose removal
it holds, until CLEARING (R369). -/
def Ctx.grantKept (x : Ctx) : Nat × SMap Nat :=
  if x.st = .active then (x.slotMask, x.tiles)
  else (x.slotMask - (x.slotMask &&& x.heldSlots.getD x.slotMask), grantMinus x.tiles (x.heldTiles.getD x.tiles))

/-- A write of CTX_GRANT_CFG (`which` 0) or of a die's CTX_GRANT_TILES (1 + die; an absent die's are ignored, R3). What it takes from
an ACTIVE context is held until CLEARING, and what it adds takes effect at once (R369; log entry 49). -/
def State.writeGrant (s : State) (c which value : Nat) : State :=
  let x := s.ctx c
  let m := if which = 0 then fld value 0 4 else x.heldSlots.getD x.slotMask
  let t := if which = 0 then x.heldTiles.getD x.tiles else SMap.set 0 (x.heldTiles.getD x.tiles) (which - 1) (fld value 0 288)
  let m1 := x.grantKept.1 ||| m
  let t1 := grantJoin x.grantKept.2 t
  let hold := grantRemoves m1 m t1 t
  if which ≠ 0 ∧ !s.diePresent (which - 1) then s
  else if c ≠ 0 ∧ (List.range 15).any (fun j => j + 1 != c && grantsOverlap m1 (s.ctx (j + 1)).slotMask t1 (s.ctx (j + 1)).tiles) then s
  else s.updCtx c (fun x => { x with
    tiles := t1, slotMask := m1, heldTiles := if hold then some t else none, heldSlots := if hold then some m else none })

/-- R369. Context 0 writes a tile grant. -/
def execGrantWrite (ctx which value : Nat) (s : State) : Out :=
  if ctx < 16 ∧ which < 3 then .next (s.writeGrant ctx which value) else .next s

/-- Apply the narrowings that a context holds (R223, R369, R375). -/
def Ctx.applyHeld (x : Ctx) : Ctx :=
  { x with
    windows := x.heldWindowOn.foldl (fun m e => SMap.set 0 m e.1 (SMap.get 0 x.heldWindows e.1)) x.windows
    heldWindows := [], heldWindowOn := []
    tiles := x.heldTiles.getD x.tiles, slotMask := x.heldSlots.getD x.slotMask, heldTiles := none, heldSlots := none }

-- ---------------------------------------------------------------- activation (R367, R368)

def State.cmdStatus (s : State) (c st : Nat) : State := s.updCtx c (fun x => { x with cmdStatus := st })

/-- ACTIVATE (R367, R368): answers CMD_STATUS too. -/
def State.activateCtx (s : State) (c : Nat) : State × Nat :=
  if c = 0 then (s, 3)
  else match (s.ctx c).st with
    | .active => (s, 0)
    | .inactive =>
      if s.pwr.st ≠ .ready then (s, 1)
      else if s.cat.userContexts < c then (s, 2)
      else
        let s1 := (s.writeRingCfg c .cq 4).writeRingCfg c .eq 4
        let s2 := s1.updCtx c (fun x => { x with
          st := .active, numeric := 0, vranges := []
          cq := { x.cq with enable := false, host := false, irq := false, holdoff := 0, log2 := 4 }
          eq := { x.eq with enable := false, host := false, irq := false, holdoff := 0, log2 := 4 }
          stillMs := 0, stuckPosted := 0, hangSaid := false, stallKind := 0, stallEnd := 0, moved := false })
        ((s2.setCounter 0x8020 1 c 0).setCounter 0x8020 2 c 0, 0)
    | _ => (s, 1)

/-- ACTIVATE with CMD_STATUS recorded. -/
def State.ctrlActivate (s : State) (c : Nat) : State := (s.activateCtx c).1.cmdStatus c (s.activateCtx c).2

/-- R367, R368. ACTIVATE written to CTX_CTRL. -/
def execCtxActivate (ctx : Nat) (s : State) : Out := if 16 ≤ ctx then .next s else .next (s.ctrlActivate ctx)

-- ---------------------------------------------------------------- starting a reset (R370, R371, R378)

/-- Whether an active injection of a hang or of a queue stall is aimed at the context (R521, R524). -/
def State.rehearsedHang (s : State) (c : Nat) : Bool :=
  s.test.injects.any (fun i => i.active && fld i.record.toNat 36 4 == c && (fld i.record.toNat 24 8 == 5 || fld i.record.toNat 24 8 == 6))

/-- Start a context reset: the collective engines end its operations and tell their members at once (R439); on a context already
being reset nothing starts, and a source that ends INACTIVE changes the ending state (R378). -/
def State.startReset (s : State) (c : Nat) (cause : Cause) (endsActive rehearsal : Bool) (arg0 arg1 : Nat) : State :=
  if c = 0 then s
  else match (s.ctx c).st with
    | .inactive => s
    | .active => (s.abortColls c 0).updCtx c (fun x => { x with
        st := .fencing
        reset? := some { cause := cause, endsActive := endsActive, rehearsal := rehearsal, arg0 := arg0, arg1 := arg1, ftcTrigger := s.ftc } })
    | _ => if endsActive then s else s.updCtx c (fun x => { x with reset? := x.reset?.map (fun r => { r with endsActive := false }) })

/-- RESET and RESET_KEEP of CTX_CTRL (R367): answers CMD_STATUS too. -/
def State.resetCmd (s : State) (c : Nat) (keep : Bool) : State × Nat :=
  if c = 0 then (s, 3)
  else if (s.ctx c).st = .inactive then (s, if keep then 1 else 0)
  else (s.startReset c .admin keep false 0 0, 0)

/-- RESET or RESET_KEEP with CMD_STATUS recorded. -/
def State.ctrlReset (s : State) (c : Nat) (keep : Bool) : State := (s.resetCmd c keep).1.cmdStatus c (s.resetCmd c keep).2

/-- R367. RESET written to CTX_CTRL. -/
def execCtxReset (ctx : Nat) (s : State) : Out := if 16 ≤ ctx then .next s else .next (s.ctrlReset ctx false)

/-- R367. RESET_KEEP written to CTX_CTRL. -/
def execCtxResetKeep (ctx : Nat) (s : State) : Out := if 16 ≤ ctx then .next s else .next (s.ctrlReset ctx true)

/-- RESET written to a context's CTX_FENCE; to context 0's own it is not applied (R359, R370). -/
def State.fenceWrite (s : State) (c : Nat) (byContext0 : Bool) : State :=
  if c = 0 then s else if byContext0 then s.ctrlReset c true else s.startReset c .self true false 0 0

/-- R370. RESET written to a context's CTX_FENCE: by its own function, or by context 0. -/
def execCtxFenceReset (ctx : Nat) (byContext0 : Bool) (s : State) : Out :=
  if 16 ≤ ctx then .next s else .next (s.fenceWrite ctx byContext0)

-- ---------------------------------------------------------------- the selvedge (R373)

/-- The stall source of a tile-op in flight at the head of a card (R80): 0 where none holds it. -/
def State.flightSource (s : State) (die tile : Nat) (o : InFlight) : Nat :=
  let t := s.tile die tile
  let sl := t.slot o.slot
  if o.syncWait then 2
  else if o.phase = .waiting then 3
  else if o.todo then
    if o.d.recvQueues.any (fun q => (t.headToken q sl.epoch).isNone) then 4
    else if s.refHeld die tile o then 7
    else match o.d.sendChan with
      | some ch => if t.sendSt o.slot ch = .blocked then 5 else 0
      | none => 0
  else if o.d.opc = .fenceLocal ∨ 0 < o.awaiting then 6
  else if o.phase = .done ∧ o.held then 7
  else if 0 < o.streamNeed + o.streamNeedB then 8
  else if t.zeroingIn (o.d.crOffset * 32) 32 then 9 else 0

/-- The stall source of what stands at the head of a card (R80, R383), as far as the state shows one: of the oldest tile-op in
flight, else of the next to issue; none for a card that has finished or halted. -/
def State.headSource (s : State) (die tile k : Nat) : Nat :=
  let t := s.tile die tile
  let sl := t.slot k
  if sl.st = .finished ∨ sl.st = .halted then 0
  else match t.ops.find? (fun o => o.slot == k) with
  | some o => s.flightSource die tile o
  | none =>
    let paused : Bool := match s.siteOf die tile with
      | some i => (s.site die i).fstep != (s.site die i).fapplied
      | none => false
    if paused then 1
    else if t.active ≠ some k then 2
    else if sl.prog.isEmpty then 0
    else
      let d : Desc := sl.next
      let o := s.newOp die tile k d (sl.voids d)
      if t.checks.any (fun c => c.hazard o.reads o.writes.tail) then 3 else if t.zeroWait d then 9 else 0

/-- The fields of a tile record that stand at the selvedge (R383). -/
def State.headRecord (s : State) (die tile k : Nat) : Nat :=
  let t := s.tile die tile
  let sl := t.slot k
  let head := match sl.st with
    | .halted => sl.haltDesc.toNat
    | .finished => 0
    | _ => match t.ops.find? (fun o => o.slot == k) with
      | some o => o.desc.toNat
      | none => if sl.prog.isEmpty then 0 else sl.next
  let site := (s.siteOf die tile).getD 0
  at_ 1536 512 head + at_ 448 64 (t.slotState k) + at_ 384 64 sl.progOps + at_ 320 64 sl.progTokens
  + at_ 60 4 (s.headSource die tile k) + at_ 58 2 k + at_ 57 1 die + at_ 56 1 (b2n (t.active == some k)) + at_ 47 9 tile
  + at_ 42 5 (siteCol site) + at_ 38 4 (siteRow site)

/-- Tile records of a context's current cards, in the order of die, tile and slot (R381). -/
def State.headRecords (s : State) (c : Nat) : List (Nat × Nat × Nat × Nat) :=
  ((List.range s.factory.computeDies).map (fun d => (List.range 288).filterMap (fun t =>
    ((s.tile d t).currentSlot c).map (fun k => (d, t, k, s.headRecord d t k))))).flatten

/-- Fence the queues of a context on a tile: FENCED, with a notice to the sender (R289). -/
def State.fenceQueues (s : State) (die tile c : Nat) : State :=
  (List.range 8).foldl (fun s q =>
    let x := (s.tile die tile).queue q
    if qCtx x.cfg.toNat = c ∧ (x.st = .open_ ∨ x.st = .closed) then
      (s.updTile die tile (fun t => t.updQueue q (fun x => { x with stSaved := x.st, st := .fenced }))).notice die tile q 2
    else s) s

/-- A tile's controller at the selvedge of a context: tile-ops discarded, pending switches ended, landing buffers
discarded, ACTIVE moved. -/
def Tile.fence (t : Tile) (c : Nat) : Tile :=
  let mine (k : Nat) : Bool := (t.slot k).st != .empty && (t.slot k).ctx == c
  let t1 := { t with ops := t.ops.filter (fun o => !mine o.slot), checks := t.checks.filter (fun c => !mine c.op.slot) }
  let t2 := (List.range 4).foldl (fun t k => if mine k then
    t.updSlot k (fun sl => { sl with swPhase := .none, swWait := 0, swSection := false }) else t) t1
  let t3 := (List.range 4).foldl (fun t p => if (t.stream p).ctx = c ∧ (t.stream p).valid then t.updStream p (fun x => { x with lines := [] }) else t) t2
  match t3.active with
  | some k =>
    if mine k then
      match (ctxsAfter c).filterMap (fun b => if b = c then none else t3.runnable b) with
      | j :: _ => t3.activate j
      | [] => t3
    else t3
  | none => t3

/-- What every unit of a die does at the selvedge. -/
def State.fenceDie (s : State) (c d : Nat) : State :=
  let s1 := (List.range 288).foldl (fun s t =>
    let x := s.tile d t
    if x.holdsSlot c || (List.range 8).any (fun q => qCtx (x.queue q).cfg.toNat == c && (x.queue q).st != .idle) then
      (s.fenceQueues d t c).updTile d t (fun t => t.fence c)
    else s) s
  (s1.updDie d (fun x => { x with
    streams := (List.range 12).foldl (fun m n => SMap.upd [] m n (fun ss => ss.filter (fun y => y.ctx != c))) x.streams })).cancelSwitches d c

/-- Draw the selvedge of a context (R372 step 2, R373). -/
def State.drawSelvedge (s : State) (c : Nat) : State :=
  let early := ((s.ctx c).reset?.map (·.records)).getD []
  let recs := (s.headRecords c).map (fun r => (early.find? (fun q => q.1 == r.1 && q.2.1 == r.2.1 && q.2.2.1 == r.2.2.1)).getD r)
  let sq := s.seqStatus c
  let s1 := (List.range s.factory.computeDies).foldl (fun s d => s.fenceDie c d) s
  let s2 := (({ s1 with accs := (s1.accs.filter (fun a => !(a.ctx == c && a.held))).map (fun (a : Access) => if a.ctx = c then { a with orphan := true } else a) } : State).abortColls c 0).dropUnsent (fun h => hCtx h == c)
  s2.updCtx c (fun x => { x with
    st := .draining
    reset? := some { x.reset?.getD {} with ftcFenced := s.ftc, ranges := x.vranges, seqStatus := sq, records := recs } })

/-- R372 step 2, R373. The SELVEDGE command has reached every unit. Context 0 is fenced only in a compute warm reset. -/
def execSelvedge (ctx : Nat) (s : State) : Out :=
  let st := (s.ctx ctx).st
  if ctx < 16 ∧ (st = .fencing ∨ (ctx = 0 ∧ st = .active ∧ s.pwr.warm = .draining)) then .next (s.drawSelvedge ctx) else .next s

-- ---------------------------------------------------------------- the drain (R374)

/-- Whether the vitrine store takes a context's sample: enabled and, in a compute warm reset, in HBM that is kept. -/
def State.storeOn (s : State) : Bool :=
  let b := s.obj 0x5016 1 0
  b != 0 && (s.pwr.warm == .none || (!s.pwr.warmClear && decide (b < 0x004800000000)))

def State.storeSlot (s : State) (c : Nat) : Nat := s.obj 0x5016 1 0 + 0x200000 * c

/-- The SAMPLING step begins: MAGIC is written as zero (R381). -/
def State.beginSample (s : State) (c : Nat) : State :=
  let s1 := s.updCtx c (fun x => { x with st := .sampling })
  if s.storeOn then s1.memWrite (s.storeSlot c) [0, 0] false else s1

/-- R374. Every request made before the selvedge has its response. -/
def execResetDrainEnd (ctx : Nat) (s : State) : Out :=
  if (s.ctx ctx).st = .draining ∧ !s.accs.any (fun a => a.ctx == ctx && a.orphan && a.device == s.device) then
    .next (s.beginSample ctx)
  else .next s

/-- R374. The drain is abandoned. -/
def execResetDrainTimeout (ctx : Nat) (s : State) : Out :=
  if (s.ctx ctx).st = .draining then
    let s1 : State := { s with accs := s.accs.filter (fun a => !(a.ctx == ctx && a.orphan && a.device == s.device)) }
    .next ((s1.updCtx ctx (fun x => { x with reset? := x.reset?.map (fun r => { r with drainTimeout := true }) })).beginSample ctx)
  else .next s

-- ---------------------------------------------------------------- the vitrine (R380 to R384)

def vrValid (r : Nat) : Bool := bitOf r 63
def vrLines (r : Nat) : Nat := fld r 46 13
def vrBase (r : Nat) : Nat := fld r 6 40 * 64

/-- Whether a line may be copied into a context's sample. -/
def State.mayCopy (s : State) (c a : Nat) : Bool :=
  s.inWindow c a 64 [0] || (match place a with
    | .tileWin d t off => s.present a 64 && decide (off + 64 ≤ 0x180000) && s.ownsBanks c d t off 64
    | _ => false)

def State.rangeOk (s : State) (c r : Nat) : Bool :=
  decide (1 ≤ vrLines r) && decide (vrLines r ≤ 4096) && (List.range (vrLines r)).all (fun i => s.mayCopy c (vrBase r + 64 * i))

/-- Copy lines with their poison; of a line of tile memory a dirty copy in the gather buffer is written back first (R198). -/
def State.copyLines (s : State) (src dst n : Nat) : State :=
  (List.range n).foldl (fun s i =>
    let l := s.memLine (src + 64 * i)
    (s.gbWeft (src + 64 * i) false).memWrite (dst + 64 * i) (leBytes 64 l.data) l.poison) s

/-- A tile record complete: queue and channel states as they stand, HEAD_STALL a free value. -/
def State.fullRecord (s : State) (i : Nat) (r : Nat × Nat × Nat × Nat) : Nat :=
  let t := s.tile r.1 r.2.1
  let sl := t.slot r.2.2.1
  let free := leVal ((List.range 4).map (fun j => (Config.freeByte (s.free + 4 * i + j)).toNat))
  let stall := match sl.st with
    | .finished => 0
    | .halted => sl.haltStall.getD free
    | _ => free
  r.2.2.2 + at_ 288 32 stall
  + ((List.range 8).map (fun q => if SMap.get 0 sl.queueImgs q = 0 then 0 else at_ (1024 + 64 * q) 64 (t.queue q).stateReg)).sum
  + ((List.range 8).map (fun ch => if SMap.get 0 sl.chanImgs ch = 0 then 0 else at_ (512 + 64 * ch) 64 (sl.chan ch).stateReg)).sum

/-- The vitrine header (R382). -/
def State.vitrineHeader (s : State) (c : Nat) (r : ResetRun) (nrec skipped poisoned : Nat) (ranges : SMap Nat) : Nat :=
  let x := s.ctx c
  ((List.range 4).map (fun i => at_ (1344 + 64 * i) 64 (SMap.get 0 ranges i))).sum
  + at_ 1280 64 s.ftc + at_ 1216 64 r.ftcFenced + at_ 1152 64 r.ftcTrigger + at_ 1088 64 r.arg1 + at_ 1024 64 r.arg0
  + at_ 960 64 r.seqStatus + at_ 928 32 r.nacked + at_ 896 32 r.timedOut + at_ 864 32 r.discarded + at_ 832 32 nrec
  + at_ 96 16 (x.resets.toNat + 1) + at_ 92 4 skipped + at_ 88 4 poisoned + at_ 80 8 r.cause.code + at_ 79 1 (b2n r.rehearsal)
  + at_ 78 1 (b2n r.warm) + at_ 77 1 (b2n r.drainTimeout) + at_ 64 8 x.gen.toNat + at_ 60 4 c + at_ 24 8 1 + 0xB17E

/-- Whether a range that the sample of a context must copy lies in a bank still being written to zero (R203). -/
def State.sampleWaits (s : State) (c late : Nat) : Bool :=
  let ranges := (((s.ctx c).reset?.map (·.ranges)).getD [])
  (List.range 4).any (fun i =>
    let g := SMap.get 0 ranges i
    s.storeOn && vrValid g && s.rangeOk c g && !late.testBit i && s.zeroingAt (vrBase g) (64 * vrLines g))

/-- Take the sample of a context; `late` are the ranges not copied within 10 ms (R381). -/
def State.takeSample (s : State) (c late : Nat) : State :=
  let r : ResetRun := (s.ctx c).reset?.getD {}
  let on := s.storeOn
  let base := s.storeSlot c
  let recs := if on then (List.range r.records.length).map (fun i => s.fullRecord i (r.records.getD i (0, 0, 0, 0))) else []
  let s1 := ((List.range recs.length).foldl (fun s i => s.memWrite (base + 0x1000 + 256 * i) (leBytes 256 (recs.getD i 0)) false) s).takeFree (4 * recs.length)
  let valid := (List.range 4).filter (fun i => on && vrValid (SMap.get 0 r.ranges i))
  let ok := valid.filter (fun i => s.rangeOk c (SMap.get 0 r.ranges i) && !late.testBit i)
  let s2 := ok.foldl (fun s i =>
    let g := SMap.get 0 r.ranges i
    s.copyLines (vrBase g) (base + 0x40000 + 0x40000 * i) (vrLines g)) s1
  let skipped := maskOf (valid.filter (fun i => !ok.contains i))
  let poisoned := maskOf (ok.filter (fun i =>
    let g := SMap.get 0 r.ranges i
    (s.memRead (vrBase g) (64 * vrLines g)).2))
  let h := s2.vitrineHeader c r recs.length skipped poisoned (if on then r.ranges else [])
  let s3 := if on then s2.memWrite base (leBytes 256 h) false else s2
  ({ s3 with vheaders := SMap.set 0 s3.vheaders c h }).count 0x8090 6 0 1

/-- R381 to R384. The vitrine sample is complete. -/
def execVitrineSampleDone (ctx late : Nat) (s : State) : Out :=
  if (s.ctx ctx).st = .sampling ∧ !s.sampleWaits ctx late then .next ((s.takeSample ctx late).updCtx ctx (fun x => { x with st := .clearing })) else .next s

-- ---------------------------------------------------------------- clearing (R375)

/-- Give up the queues and stream ports of a context on every tile. -/
def State.freeQueues (s : State) (c : Nat) : State :=
  (List.range 2).foldl (fun s d => (List.range 288).foldl (fun s t =>
    let x := s.tile d t
    if (List.range 8).any (fun q => qCtx (x.queue q).cfg.toNat == c && (x.queue q).st != .idle)
        || (List.range 4).any (fun p => (x.stream p).valid && (x.stream p).ctx == c) then
      s.updTile d t (fun t =>
        let t1 := (List.range 8).foldl (fun t q => t.updQueue q (fun y =>
          if qCtx y.cfg.toNat = c ∧ y.st ≠ .idle then { arrived := y.arrived, discarded := y.discarded } else y)) t
        (List.range 4).foldl (fun t p => t.updStream p (fun y => if y.valid ∧ y.ctx = c then {} else y)) t1)
    else s) s) s

/-- Disarm a context's endpoint (R417). -/
def State.disarm (s : State) (c : Nat) : State :=
  { s with fab := { s.fab with endpoints := SMap.upd 0 s.fab.endpoints c (fun e => e % 2 ^ 63) } }

/-- Clear a context's work: slots, graph, held narrowings, generation, endpoint. -/
def State.clearCtx (s : State) (c : Nat) : State :=
  let cause : Cause := match (s.ctx c).reset? with
    | some r => r.cause
    | none => .none
  let s1 := ((s.releaseAll c).freeQueues c).updCtx c (fun x => { x with subs := [] })
  let s2 := if (s1.ctx c).graph.isSome then s1.graphDone c .fenced else s1
  let s3 := s2.updCtx c (fun x => { x.applyHeld with
    gen := x.gen + 1, resets := x.resets + 1, lastCause := cause
    cqWait := x.cqWait.map (fun w => { w with node := none })
    stillMs := 0, stuckPosted := 0, hangSaid := false, stallKind := 0, stallEnd := 0, moved := false, poisonUses := [], containing := false })
  (s3.disarm c).count 0x8090 1 c 1

/-- Whether a re-placement of a tile on which the context holds a slot is in progress (R376). -/
def State.moving (s : State) (c : Nat) : Bool := s.cur.replacements.any (fun r => (s.tile r.die r.tile).holdsSlot c)

/-- R375. The context's work state is cleared. In a compute warm reset this happens when the dies are reset. -/
def execResetClearing (ctx : Nat) (s : State) : Out :=
  if (s.ctx ctx).st = .clearing ∧ !s.moving ctx ∧ s.pwr.warm = .none then
    .next ((s.clearCtx ctx).updCtx ctx (fun x => { x with st := .quiet }))
  else .next s

/-- R372 step 6. The quiet period ends. -/
def execQuietPeriodEnd (ctx : Nat) (s : State) : Out :=
  match (s.ctx ctx).st, (s.ctx ctx).reset? with
  | .quiet, some r =>
    if s.pwr.warm ≠ .none then .next s
    else .next (s.updCtx ctx (fun x =>
      if r.endsActive then { x with st := .active, reset? := none }
      else { x.applyHeld with st := .inactive, reset? := none }))
  | _, _ => .next s

-- ---------------------------------------------------------------- the hang detector (R385 to R390)

/-- Unfinished cards of a context, in the order of die and tile (R385). -/
def State.unfinished (s : State) (c : Nat) : List (Nat × Nat × Nat) :=
  ((List.range s.factory.computeDies).map (fun d => (List.range 288).filterMap (fun t =>
    match (s.tile d t).currentSlot c with
    | some k => if ((s.tile d t).slot k).st = .current then some (d, t, k) else none
    | none => none))).flatten

def State.cardChanged (s : State) (x : Nat × Nat × Nat) : Bool :=
  let sl := (s.tile x.1 x.2.1).slot x.2.2
  sl.progOps != sl.lastOps || sl.progTokens != sl.lastTokens

/-- Whether a channel or stream port that a card configures is PAUSED at either end (R386). -/
def State.cardPaused (s : State) (x : Nat × Nat × Nat) : Bool :=
  let t := s.tile x.1 x.2.1
  let sl := t.slot x.2.2
  (List.range 8).any (fun ch => (sl.chan ch).peer == .paused)
  || (List.range 4).any (fun p => (t.stream p).paused && SMap.get 0 sl.streamImgs p != 0)
  || (List.range 8).any (fun q => SMap.get 0 sl.queueImgs q != 0 &&
      (let w := (t.queue q).cfg.toNat
       match (s.tile x.1 (qSrcTile w)).currentSlot sl.ctx with
       | some k => (((s.tile x.1 (qSrcTile w)).slot k).chan (qSrcChan w)).peer == .paused
       | none => false))

/-- Post a HANG event (R390) that names a card, or no card of a context that has none unfinished. -/
def State.hangEvent (s : State) (c : Nat) (card : Option (Nat × Nat × Nat)) (ctxKind : Bool) (ms n : Nat) : State :=
  let x := s.ctx c
  let arg1 := at_ 46 2 x.stallKind + at_ 45 1 (b2n (x.stallKind != 0)) + at_ 32 13 x.stallEnd + at_ 0 32 n
  match card with
  | some (d, t, k) =>
    let sl := (s.tile d t).slot k
    let tag := match x.graph with
      | some g => ((g.node? sl.node).map (·.tag)).getD 0
      | none => 0
    s.postEvent c {
      code := 0x06, status := .hang, arg0 := at_ 63 1 (b2n ctxKind) + at_ 0 32 ms, arg1 := arg1, submitTag := s.runTag c
      nodeTag := tag, node := sl.node, die := d, tile := t, slot := k }
  | none => s.postEvent c {
      code := 0x06, status := .hang, arg0 := at_ 63 1 (b2n ctxKind) + at_ 0 32 ms, arg1 := arg1, submitTag := s.runTag c }

/-- Sample one card (R386). -/
def State.sampleCard (s : State) (c : Nat) (x : Nat × Nat × Nat) : State :=
  let t := s.tile x.1 x.2.1
  let sl := t.slot x.2.2
  let changed := s.cardChanged x
  let still := if changed || t.active != some x.2.2 || s.cardPaused x then 0 else sl.stillMs + 1
  let hung := decide (s.obj 0x5014 2 c ≤ still) && !sl.hangPosted
  let s1 := s.updTile x.1 x.2.1 (fun t => t.updSlot x.2.2 (fun sl => { sl with
    stillMs := still, lastOps := sl.progOps, lastTokens := sl.progTokens
    hangPosted := if changed then false else sl.hangPosted || hung }))
  if !hung then s1
  else
    let s2 := s1.count 0x8090 3 c 1
    if (s.ctx c).stuckPosted < 16 then
      (s2.hangEvent c (some x) false still 0).updCtx c (fun y => { y with stuckPosted := y.stuckPosted + 1 })
    else s2

/-- Excuses of R385 for the context as a whole. -/
def State.hangExcused (s : State) (c : Nat) (g : Graph) (cards : List (Nat × Nat × Nat)) : Bool :=
  (g.nodes.filter (fun n => n.st != .posting && g.ready n)).all (fun n => n.kind == 3 && !SMap.get false g.released n.idx)
  || cards.any (fun x => (s.tile x.1 x.2.1).active != some x.2.2)
  || (List.range s.factory.computeDies).any (fun d => s.anyPaused d c)

/-- R385 to R388. The 1 ms sample of a context with a running graph. -/
def execHangSample (ctx : Nat) (s : State) : Out :=
  match (s.ctx ctx).st, (s.ctx ctx).graph with
  | .active, some g =>
    let cards := s.unfinished ctx
    let moved := (s.ctx ctx).moved || cards.any s.cardChanged
    let quiet := moved || s.hangExcused ctx g cards
    let still := if quiet then 0 else (s.ctx ctx).stillMs + 1
    let said := (s.ctx ctx).hangSaid && !moved
    let hung := decide (s.obj 0x5014 1 ctx ≤ still) && !said
    let s1 := s.updCtx ctx (fun x => { x with
      moved := false, stillMs := still, hangSaid := said || hung, stuckPosted := if quiet then 0 else x.stuckPosted })
    let s2 := cards.foldl (fun s x => s.sampleCard ctx x) s1
    if hung then
      let s3 := (s2.hangEvent ctx cards.head? true still cards.length).count 0x8090 2 ctx 1
      if s.obj 0x5014 3 ctx = 1 then
        let x := s2.ctx ctx
        let arg1 := at_ 46 2 x.stallKind + at_ 45 1 (b2n (x.stallKind != 0)) + at_ 32 13 x.stallEnd + at_ 0 32 cards.length
        .next (s3.startReset ctx .hang true (s.rehearsedHang ctx) (at_ 63 1 1 + at_ 0 32 still) arg1)
      else .next s3
    else .next s2
  | _, _ => .next s

end Sys2Proof.Machine
end

