-- ==== Sys2Proof/Machine/RegWrite.lean ====
section
/-! DEFINITION. What writes to the registers of tile windows and context pages do (R13, R86, R106, R201, R228, R331 to
R337, R345, R364 to R370, R380, R451, R462). A write of any width is a write of the 64-bit words it touches: read-write
fields keep the bytes that it leaves out, and fields that act on a written 1 see those bytes as zero (log entry 23). -/

namespace Sys2Proof.Machine

/-- Cut a write into 64-bit words: the word's address, the first byte written in it, and its bytes. -/
def cutWords : Nat → Nat → List Nat → List (Nat × Nat × List Nat)
  | 0, _, _ => []
  | _, _, [] => []
  | k + 1, a, b :: bs =>
    (a / 8 * 8, a % 8, (b :: bs).take (8 - a % 8)) :: cutWords k (a + (8 - a % 8)) ((b :: bs).drop (8 - a % 8))

/-- One word of a tile's registers, at an offset from 0x1C_0000: only TILE_ISLAND and TILE_BANK_OWNER are written,
and only by context 0; an absent tile's ignore it (R3, R56, R227). -/
def State.writeTileWord (s : State) (die tile off b : Nat) (bs : List Nat) : State :=
  if !s.tilePresent die tile then s
  else if off = 8 then s.writeIsland die tile (putBytes (s.tileIsland die tile) b bs)
  else if 0x20 ≤ off ∧ off < 0x38 then s.writeBankOwner die tile (off - 0x20 + b) bs
  else s

/-- A register of a ring: base, configuration, tail (read-only), head. -/
def State.writeRingReg (s : State) (c : Nat) (k : RingKind) (i v : Nat) : State :=
  match i with
  | 0 => s.updCtx c (fun x => x.setRing k ((x.ring k).writeBase v))
  | 1 => s.writeRingCfg c k v
  | 3 => s.updCtx c (fun x => x.setRing k { x.ring k with head := BitVec.ofNat 32 v })
  | _ => s

/-- CMD of CTX_CTRL (R366, R367). -/
def State.writeCtrl (s : State) (c m : Nat) : State :=
  match fld m 0 3 with
  | 0 => s
  | 1 => s.ctrlActivate c
  | 2 => s.ctrlReset c false
  | 3 => s.ctrlReset c true
  | _ => s.cmdStatus c 4

/-- A word of the administration area (R366): windows byte by byte, commands and grants. -/
def State.writeAdminWord (s : State) (off b : Nat) (bs : List Nat) : State :=
  if off < 0xA000 then s.writeWindow ((off - 0x8000) / 0x200) (off % 0x200 / 0x10) (off % 0x10 + b) bs
  else if off < 0xA400 then
    let c := (off - 0xA000) / 0x40
    match off % 0x40 / 8 with
    | 1 => s.writeCtrl c (putBytes 0 b bs)
    | 3 => s.writeGrant c 0 (putBytes ((s.ctx c).heldSlots.getD (s.ctx c).slotMask) b bs)
    | _ => s
  else if off < 0xB000 then s
  else
    let c := (off - 0xB000) / 0x100
    let d := off % 0x100 / 0x40
    if d < 2 then s.writeGrant c (1 + d) (putBytes (SMap.get 0 ((s.ctx c).heldTiles.getD (s.ctx c).tiles) d) (off % 0x40 + b) bs)
    else s

/-- CTX_NUMERIC (R106): bits 1:0 take the value, bits 15:10 clear where a 1 is written. -/
def State.writeNumeric (s : State) (c v m : Nat) : State :=
  s.updCtx c (fun x => { x with numeric := BitVec.ofNat 32 (fld v 0 2 + at_ 10 6 (fld x.numeric.toNat 10 6 - (fld x.numeric.toNat 10 6 &&& fld m 10 6))) })

/-- SEQ_STATUS (R333): SUBMIT_REFUSED and EQ_LOST clear where a 1 is written. -/
def State.writeSeqStatus (s : State) (c m : Nat) : State :=
  s.updCtx c (fun x => { x with
    submitRefused := x.submitRefused && !bitOf m 32
    eqLost := x.eqLost && !bitOf m 31 })

/-- A word of a context's page, written by a context that may reach it. -/
def State.writePageWord (s : State) (writer c off b : Nat) (bs : List Nat) : State :=
  let v := putBytes (s.pageReg c off) b bs
  let m := putBytes 0 b bs
  if off = 0x10 then s.writeNumeric c v m
  else if off = 0x100 then (if bitOf m 0 then s.fenceWrite c (writer == 0) else s)
  else if 0x200 ≤ off ∧ off < 0x220 then
    s.updCtx c (fun x => { x with vranges := SMap.set 0 x.vranges ((off - 0x200) / 8) (at_ 63 1 (fld v 63 1) + at_ 46 13 (fld v 46 13) + at_ 6 40 (fld v 6 40)) })
  else if off = 0x400 then s.doorbell c m
  else if off = 0x408 then s.writeSeqStatus c m
  else if off = 0x410 then s.seqRelease c m
  else if 0x420 ≤ off ∧ off < 0x440 then s.writeRingReg c .cq ((off - 0x420) / 8) v
  else if 0x440 ≤ off ∧ off < 0x460 then s.writeRingReg c .eq ((off - 0x440) / 8) v
  else if off = 0x608 then s.writeLaunchAt c v
  else if off = 0x610 then s.updCtx c (fun x => { x with stepNs := BitVec.ofNat 32 v })
  else if 0x620 ≤ off ∧ off < 0x640 then s.writeRingReg c .ledger ((off - 0x620) / 8) v
  else if c = 0 ∧ 0x8000 ≤ off ∧ off < 0xC000 then s.writeAdminWord off b bs
  else s

/-- One word of registers at a local address, written by a context. -/
def State.writeRegWord (s : State) (writer a b : Nat) (bs : List Nat) : State :=
  match place a with
  | .tileWin d t off => if writer = 0 ∧ isTileReg off then s.writeTileWord d t (off - 0x1C0000) b bs else s
  | .page c off => if writer = c ∨ writer = 0 then s.writePageWord writer c off b bs else s
  | _ => s

/-- Write bytes at a local address, memory or registers, as a context writes them. -/
def State.writeAny (s : State) (writer a : Nat) (bs : List Nat) (poison : Bool) : State :=
  if isReg a then (cutWords bs.length a bs).foldl (fun s w => s.writeRegWord writer w.1 w.2.1 w.2.2) s
  else s.memWrite a bs poison

end Sys2Proof.Machine
end

