-- ==== Sys2Proof/Machine/Weft.lean ====
section
/-! DEFINITION. The weft mesh (chapters Scratchpads and memory, The weft mesh and the I/O ring): what happens to an
access at its target and to its response at the requester, atomics, timeouts, link errors, table switches and
scrubbing. -/

namespace Sys2Proof.Machine

-- ---------------------------------------------------------------- performing an access

/-- The line at an address, memory or registers, as a context reads it. -/
def State.readLine (s : State) (c a : Nat) : Line :=
  let r := s.readAny c a 64
  { data := leVal r.1, poison := r.2 }

def State.readLines (s : State) (c a n : Nat) : List Line := (List.range n).map (fun i => s.readLine c (a + 64 * i))

/-- Write whole lines. -/
def State.writeLines (s : State) (c : Nat) : Nat → List Line → State
  | _, [] => s
  | a, l :: ls => ((s.writeAny c a (leBytes 64 l.data) l.poison).gbWeft a true).writeLines c (a + 64) ls

/-- The runs of bytes that a mask selects from a line: offset and bytes. -/
def maskRuns (mask data : Nat) : Nat → List (Nat × List Nat)
  | 0 => []
  | k + 1 =>
    let i := 63 - k
    let rest := maskRuns mask data k
    if mask.testBit i then
      match rest with
      | (o, bs) :: r => if o = i + 1 then (i, fld data (8 * i) 8 :: bs) :: r else (i, [fld data (8 * i) 8]) :: rest
      | [] => [(i, [fld data (8 * i) 8])]
    else rest

/-- Write the bytes of a line that a mask selects. -/
def State.writeMasked (s : State) (c a mask : Nat) (l : Line) : State :=
  ((maskRuns mask l.data 64).foldl (fun s r => s.writeAny c (a + r.1) r.2 l.poison) s).gbWeft a false

/-- Perform a READ, WRITE or WRITE_MASKED: the state, and the lines a READ returns. -/
def State.perform (s : State) (c kind a len mask : Nat) (data : List Line) : State × List Line :=
  match kind with
  | 0 => ((List.range len).foldl (fun s i => s.gbWeft (a + 64 * i) false) s, s.readLines c a len)
  | 1 => (s.writeLines c a (data.take len), [])
  | 2 => (s.writeMasked c a mask (data.headD {}), [])
  | _ => (s, [])

def accNeed (kind : Nat) : Need :=
  match kind with
  | 0 => .read | 3 => .atomic | _ => .write

-- ---------------------------------------------------------------- an access at its target (R222, R235, R242, R373, R549)

/-- What its target does with an access. -/
inductive Serve where
  | wait
  | refuse (st : Status)
  | go
  deriving DecidableEq, Repr

/-- Whether a tile is isolated for a test slice (R511). -/
def State.isolated (s : State) (d t : Nat) : Bool := (s.tile d t).underTest

/-- The site's idle state, 0 where the tile is unmapped (R546). -/
def State.idleOf (s : State) (d t : Nat) : Nat :=
  match s.siteOf d t with
  | some i => (s.site d i).idle
  | none => 0

/-- Whether what is at an address makes every access wait or fail: an idle tile, the memory of an isolated one, a bank being zeroed, an
HBM channel in refresh, in a retrain pause or in self-refresh. -/
def State.targetServe (s : State) (a n : Nat) : Serve :=
  match place a with
  | .tileWin d t off =>
    if s.isolated d t ∧ off < 0x180000 then .refuse .fenced
    else if s.idleOf d t = 3 then .refuse .fenced
    else if s.idleOf d t ≠ 0 then .wait
    else if s.zeroingAt a n then .wait
    else .go
  | .hbm _ _ => if s.hbmBusy a n then .wait else .go
  | _ => .go

/-- The full decision for a weft access of a context (R222, R373). -/
def State.serveKind (s : State) (c kind a n : Nat) : Serve :=
  if !(s.ctx c).st.running then .refuse .fenced
  else if !s.reaches c a n (accNeed kind) [] then .refuse .window
  else s.targetServe a n

/-- Count a refusal: behind the selvedge (R391), at a tile under test (R511) or in IS3 (R552). -/
def State.countRefusal (s : State) (c a : Nat) : State :=
  if !(s.ctx c).st.running then s.count 0x8090 5 c 1
  else match place a with
    | .tileWin d t off =>
      if s.isolated d t ∧ off < 0x180000 then s.count 0x80D0 5 0 1 else if s.idleOf d t = 3 then s.count 0x80E0 9 0 1 else s
    | _ => s

def State.access? (s : State) (id : Nat) : Option Access := s.accs.find? (fun (a : Access) => a.id == id)
def State.updAcc (s : State) (id : Nat) (f : Access → Access) : State :=
  { s with accs := s.accs.map (fun (a : Access) => if a.id = id then f a else a) }
def State.dropAcc (s : State) (id : Nat) : State := { s with accs := s.accs.filter (fun (a : Access) => a.id != id) }

/-- The module leaves IS4: HBM leaves self-refresh, ports return to full width. -/
def State.leaveIs4 (s : State) : State :=
  if !s.pwr.is4 then s
  else
    let s1 := (List.range 16).foldl (fun s p => s.updPortF p (fun x => if x.dimmed then { x with dimmed := false, width := widthOf x.wlGood } else x)) s
    { s1 with pwr := { s1.pwr with is4 := false }, hbm := { s1.hbm with selfRefresh := [] } }

/-- What an access finds awake or wakes on its way: the module from IS4, a tile from IS1 or IS2 (R549, R565). -/
def State.wakeFor (s : State) (a : Nat) : State :=
  match place a with
  | .tileWin d t _ => s.leaveIs4.wakeTile d t
  | _ => s.leaveIs4

/-- An access that a tile in IS3 has refused asks for its wake (R549). -/
def State.askWake (s : State) (a : Nat) : State :=
  match place a with
  | .tileWin d t _ => match s.siteOf d t with
    | some i => if (s.site d i).idle = 3 then s.updSite d i (fun x => { x with wake := true }) else s
    | none => s
  | _ => s

/-- An earlier access of the same tile to a line of the same target is not yet performed (R219). -/
def State.accBehind (s : State) (a : Access) : Bool :=
  s.accs.any (fun (b : Access) => decide (b.id < a.id) && b.st == .sent && b.die == a.die && b.tile == a.tile
    && b.device == a.device && decide (b.addr / 64 < a.addr / 64 + a.len) && decide (a.addr / 64 < b.addr / 64 + b.len)
    && !s.fab.remotes.any (fun r => r.tag == b.id))

/-- Answer an access with a status. -/
def State.answer (s : State) (id : Nat) (st : Status) (data : List Line) : State :=
  s.updAcc id (fun a => { s.answerPacket a with st := .answered, status := st, data := data })

/-- An access to another device leaves through the fabric (R181, R417, R419). -/
def State.sendRemote (s : State) (a : Access) : State :=
  let e := s.endpoint a.ctx
  if s.fab.remotes.any (fun r => r.tag == a.id) then s
  else if !epArmed e ∨ !(s.ctx a.ctx).st.running then s.answer a.id .fenced []
  else if !s.time.synced then s
  else
    let s1 : State := { s with fab := { s.fab with remotes := s.fab.remotes ++ [{
      tag := a.id, acc := a.id, ctx := a.ctx, gen := a.gen, device := a.device, isRead := a.kind == 0, sentAt := s.ftc }] } }
    s1.fabSend {
      dest := a.device, op := a.kind, cls := 2, len := a.len, job := epJob e, inc := epInc e, ctx := a.ctx, gen := a.gen
      tag := a.id, addr := a.addr, mask := a.mask } a.data

/-- Whether an access's packet comes to where its address is served: its site still carries the tile, or its router forwards
to the tile's new one (R242). -/
def State.reached (s : State) (a : Access) : Bool :=
  match place a.addr with
  | .tileWin d t _ => s.siteOf d t == some (nodeLow a.dst) || SMap.get 0 (s.die d).forward (nodeLow a.dst) == t + 1
  | _ => true

/-- An access of the given kind reaches its target. -/
def State.serve (s : State) (id kind : Nat) : State :=
  match s.access? id with
  | none => s
  | some a =>
    if a.kind ≠ kind ∨ a.st ≠ .sent ∨ a.held ∨ a.lost ∨ s.accBehind a then s
    else if a.device ≠ s.device then s.sendRemote a
    else if !s.reached a then s
    else if a.gen ≠ (s.ctx a.ctx).gen.toNat then (s.dropAcc id).count 0x8050 4 a.ctx 1
    else match s.serveKind a.ctx kind a.addr (64 * a.len) with
      | .wait => s.hbmDelay a.ctx a.addr (64 * a.len)
      | .refuse st => ((s.countRefusal a.ctx a.addr).askWake a.addr).answer id st []
      | .go =>
        let r := s.perform a.ctx kind a.addr a.len a.mask a.data
        r.1.answer id .ok r.2

/-- R235. A READ reaches its target. -/
def execWeftRead (id : Nat) (s : State) : Out := .next (s.serve id 0)
/-- R235. A WRITE reaches its target. -/
def execWeftWrite (id : Nat) (s : State) : Out := .next (s.serve id 1)
/-- R235. A WRITE_MASKED reaches its target. -/
def execWeftWriteMasked (id : Nat) (s : State) : Out := .next (s.serve id 2)

-- ---------------------------------------------------------------- atomics (R217, R218)

/-- Note an atomic, and whether another function's reached the line within 1 µs before. -/
def State.noteAtomic (s : State) (c fn a : Nat) : State :=
  let now := s.pwr.uptime
  let recent := s.atomics.filter (fun x => decide (now ≤ x.at_ + 1000))
  let raced := recent.any (fun x => x.line == a / 64 && x.fn != fn)
  let s1 : State := { s with atomics := recent.filter (fun x => !(x.line == a / 64 && x.fn == fn)) ++ [{ line := a / 64, fn := fn, at_ := now }] }
  if raced then s1.ndcOrder c else s1

/-- New value of an atomic: 0 fetch-and-add, 1 swap, 2 compare-and-swap. -/
def atomicVal (op size old a cmp : Nat) : Nat :=
  match op with
  | 0 => (old + a) % 2 ^ (8 * size)
  | 1 => a % 2 ^ (8 * size)
  | _ => if old = cmp % 2 ^ (8 * size) then a % 2 ^ (8 * size) else old

/-- Perform an atomic: the state, the old value, and whether the line is poisoned, which leaves it unchanged. -/
def State.atomic (s : State) (c fn a size op x cmp : Nat) : State × Nat × Bool :=
  let s1 := s.noteAtomic c fn a
  let r := s.memRead a size
  if r.2 then (s1, leVal r.1, true)
  else (s1.memWrite a (leBytes size (atomicVal op size (leVal r.1) x cmp)) false, leVal r.1, false)

/-- Whether an address can take an atomic of a size: naturally aligned, in a present scratchpad or stack. -/
def State.atomicOk (s : State) (a size : Nat) : Bool :=
  (size == 4 || size == 8) && a % size == 0 && s.present a size && (match place a with
    | .hbm _ _ => true
    | .spad _ _ => true
    | _ => false)

/-- R217, R218. An atomic of a context and PCIe function (port * 16 + function) reaches a bank or an HBM port; of a context
behind its selvedge it is answered ERROR and counted (R373). -/
def execWeftAtomic (ctx fn addr size op a b : Nat) (s : State) : Out :=
  if !s.atomicOk addr size ∨ 16 ≤ ctx ∨ !s.diesRun then .next s
  else if !(s.ctx ctx).st.running then .next ((s.count 0x8090 5 ctx 1).emit (.completion (fn / 16) (fn % 16) 1 [] []))
  else if s.hbmBusy addr size then .next (s.hbmDelay ctx addr size)
  else
    let r := s.atomic ctx fn addr size op a b
    .next (r.1.emit (.completion (fn / 16) (fn % 16) 0 (leBytes size r.2.1) [r.2.2]))

-- ---------------------------------------------------------------- responses at the requester (R235, R246, R374)

/-- A line of unspecified bytes. -/
def State.freeLine (s : State) (i : Nat) (poison : Bool) : Line :=
  { data := leVal ((List.range 64).map (fun j => (Config.freeByte (s.free + 64 * i + j)).toNat)), poison := poison }

/-- DETAIL of a failed GLOBAL access (R164, R222). -/
def accDetail (a : Access) (st : Status) : Nat :=
  match st with
  | .window => 0x0F
  | .poison => 0x0D
  | _ => a.device

/-- Enter returned lines under their line number. -/
def putLines : SMap Line → Nat → List Line → SMap Line
  | m, _, [] => m
  | m, l, x :: xs => putLines (SMap.set {} m l x) (l + 1) xs

/-- A response reaches the tile-op that waits: the lines of a READ, or a status other than OK, which the tile-op
takes; lines that a failed READ would have returned hold unspecified bytes. -/
def State.respond (s : State) (a : Access) (st : Status) (lines : List Line) (lost : Bool) : State :=
  match a.req with
  | .none => s
  | .op d t i _ =>
    let short := a.kind = 0 ∧ lines.length < a.len
    let ls := if short then (List.range a.len).map (fun j => s.freeLine j lost) else lines
    let s1 := if short then s.takeFree (64 * a.len) else s
    let bad := st != .ok
    (s1.updOp d t i (fun o => { o with
      readLines := if a.kind = 0 then putLines o.readLines (a.addr / 64) ls else o.readLines
      awaiting := o.awaiting - 1
      accFailed := o.accFailed || bad
      status := if bad && !o.accFailed then st else o.status
      detail := if bad && !o.accFailed then accDetail a st else o.detail
      poisonOrigin := if lost then 2 else o.poisonOrigin
      poisonAddr := if lost && bad then a.addr else o.poisonAddr })).feedOp d t i

/-- Deliver the response of an access whose answer is at hand. -/
def State.deliver (s : State) (a : Access) : State :=
  let s1 := s.dropAcc a.id
  if a.gen ≠ (s.ctx a.ctx).gen.toNat then s1.count 0x8050 4 a.ctx 1
  else if a.orphan then
    s1.updCtx a.ctx (fun x => { x with reset? := x.reset?.map (fun r => { r with discarded := r.discarded + 1 }) })
  else s1.respond a a.status a.data false

/-- R235. Read data reaches its requester. -/
def execWeftRdData (id : Nat) (s : State) : Out :=
  match s.access? id with
  | some a => if a.st = .answered ∧ !a.lost ∧ a.kind = 0 ∧ a.status = .ok then .next (s.deliver a) else .next s
  | none => .next s

/-- R235. A write acknowledgement reaches its requester. -/
def execWeftWrAck (id : Nat) (s : State) : Out :=
  match s.access? id with
  | some a => if a.st = .answered ∧ !a.lost ∧ a.kind ≠ 0 ∧ a.status = .ok then .next (s.deliver a) else .next s
  | none => .next s

/-- R235. An ERROR reaches its requester. -/
def execWeftError (id : Nat) (s : State) : Out :=
  match s.access? id with
  | some a => if a.st = .answered ∧ !a.lost ∧ a.status ≠ .ok then .next (s.deliver a) else .next s
  | none => .next s

/-- Complete an access without a response: a read delivers poisoned data, a write completes with POISON. -/
def State.lose (s : State) (a : Access) : State :=
  let s1 := s.dropAcc a.id
  if a.gen ≠ (s.ctx a.ctx).gen.toNat then s1
  else if a.orphan then s1.updCtx a.ctx (fun x => { x with reset? := x.reset?.map (fun r => { r with timedOut := r.timedOut + 1 }) })
  else s1.respond a (if a.kind = 0 then .ok else .poison) [] true

/-- R246. An access has had no response within WEFT_TIMEOUT_US; a write that was lost on its way may have been
performed, which a free value decides. -/
def execWeftTimeout (id : Nat) (s : State) : Out :=
  match s.access? id with
  | none => .next s
  | some a =>
    if a.held ∨ s.fab.remotes.any (fun r => r.tag == id) then .next s
    else
      let s1 := s.count 0x8050 3 0 1
      let lostWrite := a.st = .sent ∧ a.kind ≠ 0 ∧ a.device = s.device ∧ (s.serveKind a.ctx a.kind a.addr (64 * a.len)) = .go
        ∧ a.gen = (s.ctx a.ctx).gen.toNat
      let s2 := if lostWrite then
          (if (Config.freeByte s.free).toNat % 2 = 1 then (s1.perform a.ctx a.kind a.addr a.len a.mask a.data).1 else s1).takeFree 1
        else s1
      .next (s2.lose a)

-- ---------------------------------------------------------------- the tile's share of a command (R237, R373)

/-- R237. A CTRL command packet reaches a tile. Code 0 is SELVEDGE for a context: the tile acts on it at once, ahead of
the units that it has not reached yet. The other codes carry changes that this model makes everywhere in one step
(log entry 24). -/
def execWeftCtrlCmd (die tile cmd ctx _arg : Nat) (s : State) : Out :=
  if cmd = 0 ∧ (s.ctx ctx).st = .fencing then
    let recs := (s.headRecords ctx).filter (fun r => r.1 == die && r.2.1 == tile
      && !(((s.ctx ctx).reset?.map (·.records)).getD []).any (fun q => q.1 == r.1 && q.2.1 == r.2.1 && q.2.2.1 == r.2.2.1))
    .next (((s.fenceQueues die tile ctx).updTile die tile (fun t => t.fence ctx)).updCtx ctx (fun x => { x with
      reset? := x.reset?.map (fun r => { r with records := r.records ++ recs }) }))
  else .next s

-- ---------------------------------------------------------------- links (R236, R486)

/-- Add to a count of every running graph's ledger record. -/
def State.tallyEvery (s : State) (key n : Nat) : State := s.tallyAll (List.range 16) key n

/-- A unit is due for deaccession, which waits for nothing (R489); a weft link that is declared down has CAUSE 0x0B (R486). -/
def State.hardDue (s : State) (u : Nat) : State :=
  { s with cur := { s.cur with
      due := SMap.set false s.cur.due u true, hard := SMap.set false s.cur.hard u true
      causeOf := if unitClass u = 3 then SMap.set 0 s.cur.causeOf u 0x0B else s.cur.causeOf } }

/-- A link fails hard: it loses what is on it or queued for it (R246), and is due for deaccession at once (R489). -/
def State.hardFail (s : State) (u : Nat) : State := (s.loseOn u).hardDue u

/-- R236. A flit fails its CRC on a link and is retried; `retries` is how often in a row. -/
def execWeftLinkCrcError (die site dir retries : Nat) (s : State) : Out :=
  let u := linkName die site dir
  let s1 := (((s.count 0x8050 1 0 1).ndcModule).tallyEvery 560 1).scorePart u 0x09 64 1 false
  if 8 ≤ retries then .next ((s1.count 0x8050 2 0 1).hardFail u) else .next s1

-- ---------------------------------------------------------------- routing tables (R241 to R245, R258)

/-- Copy one bank of every router into the other. -/
def copyBank (m : SMap Nat) (fromB : Nat) : SMap Nat :=
  (m.filter (fun e => e.1 / 353 % 2 == fromB)).foldl (fun m e => SMap.set 0 m (e.1 / 706 * 706 + (1 - fromB) * 353 + e.1 % 353) e.2)
    (m.filter (fun e => e.1 / 353 % 2 == fromB))

/-- Rebuilt distance records count one generation (R255, R258). -/
def State.bumpDist (s : State) : State := { s with cat := { s.cat with distGen := s.cat.distGen + 1 } }

/-- The same, where the translation differs from an earlier state's. -/
def State.bumpIf (s before : State) : State :=
  if [0, 1].any (fun d => (s.die d).l2p != (before.die d).l2p) then s.bumpDist else s

/-- A unit that a table set must not cross: out of service, or led around. -/
def State.offWeft (s : State) (u : Nat) : Bool := s.unitOut u || SMap.get false (s.die (unitDie u)).routeOut u

/-- A die whose active bank has been copied into the idle one, the changed entries (router, entry, value) written there, and
the idle bank made active (R245 steps 3 and 4). -/
def Die.switchTables (x : Die) (entries : List (Nat × Nat × Nat)) : Die :=
  let idle := 1 - x.tableBank
  { x with
    tables := entries.foldl (fun m e => if e.1 < 288 ∧ e.2.1 < 353 then SMap.set 0 m (tblKey e.1 idle e.2.1) (1 + teBits e.2.2) else m)
      (copyBank x.tables x.tableBank)
    tableBank := idle }

/-- Good sites of a die that a state's tables do not serve (R244). -/
def State.unserved (s : State) (die : Nat) : List Nat :=
  (s.goodSites die).filter (fun x => !serves (s.tablesOf s.banksNow) s.offWeft die x)

/-- The good sites that the tables serve: die and site. -/
def State.servedSites (s : State) : List (Nat × Nat) :=
  (List.range s.factory.computeDies).flatMap (fun d =>
    let us := s.unserved d
    ((s.goodSites d).filter (fun x => !us.contains x)).map (fun x => (d, x)))

/-- A packet injected under a die's old bank is still on its way through that die's routers. -/
def State.oldBankBusy (s : State) (die : Nat) : Bool :=
  s.accs.any (fun a => !a.held && !a.lost && (nodeDie a.src == die || nodeDie a.dst == die)
    && fld a.banks die 1 == (s.die die).tableSw.bank)

/-- R245 steps 5 and 6. No packet of the old bank remains: the units leave service; one that failed hard loses
packets until then (R246). Those retired meanwhile ask for a change of their own. -/
def execTableOldBankFree (die : Nat) (s : State) : Out :=
  let x := s.die die
  if !x.tableSw.written ∨ s.oldBankBusy die then .next s
  else
    let s1 : State := { s with cur := { s.cur with
      hard := x.routeOut.foldl (fun m e => SMap.set false m e.1 false) s.cur.hard
      retired := x.routeOut.foldl (fun m e => SMap.set false m e.1 true) s.cur.retired } }
    .next (s1.updDie die (fun x => { x with
      tableSw := { active := !x.routeNext.isEmpty }
      routeOut := x.routeNext.foldl (fun m e => SMap.set false m e.1 true) x.routeOut
      routeNext := [] }))

/-- R242. The forwarding from an old site ends. -/
def execTranslationForwardEnd (die site : Nat) (s : State) : Out :=
  .next (s.updDie die (fun x => { x with forward := SMap.set 0 x.forward site 0 }))

-- ---------------------------------------------------------------- scrubbing (R209, R210, R214, R216)

/-- TILE_MEM_ERR after one error. -/
def memErrReg (r kind off : Nat) : Nat :=
  at_ 48 16 (min 0xFFFF (fld r 48 16 + (if kind = 1 then 1 else 0))) + at_ 40 8 (min 0xFF (fld r 40 8 + (if kind = 2 then 1 else 0)))
  + at_ 32 2 kind + at_ 0 21 (off / 64 * 64)

/-- Count an error found in memory: corrected (1) or uncorrectable (2), which poisons its line. -/
def State.memError (s : State) (a kind : Nat) : State :=
  let s1 : State := if kind = 2 then { s.memPoison (a / 64 * 64) 64 with cur := { s.cur with
      poisonFrom := SMap.set 0 (SMap.set 0 s.cur.poisonFrom (2 * (a / 64)) 0) (2 * (a / 64) + 1) 0 } } else s
  match place a with
  | .hbm st off =>
    let ch := s.channelOf st off
    let u := channelAddr st (ch % 16)
    if kind = 2 then (s1.count 0x8040 6 ch 1).scoreHit u 0x11 32 false false
    else (s1.count 0x8040 5 ch 1).scorePart u 0x10 256 1 false
  | .spad _ _ => s1.count 0x8040 (if kind = 2 then 4 else 3) 0 1
  | .tileWin d t off =>
    match s.siteOf d t with
    | some i =>
      let s2 := (s1.count 0x8040 (if kind = 2 then 2 else 1) 0 1).updSite d i (fun x => { x with
        memErr := BitVec.ofNat 64 (memErrReg x.memErr.toNat kind off) })
      if kind = 2 then s2.scoreHit (siteAddr d i) 0x06 32 false false else s2.scorePart (siteAddr d i) 0x07 16 1 false
    | none => s1
  | _ => s1

/-- Poison line `i` of the buffers of a streamer's streams, taken in order. -/
def poisonStreamLine : Nat → List Stream → List Stream
  | _, [] => []
  | i, x :: xs =>
    if i < x.buffer.length then { x with buffer := x.buffer.modify i (fun l => { l with poison := true }) } :: xs
    else x :: poisonStreamLine (i - x.buffer.length) xs

/-- The stores of R208 beside memory, by the number that SCRUB_READ gives them. -/
inductive EccStore where
  | streamer | abuf | bbuf | accSet | checksum | gather | queue | landing
  deriving DecidableEq, Repr

def EccStore.ofCode : Nat → Option EccStore
  | 1 => some .streamer | 2 => some .abuf | 3 => some .bbuf | 4 => some .accSet | 5 => some .checksum | 6 => some .gather
  | 7 => some .queue | 8 => some .landing | _ => none

/-- Poison a word of a tile's store: a 64-byte group of an operand buffer (array * 768 + line), the whole set of an accumulator or
checksum word (array * 8 + set, R212), a descriptor in a queue (queue * 64 + position), a line of a landing buffer
(port * 512 + position). -/
def Tile.poisonStore (t : Tile) (e : EccStore) (i : Nat) : Tile :=
  match e with
  | .abuf => t.updArray (i / 768) (fun a => { a with apoison := SMap.set false a.apoison (i % 768) true })
  | .bbuf => t.updArray (i / 768) (fun a => { a with bpoison := SMap.set false a.bpoison (i % 768) true })
  | .accSet | .checksum => t.updArray (i / 8) (fun a => a.updSet (i % 8) (fun x => { x with poison := true }))
  | .queue => t.updQueue (i / 64) (fun q => { q with items := q.items.modify (i % 64) (fun d => { d with poison := true }) })
  | .landing => t.updStream (i / 512) (fun p => { p with lines := p.lines.modify (i % 512) (fun l => { l with poison := true }) })
  | .streamer | .gather => t

/-- An uncorrectable word in a store beside memory poisons the unit of data that holds it (R210 to R212). A line in the gather
buffer takes the poison with it to tile memory (log entry 66). -/
def State.poisonStore (s : State) (e : EccStore) (unit i : Nat) : State :=
  let die := unit / 288
  let tile := unit % 288
  match e with
  | .streamer => s.updDie (unit / 12) (fun d => { d with streams := SMap.upd [] d.streams (unit % 12) (poisonStreamLine i) })
  | .gather =>
    match (s.tile die tile).gb[i]? with
    | some g => s.memPoison (tileAddr die tile (64 * g.line)) 64
    | none => s
  | _ => s.updTile die tile (fun t => t.poisonStore e i)

/-- An error found in a store beside memory: corrected (1) or uncorrectable (2); counted, and scored at the tile's site. -/
def State.storeError (s : State) (e : EccStore) (unit i err : Nat) : State :=
  let s1 := s.count 0x8040 (if err = 2 then 8 else 7) 0 1
  let s2 := if err = 2 then s1.poisonStore e unit i else s1
  if e = .streamer then s2
  else match s.siteOf (unit / 288) (unit % 288) with
    | some k => if err = 2 then s2.scoreHit (siteAddr (unit / 288) k) 0x06 32 false false else s2.scorePart (siteAddr (unit / 288) k) 0x07 16 1 false
    | none => s2

/-- Whether what is at an address stands in a compute die that is held in reset (R392). -/
def State.heldAt (s : State) (a : Nat) : Bool :=
  match place a with
  | .spad d _ => (s.die d).held
  | .tileWin d _ _ => (s.die d).held
  | _ => false

/-- R209, R210, R214. A read of a word, by the scrub or by a requester, finds an error: `err` is 0 for none, 1 corrected, 2
uncorrectable. `store` 0 is memory read by the scrub, 9 memory read by a requester, `addr` its local address; a store of `EccStore` has its streamer (die * 12 + number) or its
tile (die * 288 + number) in `addr` above bit 16 and the word's place below. HBM is scrubbed only inside a refresh interval; the SRAM of a die held in reset is not read. -/
def execScrubRead (addr err store : Nat) (s : State) : Out :=
  if err = 0 ∨ 2 < err ∨ !s.diesRun then .next s
  else if store = 0 ∨ store = 9 then
    if !s.present (addr / 64 * 64) 64 ∨ s.heldAt addr then .next s
    else match place addr with
      | .hbm _ _ =>
        if store = 9 ∨ (s.pcsOf addr 1).any (fun pc => SMap.get 0 s.hbm.refresh pc != 0) then .next (s.memError addr err) else .next s
      | .spad _ _ => .next (s.memError addr err)
      | .tileWin _ _ off => if off < 0x180000 then .next (s.memError addr err) else .next s
      | _ => .next s
  else match EccStore.ofCode store with
    | none => .next s
    | some e =>
      let unit := addr / 2 ^ 16
      if (s.die (if e = .streamer then unit / 12 else unit / 288)).held then .next s
      else if e = .streamer ∨ s.tilePresent (unit / 288) (unit % 288) then .next (s.storeError e unit (addr % 2 ^ 16) err) else .next s

end Sys2Proof.Machine
end

