-- ==== Sys2Proof/Machine/Streamers.lean ====
section
/-! DEFINITION. The memory streamers (R250 to R253, R284): fetching ahead and admitting lines onto circuits. -/

namespace Sys2Proof.Machine

def Die.streamsOf (d : Die) (n : Nat) : List Stream := SMap.get [] d.streams n

/-- Change stream number `i` of a streamer. -/
def State.updStreamAt (s : State) (die n i : Nat) (f : Stream → Stream) : State :=
  s.updDie die (fun d => { d with streams := SMap.upd [] d.streams n (fun ss => ss.modify i f) })

/-- The stream that a streamer serves next: one of those with lines left to fetch; which one where there are several is
open, so `pick` is a free value (log entry 25). -/
def nextStream (pick : Nat) (ss : List Stream) : Option Nat :=
  match (List.range ss.length).filter (fun i => decide ((ss.getD i {}).fetched < sdLines (ss.getD i {}).desc.toNat)) with
  | [i] => some i
  | cs => cs[pick % cs.length]?

/-- Lines of one fetch: up to 64, within one row and the room left of 4,096 lines. -/
def fetchLines (x : Stream) (held : Nat) : Nat :=
  let l := sdRowBytes x.desc.toNat / 64
  min (min 64 (l - x.fetched % l)) (4096 - held)

/-- The packet of a fetch: a READ in the class BULK (`fetchClass`) from the streamer's node to that of the data (R237, R250). -/
def State.fetchAccess (s : State) (die streamer : Nat) (x : Stream) (a n : Nat) : Access :=
  let src := streamerNode die streamer
  let dst := (s.nodeOf a).getD src
  { device := s.device, addr := a, len := n, ctx := x.ctx, gen := (s.ctx x.ctx).gen.toNat, src := src, dst := dst, banks := s.banksNow
    lost := s.cut s.banksNow src dst }

/-- R253. A streamer reads ahead for one of its streams; a lost read delivers poisoned data (R246). -/
def execStreamerFetch (die streamer : Nat) (s : State) : Out :=
  let ss := (s.die die).streamsOf streamer
  match nextStream (Config.freeByte s.free).toNat ss with
  | none => .next s
  | some i =>
    let s := s.takeFree 1
    let x := ss.getD i {}
    let n := fetchLines x (ss.map (·.buffer.length)).sum
    let a := sdAddr x.desc.toNat x.fetched
    if n = 0 ∨ !(s.ctx x.ctx).st.running then .next s
    else if s.hbmBusy a (64 * n) then .next (s.hbmDelay x.ctx a (64 * n))
    else
      let p := s.fetchAccess die streamer x a n
      let lost := p.lost || (s.answerPacket p).lost
      let s := if lost then s.count 0x8050 3 0 1 else s
      let ls := (List.range n).map (fun j => if lost then s.freeLine j true else s.memLine (a + 64 * j))
      let s := if lost then s.takeFree (64 * n) else s
      .next (s.updStreamAt die streamer i (fun x => { x with fetched := x.fetched + n, buffer := x.buffer ++ ls }))

/-- The input of its edge router at which a stream's circuit begins in a pick, with the output it feeds there: the
entry in force names that input and the circuit. -/
def State.injection (s : State) (die pick : Nat) (x : Stream) : Option (Nat × Nat) :=
  let d := x.desc.toNat
  let (site, dir) := stopSite ((streamerStops (sdStreamer d)).getD (sdPort d) 0)
  match s.outOf die site x.ctx (dir + 1) pick with
  | some (_, e) => if reCircuit e = sdCircuit d then some (site, dir + 1) else none
  | none => none

/-- Credits of the circuit that ends at a port: none without a port (R284). -/
def Tile.streamCredits (t : Tile) (port : Option Nat) : Nat := (port.map (fun p => (t.stream p).credits)).getD 0
/-- A line is admitted under one of them. -/
def Tile.spendCredit (t : Tile) : Option Nat → Tile
  | some p => t.updStream p (fun x => { x with credits := x.credits - 1 })
  | none => t

/-- R253. The reserved pick of a circuit at its streamer: a line is admitted, or the pick passes empty; an empty
buffer is an underrun. -/
def execStreamerAdmit (die streamer pick : Nat) (s : State) : Out :=
  let ss := (s.die die).streamsOf streamer
  match (List.range ss.length).find? (fun i =>
      let x := ss.getD i {}
      decide (x.delivered < sdLines x.desc.toNat) && ((s.tile die x.tile).slot x.slot).st.isCurrent && (s.injection die pick x).isSome) with
  | none => .next s
  | some i =>
    let x := ss.getD i {}
    let frame := (s.die die).frame
    let dest := match s.injection die pick x with
      | some (site, p) => s.walk die x.ctx pick 64 site p 0
      | none => none
    let target := match dest with
      | some (st, sink, h) => (s.tileAt die st).map (fun t => (t, sink, h))
      | none => none
    let paused := match target with
      | some (t, sink, _) => ((s.tile die t).stream (sink - 8)).paused
      | none => false
    let taken := (s.die die).flits.any (fun f => f.stream && f.srcTile == x.tile && f.srcChan == streamer && f.ctx == x.ctx
      && f.pick == pick && f.frame == frame + f.hops)
    if s.quiet die x.ctx || paused || taken then .next s
    else match x.buffer with
      | [] => .next ((s.count 0x8050 6 (die * 12 + streamer) 1).tally x.ctx 464 1)
      | l :: rest =>
        let port := (s.tile die x.tile).portOf x.ctx (sdCircuit x.desc.toNat) streamer
        if (s.tile die x.tile).streamCredits port = 0 then .next s
        else
          let s1 := (s.updStreamAt die streamer i (fun x => { x with buffer := rest, delivered := x.delivered + 1 })).updTile die x.tile
            (fun t => t.spendCredit port)
          match target with
          | some (t, sink, h) => .next (s1.updDie die (fun d => { d with flits := d.flits ++ [{
              ctx := x.ctx, stream := true, tile := t, sink := sink, line := l, frame := frame + h, pick := pick
              srcTile := x.tile, srcChan := streamer, srcSlot := x.slot, hops := h }] }))
          | none => .next (s1.count 0x8060 8 0 1)

end Sys2Proof.Machine
end

