-- ==== Sys2Proof/Machine/FabricEvents.lean ====
section
/-! DEFINITION. The events of the Varoa fabric (chapter The Varoa fabric, R399 to R430): the link layer, link-up,
packets in transit, requests and responses of remote accesses, flows and their delivery, partitions. -/

namespace Sys2Proof.Machine

-- ---------------------------------------------------------------- writing objects that persist (R592)

/-- Give an element of an object a value; an RWP value is also due to be stored in module flash. -/
def State.putObj (s : State) (index sub el v : Nat) : State :=
  let s1 := s.setObj index sub el v
  match objDef? index sub with
  | some o => if o.persist then { s1 with flash := { s1.flash with dirty := SMap.set false s1.flash.dirty (okey index sub el) true } } else s1
  | none => s1

/-- The list of a packet's data lines. -/
def toLines (data : List (Nat × Bool)) : List Line := data.map (fun d => { data := d.1 % 2 ^ 512, poison := d.2 })

-- ---------------------------------------------------------------- the link layer (R400 to R404)

/-- Frames resent: counted, part of TIMING, in the ledger and in the score (R403, R460, R486). -/
def State.countResent (s : State) (port n : Nat) : State :=
  (((s.count 0x80A0 3 port n).count 0x80B0 3 0 n).tallyEvery 576 n).scorePart (portAddr port) 0x0D 64 n false

/-- Score a port once for each of `n` uncorrectable codewords. -/
def State.scoreFec (s : State) (port : Nat) : Nat → State
  | 0 => s
  | n + 1 => (s.scoreHit (portAddr port) 0x0C 4 false false).scoreFec port n

/-- Resend every frame of the replay buffer in order, unless the first has been resent 16 times (R403, R404). -/
def State.resend (s : State) (port : Nat) : State :=
  let p := s.fport port
  if p.replay.isEmpty ∨ 16 ≤ p.resends then s
  else p.replay.foldl (fun s f => s.emitData port f)
    ((s.updPortF port (fun p => { p with resends := p.resends + 1 })).countResent port p.replay.length)

/-- Return credits that no frame has taken along: in a DATA frame without flits, so that they are acknowledged (log entry 76). -/
def State.returnCredits (s : State) (port : Nat) : State :=
  let p := s.fport port
  if p.owed.isEmpty ∨ 512 ≤ p.replay.length then s else s.sendFrame port [] p.waiting p.sending (p.sinceCtrl + 1)

/-- What a frame's header acknowledges, and the frames that its NAK asks for again. -/
def State.frameBack (s : State) (port header : Nat) : State :=
  let s1 := s.updPortF port (·.acked (fld header 72 12))
  if bitOf header 71 then s1.resend port else s1

/-- A DATA frame: the next in order is taken, with its flits and credits; every one is acknowledged. A frame of another TYPE brings
credits only (log entry 76). -/
def State.frameIn (s : State) (port header : Nat) (slots : List Nat) : State :=
  let p := s.fport port
  if fld header 68 3 = 0 then
    let s1 := if fld header 84 12 = (p.rxSeq + 1) % 4096 then s.updPortF port (fun p =>
        let q := (p.credited (creditsOf header)).arriveAll header 0 slots
        { q with rxSeq := fld header 84 12 })
      else s
    s1.emitIdle port false
  else s.updPortF port (·.credited (creditsOf header))

/-- R400 to R403. A frame arrives at a port: header, slots and CRC as received, the codewords corrected and not correctable. One that
fails is answered with NAK; of a good one what it acknowledges, its NAK, its credits and its flits are taken, and what may now
be sent is sent. A packet whose TAIL has come is the router's: what becomes of it is the packet's own command. -/
def execVaroaFrameRx (port header crc corrected uncorrectable : Nat) (slots : List Nat) (s : State) : Out :=
  if !s.portPresent port then .next s
  else
    let s1 := ((s.count 0x80A0 1 port corrected).count 0x80A0 2 port uncorrectable).scoreFec port uncorrectable
    if !s.portUp port then .next s1
    else if frameCrc header slots ≠ crc ∨ 0 < uncorrectable then .next (s1.emitIdle port true)
    else
      let s2 := (s1.frameBack port header).frameIn port header slots
      .next (((((s2.discardOld port).abortLost s2).pump port 512).returnCredits port))

/-- A link that goes down: the frames of its replay buffer are discarded and the packets lost with them counted and reported (R404);
those that wait and have not begun take another route, but for the link's own time exchange, and a parent behind it is lost (R449). -/
def State.linkLost (s : State) (port : Nat) : State :=
  let p := s.fport port
  (((p.waiting.filter (fun x => !timeCmd x.header)).foldl (fun s x => s.routePacket x.inPort x.header x.lines)
    (p.lostPackets.foldl State.discard (s.updPortF port Port.fresh))).abortLost s).findParents

/-- Take a port down for a reason (R408); link-up starts again unless the port is unused or the fabric stands alone. -/
def State.portDown (s : State) (port reason : Nat) : State :=
  (s.updPortF port (fun p =>
    if p.st = .retired ∨ p.st = .absent then p
    else { p with st := .down, width := 0, reason := reason, linkUp := reason != 7, echo := 0, nSync := false, nDist := 255, ests := [] })).linkLost port

/-- R404. A link is declared down: reason 6 when a frame has been resent 16 times, 2 when a lane has been out of lock. -/
def execVaroaLinkDown (port cause : Nat) (s : State) : Out :=
  let st := (s.fport port).st
  if s.portPresent port ∧ (st = .up ∨ st = .degraded ∨ st = .training) ∧ (cause = 2 ∨ 16 ≤ (s.fport port).resends) then
    .next (((s.portDown port (if cause = 2 then 2 else 6)).count 0x80A0 4 port 1).scoreHit (portAddr port) 0x0E 64 false false)
  else .next s

-- ---------------------------------------------------------------- widths (R399)

/-- Score a port for every wavelength that has failed. -/
def State.scoreWl (s : State) (port : Nat) : Nat → State
  | 0 => s
  | n + 1 => (s.scoreHit (portAddr port) 0x0F 32 false false).scoreWl port n

/-- R399. A port has retrained with the wavelengths that pass its checks. -/
def execPortRetrainDone (port wlGood : Nat) (s : State) : Out :=
  let p := s.fport port
  if s.portPresent port ∧ (p.st = .up ∨ p.st = .degraded ∨ (p.st = .training ∧ !p.linkUp)) then
    let w := widthOf wlGood
    let failed := popcount (p.wlGood - (p.wlGood &&& wlGood)) 8
    let s1 := s.updPortF port (fun p => { p with
      wlGood := fld wlGood 0 8, width := w, reason := 0, st := if w = 3 then .up else .degraded })
    let s2 := if w = 0 then (s1.portDown port 1).count 0x80A0 4 port 1 else s1
    .next ((s2.scoreWl port failed).pump port 512)
  else .next s

-- ---------------------------------------------------------------- link-up (R405 to R407)

/-- The fields of this module's HELLO on a port (R406). -/
def State.helloFields (s : State) (port : Nat) : Nat :=
  let now := s.pwr.uptime % 2 ^ 32
  at_ 110 18 s.device + at_ 106 4 port + at_ 98 8 (s.roleOf port) + at_ 96 2 s.topology + at_ 77 19 s.fabricSize
  + at_ 72 5 (Nat.log2 s.cat.fabricDevices) + at_ 64 8 (s.fport port).wlGood + at_ 32 32 now
  + at_ 0 32 (match (s.fport port).echo with
    | 0 => 0
    | e + 1 => e + now)

/-- R406. During link-up a port sends HELLO. -/
def execHelloTimer (port : Nat) (s : State) : Out :=
  let p := s.fport port
  if s.portPresent port ∧ p.linkUp ∧ !p.rehDown ∧ s.topology ≠ 0 ∧ (p.st = .down ∨ p.st = .training) then
    .next (s.emitLink port 2 (s.helloFields port))
  else .next s

/-- Whether a peer's role answers this port's (R407). -/
def State.rolesMatch (s : State) (own peer peerDev : Nat) : Bool :=
  if own = 0x20 then peer == 0x20
  else if 0x10 ≤ own then decide (peer = 0x10 + s.device % 16) && own % 16 == peerDev % 16
  else decide (1 ≤ own) && decide (own ≤ 6) && peer == oppRole own

/-- Why a HELLO keeps a port down, 0 where it agrees (R407, R408). -/
def State.helloReason (s : State) (port f : Nat) : Nat :=
  let role := s.roleOf port
  if role = 0 then 7
  else if s.topology = 0 ∨ fld f 96 2 ≠ s.topology ∨ fld f 77 19 ≠ s.fabricSize then 5
  else if !s.rolesMatch role (fld f 98 8) (fld f 110 18) ∨ fld f 110 18 ≠ s.neighbourDev role then 3
  else if 2 ^ fld f 72 5 < s.fabricSize ∨ s.cat.fabricDevices < s.fabricSize then 4
  else 0

/-- R407. A neighbour's HELLO arrives: the port comes up, or records why not and tries again. -/
def execHello (port fields : Nat) (s : State) : Out :=
  let p := s.fport port
  if !s.portPresent port ∨ !p.linkUp ∨ p.rehDown ∨ !(p.st = .down ∨ p.st = .training) then .next s
  else
    let now := s.pwr.uptime % 2 ^ 32
    let echo := 1 + (fld fields 32 32 + 2 ^ 32 - now) % 2 ^ 32
    let trip := (now + 2 ^ 32 - fld fields 0 32) % 2 ^ 32
    let fibre := if fld fields 0 32 = 0 then p.fibreM else min 255 (trip / 10)
    let why := s.helloReason port fields
    let w := widthOf (p.wlGood &&& fld fields 64 8)
    if why ≠ 0 ∨ w = 0 then
      .next (s.updPortF port (fun p => { p with st := .down, echo := echo, fibreM := fibre, reason := if why = 0 then 1 else why }))
    else
      .next (s.updPortF port (fun p => { p.fresh with
        st := if w = 3 then .up else .degraded, width := w, reason := 0, linkUp := false, echo := echo, fibreM := fibre
        peerPort := fld fields 106 4, peerDevice := fld fields 110 18, neverUp := false
        ests := [], delay := 0, nSync := false, nDist := 255, nTime := 0, calmSince := 0 }))

/-- Start a link-up on a port whose configuration has changed. -/
def State.startLinkUp (s : State) (port : Nat) : State :=
  if !s.portPresent port then s
  else if s.topology = 0 then
    (s.updPortF port (fun p => if p.st = .retired then p else { p with st := .down, width := 0, reason := 0, linkUp := false })).linkLost port
  else if s.roleOf port = 0 then s.portDown port 7
  else (s.updPortF port (fun p =>
    if p.st = .retired then p else { p with st := .training, width := 0, reason := 0, linkUp := true, echo := 0 })).linkLost port

/-- The value accepted by an object's element: PORT_ROLE has gaps. -/
def roleOk (v : Nat) : Bool := decide (v ≤ 6) || (decide (0x10 ≤ v) && decide (v ≤ 0x1F)) || v == 0x20

/-- Whether a write of FABRIC_TOPOLOGY (object 0), FABRIC_DIMS (1), FABRIC_DEVICE_ID (2) or PORT_ROLE (3) is applied (R405): GROUP
needs four I/O dies (R411), a torus size is at most 64, with 0, the default, for a dimension that is not used (log entry 77). -/
def State.fabricCfgOk (s : State) (object elem value : Nat) : Bool :=
  match object with
  | 0 => decide (value < 3) || (value == 3 && decide (4 ≤ s.factory.ioDies))
  | 1 => (List.range 3).all (fun d => decide (fld value (8 * d) 8 ≤ 64))
  | 2 => decide (value < 2 ^ 18)
  | _ => decide (elem < 16) && s.portPresent elem && roleOk value

/-- R405. A write of FABRIC_TOPOLOGY (object 0), FABRIC_DIMS (1), FABRIC_DEVICE_ID (2) or PORT_ROLE (3). -/
def State.writeFabricCfg (s : State) (object elem value : Nat) : State :=
  if !s.fabricCfgOk object elem value then s
  else match object with
  | 0 => (List.range 16).foldl State.startLinkUp (s.putObj 0x6001 0 0 value)
  | 1 => (List.range 16).foldl State.startLinkUp (s.putObj 0x6002 0 0 (value % 2 ^ 24))
  | 2 => (List.range 16).foldl State.startLinkUp (s.putObj 0x6003 0 0 value)
  | _ => (s.putObj 0x6004 0 elem value).startLinkUp elem

/-- R405. The fabric configuration is written. -/
def execFabricConfigWrite (object elem value : Nat) (s : State) : Out := .next (s.writeFabricCfg object elem value)

-- ---------------------------------------------------------------- transit (R410 to R413)

/-- R410 to R413. A packet for another device arrives at a port and is sent on. -/
def execFabricRoute (inPort header : Nat) (data : List (Nat × Bool)) (s : State) : Out :=
  if hDest header = s.device ∨ !s.portUp inPort ∨ (!s.time.synced ∧ hClass header ≠ 0) then .next s
  else .next (s.routePacket (some inPort) header (toLines data))

/-- The key of a lost link in the fail-over map: a GROUP link by its two devices, else a role of this device. -/
def State.failKey (s : State) (l : Nat × Nat) : Option Nat :=
  if s.topology = 3 then some (2 ^ 40 + min l.1 l.2 * 2 ^ 18 + max l.1 l.2)
  else if l.1 = s.device then some l.2 else none

def State.setFailover (s : State) (on : Bool) (l : Nat × Nat) : State :=
  match s.failKey l with
  | some k => { s with fab := { s.fab with failover := SMap.set false s.fab.failover k on } }
  | none => s

/-- R412. The routers act on links that have gone down: pairs of devices in GROUP, else (device, role). -/
def execFailoverApply (links : List (Nat × Nat)) (s : State) : Out := .next (links.foldl (State.setFailover · true) s)

/-- R648. The routers go back to the normal routes. -/
def execNormalRouteReturn (links : List (Nat × Nat)) (s : State) : Out := .next (links.foldl (State.setFailover · false) s)

-- ---------------------------------------------------------------- requests from peers (R418)

/-- Answer a request: OP, STATUS, data. -/
def State.fabReply (s : State) (h op status : Nat) (data : List Line) : State :=
  s.fabSend {
    dest := hSrc h, op := op, cls := 2, len := data.length, job := hJob h, inc := hInc h, ctx := hCtx h, gen := hGen h
    status := status, tag := hTag h } data

/-- NACK_RESET, counted for the context where one matches (else entry 0, log entry 26). -/
def State.nackReset (s : State) (h : Nat) (c : Option Nat) : State :=
  let k := c.getD 0
  let s1 := s.count 0x8090 4 k 1
  let s2 := match c with
    | some c => s1.updCtx c (fun x => { x with reset? := x.reset?.map (fun r =>
        if x.st = CtxSt.clearing ∨ x.st = CtxSt.quiet then r else { r with nacked := r.nacked + 1 }) })
    | none => s1
  s2.fabReply h 0xA Status.nackReset.code []

/-- Whether a peer may reach a range through a context's windows with REMOTE set (R222, R418). -/
def State.remoteMay (s : State) (c a n : Nat) (need : Need) : Bool :=
  s.present a n && (c == 0 || s.windowGrants c a n [need.bit, 3])

/-- Whether an address lies in the window of a tile that is isolated for a test slice (R418 step 4). -/
def State.testedAt (s : State) (a : Nat) : Bool :=
  match place a with
  | .tileWin d t _ => s.isolated d t
  | _ => false

/-- A peer's access that the weft has lost (R246): a read delivers poisoned data, a write completes with POISON. -/
def State.peerLost (s : State) (h kind : Nat) : State :=
  let s1 := s.count 0x8050 3 0 1
  if kind = 0 then (s1.fabReply h 8 0 ((List.range (hLen h)).map (fun j => s.freeLine j true))).takeFree (64 * hLen h)
  else s1.fabReply h 0xA Status.poison.code []

/-- A request that has reached its destination device; before fabric time is synchronised a port carries none (R407). One that
its target holds up is performed once the target is ready (log entry 80). -/
def State.fabRequest (s : State) (kind h : Nat) (data : List Line) : State :=
  let a := hAddr h
  let n := 64 * hLen h
  if hDest h ≠ s.device ∨ hOp h ≠ kind ∨ !s.pwr.st.railsOn ∨ !s.time.synced then s
  else if s.tooOld h then s.count 0x80A0 6 0 1
  else match s.endpointOf (hJob h) (hInc h) with
    | none => s.nackReset h none
    | some c =>
      if (s.ctx c).st.inReset || s.pwr.st == .booting || s.pwr.warm != .none then s.nackReset h (some c)
      else if !s.remoteMay c a n (accNeed kind) then (s.count 0x80A0 8 c 1).fabReply h 0xA Status.window.code []
      else if s.testedAt a then (s.count 0x80D0 5 0 1).fabReply h 0xA Status.fenced.code []
      else match s.targetServe a n with
        | .refuse st => ((s.countRefusal c a).askWake a).fabReply h 0xA st.code []
        | _ =>
          let p := s.peerAccess kind (hSrc h) a (hLen h) (hMask h) c (s.ctx c).gen.toNat (hTag h)
          let r := if p.lost then (s, []) else ((s.wakeFor a).reachFor c a n (kind == 1)).perform c kind a (hLen h) (hMask h) data
          if p.lost || (s.answerPacket p).lost then r.1.peerLost h kind
          else if kind = 0 then r.1.fabReply h 8 0 r.2 else r.1.fabReply h 9 0 []

/-- R418. A peer's READ. -/
def execFabricRead (header : Nat) (s : State) : Out := .next (s.fabRequest 0 header [])
/-- R418. A peer's WRITE. -/
def execFabricWrite (header : Nat) (data : List (Nat × Bool)) (s : State) : Out := .next (s.fabRequest 1 header (toLines data))
/-- R418. A peer's WRITE_MASKED. -/
def execFabricWriteMasked (header : Nat) (data : List (Nat × Bool)) (s : State) : Out := .next (s.fabRequest 2 header (toLines data))

-- ---------------------------------------------------------------- responses (R419)

def State.dropRemote (s : State) (tag : Nat) : State :=
  { s with fab := { s.fab with remotes := s.fab.remotes.filter (fun r => r.tag != tag) } }

/-- A status from its code (R163). -/
def Status.ofCode (c : Nat) : Status :=
  ([Status.closed, .fenced, .poison, .nackReset, .checkFail, .peerReset, .late, .badOp, .epoch, .format, .accMode, .anchor,
    .bounds, .window, .cardSlot].find? (fun x => x.code == c)).getD .ok

/-- Whether a response is of an earlier generation of its context than the present one: counted in FABRIC_STALE (R419). -/
def State.staleResponse (s : State) (h : Nat) : Bool := hGen h != (s.ctx (hCtx h)).gen.toNat

/-- A response for an access that the I/O die holds; one that comes after the access has ended is dropped, and counted where its
generation is not the context's. -/
def State.fabResponse (s : State) (op h : Nat) (st : Status) (data : List Line) : State :=
  if hDest h ≠ s.device ∨ hOp h ≠ op then s
  else if s.tooOld h then s.count 0x80A0 6 0 1
  else match s.fab.remotes.find? (fun r => r.tag == hTag h && r.device == hSrc h && (op == 0xA || r.isRead == (op == 8))) with
    | none => if s.staleResponse h then s.count 0x80A0 9 (hCtx h) 1 else s
    | some r =>
      let s1 := s.dropRemote r.tag
      match s1.access? r.acc with
      | none => if s.staleResponse h then s1.count 0x80A0 9 (hCtx h) 1 else s1
      | some a =>
        if s.staleResponse h then (s1.dropAcc a.id).count 0x80A0 9 (hCtx h) 1
        else s1.deliver { a with st := .answered, status := st, data := data }

/-- R419. Read data comes back from a peer. -/
def execFabricRdData (header : Nat) (data : List (Nat × Bool)) (s : State) : Out := .next (s.fabResponse 8 header .ok (toLines data))
/-- R419. A write acknowledgement comes back from a peer. -/
def execFabricWrAck (header : Nat) (s : State) : Out := .next (s.fabResponse 9 header .ok [])
/-- R419. An ERROR comes back from a peer. -/
def execFabricError (header : Nat) (s : State) : Out := .next (s.fabResponse 0xA header (Status.ofCode (hStatus header)) [])

/-- R419. No response has come to a remote access. -/
def execFabricAccessTimeout (tag : Nat) (s : State) : Out :=
  match s.fab.remotes.find? (fun r => r.tag == tag) with
  | none => .next s
  | some r =>
    let s1 := (s.dropRemote tag).count 0x80A0 0x0A r.ctx 1
    match s1.access? r.acc with
    | some a => .next (s1.lose a)
    | none => .next s1

-- ---------------------------------------------------------------- endpoints and partitions (R416, R417, R428)

/-- Whether a write of a context's endpoint entry is applied (R417). -/
def State.endpointOk (s : State) (c v : Nat) : Bool :=
  !bitOf v 63 || ((s.ctx c).st == .active && partValid (s.partition (epPart v))
    && !(List.range 16).any (fun j => j != c && epArmed (s.endpoint j) && epJob (s.endpoint j) == epJob v))

/-- A write of an endpoint entry (R416, R417). -/
def State.writeEndpoint (s : State) (c v : Nat) : State :=
  let arm := bitOf v 63
  if 16 ≤ c ∨ !s.endpointOk c v then s
  else
    let gen := if arm then (s.ctx c).gen.toNat else fld (s.endpoint c) 47 8
    let e := at_ 63 1 (b2n arm) + at_ 55 4 (epPart v) + at_ 47 8 gen + at_ 39 8 (epInc v) + at_ 23 16 (epJob v)
    { s with fab := { s.fab with endpoints := SMap.set 0 s.fab.endpoints c e } }

/-- R417. A write of FABRIC_ENDPOINTS. -/
def execFabricEndpointWrite (ctx value : Nat) (s : State) : Out := .next (s.writeEndpoint ctx value)

/-- A write of a partition entry (R428). -/
def State.writePartition (s : State) (i v : Nat) : State :=
  { s with fab := { s.fab with partitions := SMap.set 0 s.fab.partitions i (at_ 110 18 (fld v 110 18) + fld v 0 36) } }

-- ---------------------------------------------------------------- flows (R422 to R427)

/-- The fields of a flow entry that are not reserved. -/
def flowMask (v : Nat) : Nat := at_ 105 23 (fld v 105 23) + at_ 72 17 (fld v 72 17) + at_ 16 48 (fld v 16 48) + fld v 0 5

/-- The port by which a flow leaves (R410). -/
def State.flowPort (s : State) (f e : Nat) : Option Nat :=
  (s.route none (({ dest := flowDest e, op := 4, cls := 1, flow := f } : Hdr).bits 0 s.device)).map (·.1)

/-- Sum of the rates of the valid flows that leave by a port, but for one. -/
def State.portRate (s : State) (port without : Nat) : Nat :=
  ((s.fab.flows.filter (fun x => x.1 != without && flowValid x.2.entry.toNat && s.flowPort x.1 x.2.entry.toNat == some port)).map
    (fun x => flowRate x.2.entry.toNat)).sum

/-- The checks of R423 on an entry; one with VALID 0 takes no part in the rates installed. -/
def State.flowOk (s : State) (f e : Nat) : Bool :=
  decide (2 ≤ flowSlices e) && decide (flowSlices e ≤ 16) && decide (450 * flowSlices e ≤ flowBound e) && decide (4160 ≤ flowBurst e)
  && (match s.flowPort f e with
    | some p => decide (s.portRate p f + (if flowValid e then flowRate e else 0) ≤ s.obj 0x6031 0 p)
    | none => true)

/-- A write of a flow entry: applied whole, or not at all. A new flow begins with a full bucket. -/
def State.writeFlow (s : State) (f v : Nat) : State :=
  let e := flowMask v
  if 4096 ≤ f ∨ !s.flowOk f e then s
  else { s with fab := { s.fab with flows := SMap.set {} s.fab.flows f { entry := BitVec.ofNat 128 e, bucket := if flowValid e then 1000 * flowBurst e else 0 } } }

/-- R423. A write of FABRIC_FLOWS. -/
def execFabricFlowWrite (flow value : Nat) (s : State) : Out := .next (s.writeFlow flow value)

/-- Whether a packet is a CTRL command of the given number for this device (R415). -/
def State.isCtrl (s : State) (h cmd : Nat) : Bool := hDest h == s.device && hOp h == 0xC && fld (hArg h) 144 5 == cmd

/-- Take a packet that has reached its destination, if it is the one expected: over age, it is discarded (R413). -/
def State.taken (s : State) (expected : Bool) (h : Nat) (f : State → State) : State :=
  if !expected then s else if s.tooOld h then s.discard h else f s

/-- R426. DELIVERED comes back: every transfer of the flow up to FLOW_SEQ has been delivered. -/
def execDelivered (header : Nat) (s : State) : Out :=
  .next (s.taken (s.isCtrl header 3) header (fun s => { s with fab := { s.fab with flows := SMap.upd {} s.fab.flows (hFlow header) (fun f =>
    { f with transfers := f.transfers.filter (fun t => decide (hSeq header < t.seq)) }) } }))

/-- R426. The destination owes DELIVERED for a flow. -/
def execDeliveredTimer (src flow : Nat) (s : State) : Out :=
  match s.fab.rxFlows.find? (fun r => r.src == src && r.flow == flow && r.owed) with
  | none => .next s
  | some r =>
    let s1 : State := { s with fab := { s.fab with rxFlows := s.fab.rxFlows.map (fun x => if x.src = src ∧ x.flow = flow then { x with owed := false } else x) } }
    .next (s1.fabSend { dest := src, op := 0xC, cls := 0, flow := flow, seq := r.highest - 1, arg := at_ 144 5 3 } [])

/-- R426. Neither notice nor DELIVERED has covered a transfer. -/
def execUnconfirmedTimeout (flow seq : Nat) (s : State) : Out := .next (s.reportLate flow seq 3 0)

/-- A GUARANTEED transfer is delivered here: judged against its bound, and DELIVERED is owed once any has come in order (R426). A
flow's first FLOW_SEQ is 0, with which it begins anew (log entry 27). -/
def State.delivered (s : State) (h : Nat) : State :=
  let due := hBirth h + hBound h
  let s1 := if due + 25 < s.ftc then s.sendLate h 1 (s.ftc - due) else s
  let old := (s1.fab.rxFlows.find? (fun r => r.src == hSrc h && r.flow == hFlow h)).getD { src := hSrc h, flow := hFlow h }
  let next := if hSeq h = 0 then 1 else if hSeq h = old.highest then old.highest + 1 else old.highest
  let new : RxFlow := { old with highest := next, owed := next != 0 }
  { s1 with fab := { s1.fab with
      rxFlows := s1.fab.rxFlows.filter (fun r => !(r.src == hSrc h && r.flow == hFlow h)) ++ [new] } }

-- ---------------------------------------------------------------- partition resets (R430)

/-- CTRL arguments of PART_RESET: command 0x04, KIND and EXTENT in 70:34, requesting device in 33:16, PART_ID in 15:0 (log entry 22). -/
def partArg (part pid device : Nat) : Nat := at_ 144 5 4 + at_ 34 37 (partWay part) + at_ 16 18 device + at_ 0 16 pid

/-- The PART_RESET of a device goes to the members of a partition. -/
def State.partSpread (s : State) (part pid device : Nat) : State :=
  s.broadcast part device { dest := 0, op := 0xC, cls := 0, arg := partArg part pid device }

/-- Reset every ACTIVE context whose endpoint names a partition with the PART_ID, armed or not (R430). -/
def State.partReset (s : State) (pid device : Nat) (rehearsal : Bool) : State :=
  (List.range 16).foldl (fun s c =>
    let p := s.partition (epPart (s.endpoint c))
    if c ≠ 0 ∧ partValid p ∧ partId p = pid ∧ (s.ctx c).st = .active then
      (s.startReset c .partition true rehearsal 0 device).count 0x80A0 0x0D 0 1
    else s) s

/-- Start a partition reset here: the broadcast, where this device holds the partition, and the own resets. -/
def State.startPartReset (s : State) (pid : Nat) (rehearsal : Bool) : State :=
  match s.partOf pid with
  | none => s
  | some e => (s.partSpread e pid s.device).partReset pid s.device rehearsal

/-- R430. PART_ID is written to PART_RESET_REQUEST. -/
def execPartResetRequest (value : Nat) (s : State) : Out := .next (s.startPartReset (value % 65536) false)

/-- R430. A PART_RESET broadcast arrives: it goes on through the partition, and the contexts of the partition here are reset. -/
def execPartReset (header : Nat) (s : State) : Out :=
  let a := hArg header
  .next (s.taken (s.isCtrl header 4) header (fun s =>
    (s.partSpread (wayPart (fld a 34 37)) (fld a 0 16) (fld a 16 18)).partReset (fld a 0 16) (fld a 16 18) false))

end Sys2Proof.Machine
end

