-- ==== Sys2Proof/Machine/Collectives.lean ====
section
/-! DEFINITION. The collective engines (chapter The Varoa fabric, R432 to R438; R426): the three orders of summation, the launch, the
exchange with the members, completion. -/

namespace Sys2Proof.Machine

-- ---------------------------------------------------------------- sums (R435, R436)

/-- The sum of two FP32 elements. -/
def fp32Add2 (g : Regime) (a b : Nat) : Nat × Ev :=
  let r := add32 g (Fmt.read .fp32 g a) (Fmt.read .fp32 g b)
  ((Fmt.encode .fp32 g r.1).1, r.2)

def lineElems (l : Line) : List Nat := (List.range 16).map (fun i => fld l.data (32 * i) 32)
def elemsLine (es : List Nat) (poison : Bool) : Line := { data := leVal ((es.map (leBytes 4)).flatten), poison := poison }

/-- The sum of two lines of FP32 elements. -/
def fp32Lines (g : Regime) (a b : List Line) : List Line × List Ev :=
  let r := (List.range (max a.length b.length)).map (fun i =>
    let x := a.getD i {}
    let y := b.getD i {}
    let es := (List.range 16).map (fun j => fp32Add2 g ((lineElems x).getD j 0) ((lineElems y).getD j 0))
    (elemsLine (es.map (·.1)) (x.poison || y.poison), es.map (·.2)))
  (r.map (·.1), (r.map (·.2)).flatten)

/-- TREE: the tree sum of R177 over the ranks of every element, each addition with its own counts (R435). -/
def treeLines (g : Regime) (xs : List (List Line)) : List Line × List Ev :=
  let r := (List.range ((xs.headD []).length)).map (fun i =>
    let ls := xs.map (fun x => x.getD i {})
    let es := (List.range 16).map (fun j =>
      let t := treeAdds g ls.length (ls.map (fun l => Fmt.read .fp32 g ((lineElems l).getD j 0)))
      ((Fmt.encode .fp32 g t.1.1).1, t.2))
    (elemsLine (es.map (·.1)) (ls.any (·.poison)), (es.map (·.2)).flatten))
  (r.map (·.1), (r.map (·.2)).flatten)

/-- The sum of two anchored blocks of 257 lines each, with its header recounted. -/
def ancBlockSum (anchor : Int) (a b : List Line) : List Line × List Ev :=
  let rs := (List.range 256).map (fun i =>
    let x := a.getD (i + 1) {}
    let y := b.getD (i + 1) {}
    let es := (List.range 4).map (fun j => ancAdd ((lineAnc x).getD j 0) [Term.ofElem ((lineAnc y).getD j 0)])
    (es, x.poison || y.poison))
  let xs := (rs.map (fun r => r.1.map (·.1))).flatten
  let head : Line := { data := ancHeader anchor xs, poison := (a.getD 0 {}).poison || (b.getD 0 {}).poison || rs.any (·.2) }
  (head :: rs.map (fun r => { data := leVal ((r.1.map (fun e => leBytes 16 (ancCode e.1))).flatten), poison := r.2 }),
   (rs.map (fun r => r.1.map (fun e => ({ sat := e.2 } : Ev)))).flatten)

def ancLines (anchor : Int) (a b : List Line) : List Line × List Ev :=
  let r := (List.range ((a.length + 256) / 257)).map (fun i => ancBlockSum anchor ((a.drop (257 * i)).take 257) ((b.drop (257 * i)).take 257))
  ((r.map (·.1)).flatten, (r.map (·.2)).flatten)

/-- Whether every block of some lines carries the descriptor's anchor (R436). -/
def anchorsOk (d : Nat) (ls : List Line) : Bool :=
  cdFormat d != 9 || (List.range ((ls.length + 256) / 257)).all (fun i =>
    let h := (ls.getD (257 * i) {}).data
    fld h 0 16 == 0xA128 && fld h 16 8 == 1 && ancHeaderAnchor h == cdAnchor d)

/-- The sum of two chunks. -/
def sumChunk (d : Nat) (g : Regime) (a b : List Line) : List Line × List Ev :=
  if cdFormat d = 9 then ancLines (cdAnchor d) a b else fp32Lines g a b

/-- The sum of every rank's contribution, in rank order: TREE, or one after another. Anchored sums are taken in ascending rank
order under TREE too, which shows only where an element saturates (DESIGN CHOICE, log entry 70). -/
def sumAll (d : Nat) (g : Regime) (xs : List (List Line)) : List Line × List Ev :=
  if cdAlgo d = 1 ∧ cdFormat d ≠ 9 then treeLines g xs
  else match xs with
    | [] => ([], [])
    | x :: r => r.foldl (fun acc y => let z := sumChunk d g acc.1 y; (z.1, acc.2 ++ z.2)) (x, [])

/-- Regime of a context's sums: FLUSH_SUB as latched, subnormals honoured under STRICT (R435). -/
def State.collRegime (s : State) (c : Nat) : Regime := (s.latchedOf c).regime

/-- Add the counts of a sum to the context's totals, and its flags to CTX_NUMERIC (R123, R435, R436; that a collective's sums set
the flags is a DESIGN CHOICE, log entry 68). -/
def State.countSum (s : State) (c : Nat) (es : List Ev) : State :=
  let t := Tot.ofEvs es
  ((s.count 0x8020 1 c t.sat).count 0x8020 2 c t.flush).updCtx c (fun x => { x with numeric := x.numeric ||| BitVec.ofNat 32 t.sticky })

/-- ORDER, once for the operation (R435, R148). -/
def State.countOrder (s : State) (c node : Nat) : State :=
  match s.coll? c node with
  | some k => if k.orderCounted then s else (s.ndcOrder c).updColl c node (fun k => { k with orderCounted := true })
  | none => s

/-- Complete an operation whose output is in place. -/
def State.finishColl (s : State) (c node : Nat) : State :=
  match s.coll? c node with
  | none => s
  | some k =>
    if !k.running ∨ !k.complete then s
    else
      let s1 := ((s.dropColl c node).count 0x80A0 0x0B c 1).advance c
      let st : Status := if k.poison then .poison else .ok
      let tag := match (s.ctx c).graph with
        | some g => ((g.node? node).map (·.tag)).getD 0
        | none => 0
      let s2 := if k.poison then s1.failEvent c 0x03 .poison k.addr node tag 0 0 0 else s1
      (s2.completeNode c node st 0 0).beginNext (cdEngine k.d)

-- ---------------------------------------------------------------- launch (R434)

/-- The member list of a descriptor. -/
def State.memberList (s : State) (d : Nat) : List Nat :=
  (List.range (cdMembers d)).map (fun i => fld (s.memNat (cdMembersAt d + 4 * i) 4) 0 18)

/-- Why a descriptor fails at its launch: its input, output and member list may be covered by several windows, its scratch area by one. -/
def State.collCheck (s : State) (c addr : Nat) : Option Status :=
  let d := s.memNat addr 64
  let e := s.endpoint c
  let part := s.partition (epPart e)
  if !s.inWindow c addr 64 [0] then some .window
  else if (s.memRead addr 64).2 then some .poison
  else if s.descBad c d then some .badGraph
  else if !epArmed e then some .fenced
  else if !(s.inWindows c (cdSrc d) (cdSrcBytes d) [0] && s.inWindows c (cdDst d) (cdDstBytes d) [1]
      && s.inWindows c (cdMembersAt d) (4 * cdMembers d) [0] && s.inWindow c (cdScratch d) (cdScratchBytes d) [0, 1, 3]) then some .window
  else
    let ms := s.memberList d
    if ms[cdRank d]? ≠ some s.device ∨ ms.any (fun m => !s.inPartition part m) then some .badGraph else none

/-- R434. The engine takes up a COLLECTIVE node that has been launched. -/
def execCollectiveStart (ctx node : Nat) (s : State) : Out :=
  match (s.ctx ctx).graph with
  | none => .next s
  | some g =>
    match g.node? node with
    | none => .next s
    | some n =>
      if n.kind ≠ 2 ∨ n.st ≠ .inFlight ∨ !n.launched ∨ (s.coll? ctx node).isSome ∨ (s.ctx ctx).st ≠ .active then .next s
      else
        let s := (s.reachFor ctx n.work 64 false).reachFor ctx (cdMembersAt (s.memNat n.work 64)) (4 * cdMembers (s.memNat n.work 64)) false
        match s.collCheck ctx n.work with
        | some st =>
          .next ((s.failEvent ctx 0x03 st n.work node n.tag n.die 0 0).completeNode ctx node st 0 0)
        | none =>
          let d := s.memNat n.work 64
          let mine := s.fab.earlyReady.filter (fun r => r.1 == ctx && r.2.1 == cdId d)
          let ms := s.memberList d
          let k : Coll := {
            ctx := ctx, node := node, addr := n.work, desc := BitVec.ofNat 512 d, members := ms
            ready := mine.foldl (fun m r => match ms.idxOf? r.2.2.1 with
              | some rank => SMap.set 0 m rank (r.2.2.2 + 1)
              | none => m) [] }
          let s1 : State := { s with fab := { s.fab with
            colls := s.fab.colls ++ [k], earlyReady := s.fab.earlyReady.filter (fun r => !(r.1 == ctx && r.2.1 == cdId d)) } }
          .next ((s1.beginNext (cdEngine d)).finishColl ctx node)

-- ---------------------------------------------------------------- the exchange (R434 to R436)

/-- The operation of a context with a COLL_ID. -/
def State.collOf (s : State) (c id : Nat) : Option Coll := s.fab.colls.find? (fun k => k.ctx == c && k.id == id)

/-- A READY for a context: kept for the operation where none has begun here. -/
def State.readyFor (s : State) (c h : Nat) : State :=
  match s.collOf c (hTag h) with
  | none =>
    let others := s.fab.earlyReady.filter (fun r => !(r.1 == c && r.2.1 == hTag h && r.2.2.1 == hSrc h))
    { s with fab := { s.fab with earlyReady := others ++ [(c, hTag h, hSrc h, hAddr h)] } }
  | some k => match k.members.idxOf? (hSrc h) with
    | none => s
    | some rank =>
      ((s.updColl k.ctx k.node (fun k => { k with ready := SMap.set 0 k.ready rank (hAddr h + 1) })).flushSends k.ctx k.node).finishColl k.ctx k.node

/-- R434. A member's READY arrives with its scratch address, for the armed context of its job. -/
def execCollReady (header : Nat) (s : State) : Out :=
  .next (s.taken (hDest header == s.device && hOp header == 5) header (fun s =>
    match s.endpointOf (hJob header) (hInc header) with
    | none => s
    | some c => s.readyFor c header))

/-- A contribution under RING: add the own one and pass the sum on, or keep it as the own chunk's result. -/
def State.ringStep (s : State) (k : Coll) (c : Nat) (ls : List Line) : State :=
  let d := k.d
  let s := s.reachFor k.ctx (cdSrcAt d c) (cdChunkBytes d c) false
  let own := s.contribution d c
  if !anchorsOk d own then s.abortColl k 2
  else
    let r := sumChunk d (s.collRegime k.ctx) ls own
    let s1 := (s.countSum k.ctx r.2).advance k.ctx
    if c = k.own then s1.ownResult k r.1
    else (s1.updColl k.ctx k.node (fun k => { k with
      passed := SMap.set false k.passed c true
      toSend := k.toSend ++ [{ rank := (k.own + 1) % k.n, chunk := c, part := 0, lines := r.1 }] })).flushSends k.ctx k.node

/-- A contribution to the own chunk under TREE or DIRECT. -/
def State.gatherStep (s : State) (k : Coll) (rank : Nat) (ls : List Line) : State :=
  let d := k.d
  let s := s.reachFor k.ctx (cdSrcAt d k.own) (cdChunkBytes d k.own) false
  if k.arrived.contains rank then s
  else if !anchorsOk d (s.contribution d k.own) then s.abortColl k 2
  else
    let done := k.n ≤ k.arrived.length + 1
    if cdArrival d then
      let r := sumChunk d (s.collRegime k.ctx) k.acc ls
      let s1 := ((s.countSum k.ctx r.2).updColl k.ctx k.node (fun k => { k with arrived := k.arrived ++ [rank], acc := r.1 })).advance k.ctx
      let s2 := if cdFormat d = 1 ∨ r.2.any (·.sat) then s1.countOrder k.ctx k.node else s1
      if done then s2.ownResult k r.1 else s2
    else
      let held := SMap.set [] k.held rank ls
      if done then
        let r := sumAll d (s.collRegime k.ctx) ((List.range k.n).map (SMap.get [] held))
        (((s.countSum k.ctx r.2).updColl k.ctx k.node (fun k => { k with arrived := k.arrived ++ [rank] })).advance k.ctx).ownResult k r.1
      else (s.updColl k.ctx k.node (fun k => { k with arrived := k.arrived ++ [rank], held := held })).advance k.ctx

/-- A data packet reaches this device: over age, it is discarded; a GUARANTEED one is judged, whatever becomes of it (R413, R426). -/
def State.dataPacket (s : State) (h : Nat) : State :=
  if s.tooOld h then s.discard h else if hClass h = 1 then s.delivered h else s

/-- The packets of a chunk are written where their headers say, as far as that lies in the scratch area. -/
def State.scratchIn (s : State) (k : Coll) : List Nat → List Line → State
  | [], _ => s
  | h :: hs, ls =>
    let a := hAddr h
    let mine := ls.take (hLen h)
    let s1 := if cdScratch k.d ≤ a ∧ a + 64 * mine.length ≤ cdScratch k.d + cdScratchBytes k.d then (s.reachFor k.ctx a (64 * mine.length) true).writeLines k.ctx a mine else s
    s1.scratchIn k hs (ls.drop (hLen h))

/-- A chunk of an operation is in place: a contribution (part 0) from a rank, or a result (part 1). -/
def State.chunkIn (s : State) (k : Coll) (rank chunk part : Nat) (ls : List Line) : State :=
  let d := k.d
  if ls.length ≠ (cdChunkBytes d chunk + 63) / 64 ∨ cdChunkUnits d chunk = 0 ∨ k.n ≤ chunk ∨ k.n ≤ rank ∨ rank = k.own then s
  else if !anchorsOk d ls then s.abortColl k 2
  else if part = 1 then
    if rank ≠ chunk ∨ SMap.get false k.landed chunk ∨ cdOp d = 3 ∨ (cdOp d = 0 ∧ cdRoot d ≠ k.own) then s
    else (s.land k chunk ls).finishColl k.ctx k.node
  else if cdOp d = 2 then s
  else if cdAlgo d = 0 then
    if (rank + 1) % k.n ≠ k.own ∨ SMap.get false k.passed chunk ∨ (chunk = k.own ∧ SMap.get false k.landed chunk) then s
    else (s.ringStep k chunk ls).finishColl k.ctx k.node
  else if chunk ≠ k.own ∨ SMap.get false k.landed chunk then s
  else (s.gatherStep k rank ls).finishColl k.ctx k.node

/-- Whether a packet is collective data of an operation's member for this device. -/
def Coll.fromRank (k : Coll) (rank h : Nat) : Bool := hTag h == k.id && k.members[rank]? == some (hSrc h)

/-- R435, R436. COLL_DATA arrives: the packets of a chunk, by their headers, and their data. Its operation is that of the armed
context of their job with their COLL_ID (R434). -/
def execCollData (rank chunk part : Nat) (headers : List Nat) (data : List (Nat × Bool)) (s : State) : Out :=
  let ls := toLines data
  if !headers.all (fun h => hDest h == s.device && hOp h == 4) ∨ !s.time.synced then .next s
  else
    let s1 := headers.foldl State.dataPacket s
    let h := headers.headD 0
    if headers.any s.tooOld ∨ ls.length ≠ (headers.map hLen).sum ∨ headers.any (fun x => hJob x != hJob h || hInc x != hInc h) then .next s1
    else match s.endpointOf (hJob h) (hInc h) with
      | none => .next s1
      | some c => match s1.collOf c (hTag h) with
        | none => .next s1
        | some k =>
          if !k.running ∨ !headers.all (k.fromRank rank) then .next s1
          else .next ((s1.scratchIn k headers ls).chunkIn k rank chunk part ls)

/-- R438. A COLL_ABORT broadcast arrives: it goes on through the partition (R429), and the operation ends here. -/
def execCollAbort (header : Nat) (s : State) : Out :=
  let a := hArg header
  let device := fld a 4 18
  .next (s.taken (s.isCtrl header 1) header (fun s =>
    let s1 := if device = s.device then s else s.broadcast (wayPart (fld a 86 37)) device {
      dest := 0, op := 0xC, cls := 0, job := hJob header, inc := hInc header, tag := hTag header, arg := a }
    match s1.endpointOf (hJob header) (hInc header) with
    | none => s1
    | some c => match s1.collOf c (hTag header) with
      | some k => s1.endColl k (abortStatus (fld a 0 4)) (fld a 0 4) device (fld a 22 64)
      | none => s1))

/-- R438. TIMEOUT_MS has passed without completion. -/
def execCollectiveTimeout (collId ctx : Nat) (s : State) : Out := .next (s.abortHere ctx collId 1)

-- ---------------------------------------------------------------- the flows' sources (R424, R426)

/-- R424. The source router admits the oldest waiting packet of a flow, when the bucket holds its length and fewer than
4,096 transfers are under way. -/
def execGuaranteedAdmit (flow len collId : Nat) (s : State) : Out :=
  let f := s.flow flow
  match f.waiting with
  | [] => .next s
  | p :: rest =>
    let bytes := 64 * (1 + hLen p.1)
    if hLen p.1 ≠ len ∨ hTag p.1 ≠ collId ∨ !flowValid f.entry.toNat ∨ f.bucket < 1000 * bytes ∨ 4096 ≤ f.transfers.length ∨ !s.time.synced then .next s
    else
      let s1 : State := { s with fab := { s.fab with flows := SMap.upd {} s.fab.flows flow (fun f => { f with
        waiting := rest, bucket := f.bucket - 1000 * bytes, nextSeq := (f.nextSeq + 1) % 2 ^ 32
        transfers := f.transfers ++ [{ seq := f.nextSeq, birth := s.ftc, collId := collId }] }) } }
      let h := p.1 % 2 ^ 448 - at_ 308 32 (hSeq p.1) + at_ 308 32 f.nextSeq + at_ 448 64 s.ftc
      .next ((s1.routePacket none h p.2).abortLost s1)

/-- R426. LATE_NOTICE comes back: reason 1 DELIVERED_LATE or 2 LOST; a LOST transfer aborts its operation (R438). -/
def execLateNotice (header : Nat) (s : State) : Out :=
  let a := hArg header
  .next (s.taken (s.isCtrl header 2) header (fun s =>
    let s1 := s.reportLate (hFlow header) (hSeq header) (fld a 0 2) (fld a 2 32)
    if fld a 0 2 = 2 then s1.abortLost s else s1))

end Sys2Proof.Machine
end

