-- ==== Sys2Proof/Machine/Crypto.lean ====
section
/-! DEFINITION. SHA-256 and HMAC-SHA-256 over lists of bytes, as R585, R587, R594 and R612 use them. A round makes two new
words and moves the other six along, so the running digest is two shift registers of four words each. -/

namespace Sys2Proof.Machine.Sha

/-- The constants of the rounds, four to a number, the earliest uppermost. -/
def roundQuads : List Nat := [
  0x428a2f9871374491b5c0fbcfe9b5dba5, 0x3956c25b59f111f1923f82a4ab1c5ed5,
  0xd807aa9812835b01243185be550c7dc3, 0x72be5d7480deb1fe9bdc06a7c19bf174,
  0xe49b69c1efbe47860fc19dc6240ca1cc, 0x2de92c6f4a7484aa5cb0a9dc76f988da,
  0x983e5152a831c66db00327c8bf597fc7, 0xc6e00bf3d5a7914706ca635114292967,
  0x27b70a852e1b21384d2c6dfc53380d13, 0x650a7354766a0abb81c2c92e92722c85,
  0xa2bfe8a1a81a664bc24b8b70c76c51a3, 0xd192e819d6990624f40e3585106aa070,
  0x19a4c1161e376c082748774c34b0bcb5, 0x391c0cb34ed8aa4a5b9cca4f682e6ff3,
  0x748f82ee78a5636f84c878148cc70208, 0x90befffaa4506cebbef9a3f7c67178f2]

/-- The constant of round `i`. -/
def roundConst (i : Nat) : W32 := BitVec.ofNat 32 (fld (roundQuads.getD (i / 4) 0) (96 - 32 * (i % 4)) 32)

/-- The running digest: `front` the words a to d, `back` the words e to h. -/
structure Digest where
  front : List W32
  back : List W32
  deriving DecidableEq, Repr

/-- The words of a 128-bit number, uppermost first. -/
def quad (v : Nat) : List W32 := [96, 64, 32, 0].map (fun p => BitVec.ofNat 32 (fld v p 32))

def start : Digest := ⟨quad 0x6a09e667bb67ae853c6ef372a54ff53a, quad 0x510e527f9b05688c1f83d9ab5be0cd19⟩

/-- The exclusive or of a word turned right by each of the given amounts. -/
def turned (x : W32) (amounts : List Nat) : W32 := amounts.foldl (fun acc n => acc ^^^ x.rotateRight n) 0

/-- Bits of `y` where `x` is 1, of `z` where it is 0. -/
def choose (x y z : W32) : W32 := z ^^^ (x &&& (y ^^^ z))

/-- The bit that at least two of three words hold. -/
def most (x y z : W32) : W32 := (x &&& y) ||| (z &&& (x ||| y))

/-- One round, with constant and message word already added together in `kw`. -/
def Digest.step (v : Digest) (kw : W32) : Digest :=
  let f := fun i => v.front.getD i 0
  let b := fun i => v.back.getD i 0
  let mix := b 3 + kw + choose (b 0) (b 1) (b 2) + turned (b 0) [25, 11, 6]
  { front := (mix + most (f 0) (f 1) (f 2) + turned (f 0) [22, 13, 2]) :: v.front.take 3,
    back := (mix + f 3) :: v.back.take 3 }

/-- The message word of a round from the sixteen before it, newest first. -/
def nextWord (win : List W32) : W32 :=
  let w := fun k => win.getD (k - 1) 0
  w 16 + w 7 + (turned (w 15) [18, 7] ^^^ w 15 >>> 3) + (turned (w 2) [19, 17] ^^^ w 2 >>> 10)

/-- The rounds from round `i` on: `win` holds the last sixteen message words newest first, `todo` the words of the
block not yet used. -/
def rounds : Nat → Nat → List W32 → List W32 → Digest → Digest
  | 0, _, _, _, v => v
  | n + 1, i, win, todo, v =>
    let w := todo.headD (nextWord win)
    rounds n (i + 1) (w :: win.take 15) todo.tail (v.step (roundConst i + w))

/-- A block of 64 bytes as sixteen big-endian words. -/
def blockWords (bs : List Nat) : List W32 :=
  (List.range 16).map (fun i => BitVec.ofNat 32 ((bs.drop (4 * i)).take 4 |>.foldl (fun v b => 256 * v + b) 0))

/-- Absorb `n` blocks. -/
def absorb : Nat → List Nat → Digest → Digest
  | 0, _, v => v
  | n + 1, bs, v =>
    let r := rounds 64 0 [] (blockWords bs) v
    absorb n (bs.drop 64) ⟨List.zipWith (· + ·) v.front r.front, List.zipWith (· + ·) v.back r.back⟩

/-- Big-endian bytes of a number. -/
def beBytes : Nat → Nat → List Nat
  | 0, _ => []
  | n + 1, v => v / 256 ^ n % 256 :: beBytes n v

/-- SHA-256 of a list of bytes. -/
def sha256 (bs : List Nat) : List Nat :=
  let fill := (119 - bs.length % 64) % 64
  let v := absorb ((bs.length + fill + 9) / 64) (bs ++ 0x80 :: (List.replicate fill 0 ++ beBytes 8 (8 * bs.length))) start
  (v.front ++ v.back).flatMap (fun w => beBytes 4 w.toNat)

/-- HMAC-SHA-256 with a key of at most 64 bytes. -/
def hmac (key bs : List Nat) : List Nat :=
  let pad := fun m => (List.range 64).map (fun i => key.getD i 0 ^^^ m)
  sha256 (pad 0x5C ++ sha256 (pad 0x36 ++ bs))

end Sys2Proof.Machine.Sha
end

