-- ==== Sys2Proof/Machine/Distance.lean ====
section
/-! DEFINITION. The distance table (chapter The weft mesh and the I/O ring, R254 to R258): what DIST_TABLE and DIST_TILE_HOPS read,
over the routes of the tables in force. -/

namespace Sys2Proof.Machine

/-- The tables that the figures follow: those in force, and before a catalogue is loaded the default ones. -/
def State.distTables (s : State) (die : Nat) : Tables :=
  if (s.die die).tablesOn then s.tablesOf s.banksNow else defaultTables

def Hop.inMesh : Hop → Bool
  | .mesh _ _ _ _ => true
  | _ => false
def Hop.onRing : Hop → Bool
  | .ring _ _ _ _ => true
  | _ => false

/-- A target of the table: whether it is present, its die, its unit node, and the base and coefficients of R257 in tenths of a
nanosecond (median, then p99). -/
structure DistTarget where
  present : Bool
  die : Nat
  node : Nat
  oneWay : Bool
  base : Nat × Nat
  hop : Nat × Nat
  seg : Nat × Nat
  bridge : Nat × Nat

def State.distTarget (s : State) (i : Nat) : DistTarget :=
  if i < 8 then
    ⟨s.stackCapacity i != 0, i / 4, i % 4, false, (2500, 24000), (32, 44), (12, 20), (400, 900)⟩
  else if i < 24 then
    ⟨s.diePresent ((i - 8) / 8), (i - 8) / 8, 0x08 + (i - 8) % 8, false, (400, 1000), (32, 44), (12, 20), (400, 900)⟩
  else
    let l := s.ioLink (i - 24)
    ⟨decide (i - 24 < s.factory.ioDies), l.1, (if l.2 then 0x11 else 0x10), true, (300, 700), (16, 22), (6, 10), (200, 450)⟩

/-- A target entry (R256). -/
def State.distEntry (s : State) (die site i : Nat) : Nat :=
  let t := s.distTarget i
  if !t.present then at_ 31 1 1
  else
    let way := (wayOf (s.distTables die) (siteNode die site) (unitNode t.die t.node)).getD []
    let h := way.countP Hop.inMesh
    let x := if t.die = die then 0 else 1
    let r := way.countP Hop.onRing
    let ns (b k g br : Nat) : Nat := (b + h * k + r * g + x * br + 5) / 10
    at_ 48 16 (ns t.base.2 t.hop.2 t.seg.2 t.bridge.2) + at_ 32 16 (ns t.base.1 t.hop.1 t.seg.1 t.bridge.1)
    + at_ 30 1 (b2n t.oneWay) + at_ 29 1 x + at_ 16 8 h + at_ 8 8 r

/-- The record of a logical tile, as a number of 256 bytes; zero while it is unmapped. -/
def State.distRecord (s : State) (die tile : Nat) : Nat :=
  match s.siteOf die tile with
  | none => 0
  | some site =>
    at_ 15 1 1 + at_ 12 3 (edgeDist site) + at_ 10 2 (edgeDist site / 2) + at_ 0 6 ((exitOf (s.distTables die) die site).getD (exitStop site))
    + ((List.range 28).map (fun i => at_ (64 + 64 * i) 64 (s.distEntry die site i))).sum

/-- Mesh hops between two logical tiles of a die, 0xFF where one is absent or unmapped. -/
def State.tileHops (s : State) (die a b : Nat) : Nat :=
  match s.siteOf die a, s.siteOf die b with
  | some x, some y => ((wayOf (s.distTables die) (siteNode die x) (siteNode die y)).map List.length).getD 0xFF
  | _, _ => 0xFF

end Sys2Proof.Machine
end

