-- ==== Sys2Proof/Machine/Time.lean ====
section
/-! DEFINITION. Fabric time (chapter Fabric time, launch and repeatability, R441 to R450): the exchanges with the
neighbours, acquisition, steering. Times are in sixteenths of a nanosecond. -/

namespace Sys2Proof.Machine

/-- ROOT_DIST as this device reports it. -/
def State.rootDistNow (s : State) : Nat := if !s.time.synced then 255 else if s.isRoot then 0 else s.time.rootDist

/-- The arguments of TIME_SYNC, which takes up T1 as it leaves. -/
def State.syncArg (s : State) : Nat := at_ 144 5 8 + at_ 79 1 (b2n s.time.synced) + at_ 71 8 s.rootDistNow

/-- The arguments of TIME_ECHO for a TIME_SYNC that arrives now on an I/O die. -/
def State.echoArg (s : State) (ioDie arg : Nat) : Nat := at_ 144 5 9 + at_ 80 64 (fld arg 80 64) + at_ 16 64 (s.stampAt ioDie)

/-- A command of the time exchange goes to the far end of a port, in the CTRL class (R420, R444). -/
def State.sendTime (s : State) (port arg : Nat) : State :=
  s.toPort port { header := ({ dest := (s.fport port).peerDevice, op := 0xC, cls := 0, arg := arg } : Hdr).bits s.ftc s.device }

/-- The slice links of the module: each slice is joined to every other present one (R27). -/
def State.sliceLinks (s : State) : List (Nat × Nat) :=
  (List.range s.factory.ioDies).flatMap (fun b => (List.range b).map (fun a => (a, b)))

/-- The exchange over a slice link, which is done at once: the offset of die b against die a, the last 16 kept (R444, R445; log entry
28). -/
def FTime.sliceExchange (t : FTime) (l : Nat × Nat) : FTime :=
  { t with slices := SMap.upd [] t.slices (4 * l.1 + l.2) (fun es => (es ++ [dieSkew l.2 - dieSkew l.1]).drop (es.length - 15)) }

/-- R444. Every port that is up sends TIME_SYNC, and the router slices exchange time. -/
def execTimeSyncTimer (s : State) : Out :=
  let s1 := (List.range 16).foldl (fun s p => if s.portUp p then s.sendTime p s.syncArg else s) s
  .next (if s.pwr.st.railsOn then { s1 with time := s1.sliceLinks.foldl FTime.sliceExchange s1.time } else s1)

/-- The median of a list of offsets. -/
def insertInt (x : Int) : List Int → List Int
  | [] => [x]
  | y :: ys => if x ≤ y then x :: y :: ys else y :: insertInt x ys
def sortInt : List Int → List Int
  | [] => []
  | x :: xs => insertInt x (sortInt xs)
def median (xs : List Int) : Int := (sortInt xs).getD (xs.length / 2) 0

/-- The estimate of a link (R445). -/
def Port.est (p : Port) : Int := median p.ests

/-- R444. A neighbour's TIME_SYNC arrives: what it reports is kept, and TIME_ECHO answers it. -/
def execTimeSync (port arg : Nat) (s : State) : Out :=
  if !s.portUp port then .next s
  else
    let s1 := s.updPortF port (fun p => { p with nSync := bitOf arg 79, nDist := fld arg 71 8, nTime := fld arg 80 64 })
    .next (s1.findParents.sendTime port (s.echoArg (port / 4) arg))

/-- Whether fabric time may be acquired now: in start-up phase 7 or later (R536, log entry 28). -/
def State.mayAcquire (s : State) : Bool := s.pwr.st == .ready || (s.pwr.st == .booting && s.pwr.phase == 7)

/-- ALARM of a link after a new estimate. -/
def State.judgeLink (s : State) (port : Nat) : State :=
  let p := s.fport port
  let e := p.est.natAbs
  if 800 < e ∧ !p.alarm then (s.updPortF port (fun p => { p with alarm := true, calmSince := 0 })).count 0x80B0 5 0 1
  else if !p.alarm then s
  else if 80 < e then s.updPortF port (fun p => { p with calmSince := 0 })
  else if p.calmSince = 0 then s.updPortF port (fun p => { p with calmSince := s.pwr.uptime + 1 })
  else if p.calmSince + 1000000000 ≤ s.pwr.uptime + 1 then s.updPortF port (fun p => { p with alarm := false, calmSince := 0 })
  else s

/-- Fabric time begins: the offsets measured against local time before it are no estimates of it (log entry 28), and the packets that
waited for it are admitted (R407). -/
def State.timeBegins (s : State) (ftc16 : Nat) : State :=
  let t := { s.time with ftc16 := ftc16, synced := true, exchanges := [] }
  ({ s with time := t, fab := { s.fab with ports := s.fab.ports.map (fun e => (e.1, { e.2 with ests := [] })) } } : State).findParents.admitUnsent

/-- R445, R446. The echo of an exchange arrives at T4: the link's delay and offset; a device without fabric time acquires
it at the sixteenth exchange with a SYNCED neighbour. -/
def execTimeEcho (port arg t4 : Nat) (s : State) : Out :=
  if !s.portUp port then .next s
  else
    let t1 : Int := fld arg 80 64
    let t2 : Int := fld arg 16 64
    let hold : Int := fld arg 0 16
    let delay := ((t4 - t1) - hold) / 2
    let offset := (t2 - t1) - delay
    let s1 := s.updPortF port (fun p => { p with ests := (p.ests ++ [offset]).drop (p.ests.length - 15), delay := delay.toNat })
    let synced := (s.fport port).nSync
    let n := SMap.get 0 s.time.exchanges port + 1
    let s2 : State := if synced ∧ !s.time.synced then { s1 with time := { s1.time with exchanges := SMap.set 0 s1.time.exchanges port n } } else s1
    if synced ∧ !s.time.synced ∧ 16 ≤ n ∧ s.mayAcquire then
      .next (s2.timeBegins (t2 + hold + delay).toNat)
    else .next (if s.time.synced then (s2.judgeLink port).findParents else s2)

/-- R446. The time root has found no SYNCED neighbour within 100 ms of its first port coming up. -/
def execTimeRootTimeout (s : State) : Out :=
  if !s.time.synced ∧ s.isRoot ∧ s.mayAcquire ∧ (List.range 16).any (fun p => s.portPresent p && !(s.fport p).neverUp)
      ∧ !(List.range 16).any (fun p => s.portUp p && (s.fport p).nSync) then
    .next (s.timeBegins 16)
  else .next s

/-- The mean of the parents' estimates. -/
def State.meanOffset (s : State) : Int :=
  let es := ((List.range 16).filter (fun p => s.time.parents.testBit p)).map (fun p => (s.fport p).est)
  if es.isEmpty then 0 else es.sum / (es.length : Int)

/-- R447. The 10 µs steering: a rate that would bring the mean offset to zero in 100 ms, at most 100 ppm. -/
def execFtcSteer (s : State) : Out :=
  let s1 := s.findParents
  if !s1.time.synced ∨ s1.time.parents = 0 then .next s1
  else
    let m := s1.meanOffset
    .next { s1 with time := { s1.time with offset := m, rate := max (-100000) (min 100000 (m * 10 / 16)) } }

/-- FTC_STATUS (R450): the time root reads as such once fabric time runs, so that ROOT is 0 at reset; the rate field is held within its
16 bits (log entry 28). -/
def State.ftcStatus (s : State) : Nat :=
  at_ 63 1 (b2n s.time.synced) + at_ 62 1 (b2n (s.time.synced && s.isRoot)) + at_ 61 1 (b2n s.time.holdover)
  + at_ 60 1 (b2n ((List.range 16).any (fun p => (s.fport p).alarm))) + at_ 52 8 (if s.time.synced then s.rootDistNow else 255)
  + at_ 32 16 s.time.parents + at_ 16 16 (ofInt 16 s.time.offset) + ofInt 16 (max (-32768) (min 32767 s.time.rate))

/-- Advance fabric time by one nanosecond at the rate in force (R441, R443). -/
def FTime.tick (t : FTime) : FTime :=
  if t.ftc16 = 0 then t
  else
    let a := t.rateAcc + t.rate * 16
    let step : Int := if 1000000000 ≤ a then 1 else if a ≤ -1000000000 then -1 else 0
    { t with ftc16 := (t.ftc16 + 16 + step).toNat, rateAcc := a - step * 1000000000 }

end Sys2Proof.Machine
end

