-- ==== Sys2Proof/Machine/Darner.lean ====
section
/-! DEFINITION. The darner (R35, R490, R491, R495): the detour templates, the circuits of a card at a router, the route entries that
lead them after a re-placement to the tile's new site and around a link that leaves service. Log entry 83 has what is left open. -/

namespace Sys2Proof.Machine

-- ---------------------------------------------------------------- ways and templates (R491)

/-- Steps along a row or a column, as directions 0 north, 1 east, 2 south, 3 west. -/
def rowRun (a b : Nat) : List Nat := if a ≤ b then List.replicate (b - a) 1 else List.replicate (a - b) 3
def colRun (a b : Nat) : List Nat := if a ≤ b then List.replicate (b - a) 2 else List.replicate (a - b) 0

/-- Ways between two sites with at most two turns: through some column, or through some row. -/
def twoTurns (a b : Nat) : List (List Nat) :=
  ((List.range 18).map (fun c => rowRun (siteCol a) c ++ colRun (siteRow a) (siteRow b) ++ rowRun c (siteCol b))
    ++ (List.range 16).map (fun r => colRun (siteRow a) r ++ rowRun (siteCol a) (siteCol b) ++ colRun r (siteRow b))).eraseDups

/-- The routers that a way passes after its first, none where a link or warp router of it is out of service or about to leave it. -/
def State.sitesAlong (s : State) (die : Nat) : (site : Nat) → List Nat → Option (List Nat)
  | _, [] => some []
  | x, d :: ds =>
    match s.across die x d with
    | none => none
    | some n =>
      if s.offWeft (linkName die x d) || s.unitOut (catAddr 0 die 1 (sitePack n)) then none
      else (s.sitesAlong die n ds).map (fun ns => n :: ns)

/-- A way that may serve as a template: no unit out of service, and no router twice. -/
def State.legalWay (s : State) (die site : Nat) (ds : List Nat) : Bool :=
  match s.sitesAlong die site ds with
  | some ns => (site :: ns).eraseDups.length == ns.length + 1
  | none => false

/-- Up to `n` of a list's members, in an order that `f` gives. -/
def pickSome (f : Nat → Nat) : Nat → List (List Nat) → List (List Nat)
  | 0, _ => []
  | _ + 1, [] => []
  | n + 1, x :: xs =>
    let y := (x :: xs).getD (f n % (xs.length + 1)) x
    y :: pickSome f n ((x :: xs).erase y)

/-- The templates from a site's router to another's: up to 8, which and in what order is open (R491). -/
def State.templates (s : State) (die a b : Nat) : List (List Nat) :=
  pickSome (Config.template die a b) 8 ((twoTurns a b).filter (s.legalWay die a))

-- ---------------------------------------------------------------- circuits of a card at a router

/-- A circuit that begins or ends at a card's tile: the output port that carries it, 0 where it ends there; whether the tile feeds
it; its number and its picks (R261, R266). -/
structure Circ where
  port : Nat
  begins : Bool
  number : Nat
  picks : List Nat
  deriving DecidableEq, Repr

/-- The circuits that begin or end at the site of a card. -/
def State.circsAt (s : State) (die : Nat) (x : Placed) (site : Nat) : List Circ :=
  let es := (List.range 5).flatMap (fun port => (List.range 15).filterMap (fun i =>
    let e := s.cardEntry die x site port (i + 1)
    if reValid e && (port == 0 || reIn e == 0) then some (port, reIn e == 0, reCircuit e, i + 1) else none))
  ((es.map (fun e => (e.1, e.2.1, e.2.2.1))).eraseDups).map (fun k => {
    port := k.1, begins := k.2.1, number := k.2.2
    picks := (es.filter (fun e => e.1 == k.1 && e.2.1 == k.2.1 && e.2.2.1 == k.2.2)).map (fun e => e.2.2.2) })

/-- The cards with whose entries a card's circuits run: all current ones, or for a card not yet current those of its section and
epoch that are loaded. -/
def State.cardsOf (s : State) (die tile k : Nat) : List Placed :=
  let sl := (s.tile die tile).slot k
  if sl.st.isCurrent then s.cardsNow die sl.ctx
  else (tile, sl) :: (s.tiles.filter (fun e => e.1 / 288 == die && e.1 % 288 != tile)).filterMap (fun e =>
    let same := (List.range 4).find? (fun j =>
      let y := e.2.slot j
      y.st.isLoaded && y.ctx == sl.ctx && y.epoch == sl.epoch && hdrSection y.header.toNat == hdrSection sl.header.toNat)
    (same.or (e.2.currentSlot sl.ctx)).map (fun j => (e.1 % 288, e.2.slot j)))

/-- Links of a circuit from an output port of a router back to where its entries begin. -/
def State.linksBack (s : State) (die : Nat) (cards : List Placed) (pick : Nat) : Nat → (site port : Nat) → Nat
  | 0, _, _ => 0
  | k + 1, site, port =>
    let e := s.entryOf die cards site port pick
    if !reValid e || reIn e == 0 then 0
    else match neighbour site (portDir (reIn e)) with
      | none => 0
      | some n => 1 + s.linksBack die cards pick k n (oppPort (reIn e))

/-- Links of a circuit from an output port of a router on to where its entries end. -/
def State.linksOn (s : State) (die : Nat) (cards : List Placed) (pick : Nat) : Nat → (site port : Nat) → Nat
  | 0, _, _ => 0
  | k + 1, site, port =>
    if port = 0 then 0
    else match s.across die site (portDir port) with
      | none => 0
      | some n =>
        1 + (match (List.range 5).find? (fun q =>
            let e := s.entryOf die cards n q pick
            reValid e && reIn e == oppPort port) with
          | some q => s.linksOn die cards pick k n q
          | none => 0)

/-- Whether a loaded card claims a pick on the link out of a router's output port. -/
def State.linkClaimed (s : State) (die site port pick : Nat) : Bool :=
  s.tiles.any (fun e => e.1 / 288 == die && (List.range 4).any (fun k =>
    let sl := e.2.slot k
    sl.st.isLoaded && reValid (s.cardEntry die (e.1 % 288, sl) site port pick)))

-- ---------------------------------------------------------------- writing a way into routers

/-- Write a card's entry at a router; 0 blanks the place. -/
def Slot.lay (sl : Slot) (site port pick e : Nat) : Slot :=
  { sl with darned := SMap.set 0 sl.darned (site * 80 + port * 16 + pick) (1 + e) }

/-- The entry that carries on the circuit of another: fed by an input, into a sink or 0. -/
def entryFrom (e inPort sink : Nat) : Nat :=
  at_ 31 1 1 + at_ 28 3 inPort + at_ 24 4 sink + at_ 21 3 (if inPort = 0 then reChan e else 0) + at_ 8 8 (reCircuit e)

/-- The places of a way's links: router, output port, and the input that feeds it; then the router and input where the way ends. -/
def wayPlaces : (site inPort : Nat) → List Nat → List (Nat × Nat × Nat) × Nat × Nat
  | x, i, [] => ([], x, i)
  | x, i, d :: ds =>
    let r := wayPlaces ((neighbour x d).getD x) (opposite d + 1) ds
    ((x, d + 1, i) :: r.1, r.2)

/-- Write a circuit's entries at the places of a way, for one pick. -/
def Slot.layWay (sl : Slot) (places : List (Nat × Nat × Nat)) (pick e : Nat) : Slot :=
  places.foldl (fun sl q => sl.lay q.1 q.2.1 pick (entryFrom e q.2.2 0)) sl

/-- The first template whose links all the picks of a circuit may take, and with which it keeps within 63 links: its places. `way`
gives the steps that a template adds, from router `a` on. -/
def State.firstFit (s : State) (die a inPort links : Nat) (picks : List Nat) (ways : List (List Nat)) :
    Option (List (Nat × Nat × Nat) × Nat × Nat) :=
  (ways.map (wayPlaces a inPort)).find? (fun w =>
    w.1.all (fun q => picks.all (fun p => !s.linkClaimed die q.1 q.2.1 p)) && decide (links + w.1.length ≤ 63))

def State.updSlot (s : State) (die tile k : Nat) (f : Slot → Slot) : State := s.updTile die tile (fun t => t.updSlot k f)

-- ---------------------------------------------------------------- a tile that moves (R491, R492 step 6)

/-- A tile's loaded cards leave their route entries in the router of the site they stand at (R35). -/
def State.homeSlots (s : State) (die tile site : Nat) : State :=
  (List.range 4).foldl (fun s k => s.updSlot die tile k (fun sl =>
    if sl.st.isLoaded && sl.home == 0 then { sl with home := site + 1 } else sl)) s

/-- Lead one circuit of a moving tile's card to or from its new site: none where no template admits it. -/
def State.darnCirc (s : State) (die tile k old new : Nat) (c : Circ) : Option State :=
  let x : Placed := (tile, (s.tile die tile).slot k)
  let cards := s.cardsOf die tile k
  let p0 := c.picks.headD 0
  let e (p : Nat) : Nat := s.cardEntry die x old c.port p
  if c.port = 0 ∧ c.begins then
    some (s.updSlot die tile k (fun sl => c.picks.foldl (fun sl p => (sl.lay old 0 p 0).lay new 0 p (e p)) sl))
  else if c.port = 0 then
    (s.firstFit die old (reIn (e p0)) (s.linksBack die cards p0 64 old 0) c.picks (s.templates die old new)).map (fun w =>
      s.updSlot die tile k (fun sl => c.picks.foldl (fun sl p =>
        ((sl.lay old 0 p 0).layWay w.1 p (e p)).lay new 0 p (entryFrom (e p) w.2.2 (reSink (e p)))) sl))
  else
    (s.firstFit die new 0 (s.linksOn die cards p0 64 old c.port) c.picks
        ((s.templates die old new).map (fun ds => ds.reverse.map opposite))).map (fun w =>
      s.updSlot die tile k (fun sl => c.picks.foldl (fun sl p =>
        (sl.layWay w.1 p (e p)).lay old c.port p (entryFrom (e p) w.2.2 0)) sl))

/-- The darner leads every circuit of every loaded card of a tile from its old site to a new one: none where some circuit finds no
template. -/
def State.darnTile (s : State) (die tile old new : Nat) : Option State :=
  (List.range 4).foldl (fun acc k => acc.bind (fun s =>
    let sl := (s.tile die tile).slot k
    if !sl.st.isLoaded then some s
    else (s.circsAt die (tile, sl) old).foldl (fun acc c => acc.bind (fun s => s.darnCirc die tile k old new c)) (some s)))
    (some (s.homeSlots die tile old))

-- ---------------------------------------------------------------- circuits that cross a link (R495)

/-- Where the circuit of an output port crosses a link, if it does: the router before it, and the output port. -/
def State.crossAt (s : State) (die : Nat) (cards : List Placed) (pick link : Nat) : Nat → (site port : Nat) → Option (Nat × Nat)
  | 0, _, _ => none
  | k + 1, site, port =>
    let e := s.entryOf die cards site port pick
    if !reValid e || reIn e == 0 then none
    else match neighbour site (portDir (reIn e)) with
      | none => none
      | some n =>
        let q := oppPort (reIn e)
        if linkName die n (portDir q) = link then some (n, q) else s.crossAt die cards pick link k n q

/-- A circuit of a loaded card that crosses a link: its sink's tile and slot, the circuit there, and where it crosses. -/
structure Crossing where
  tile : Nat
  slot : Nat
  circ : Circ
  site : Nat
  port : Nat
  deriving DecidableEq, Repr

def State.crossings (s : State) (die link : Nat) : List Crossing :=
  (s.tiles.filter (fun e => e.1 / 288 == die)).flatMap (fun e =>
    let t := e.1 % 288
    match s.siteOf die t with
    | none => []
    | some site => (List.range 4).flatMap (fun k =>
      let sl := e.2.slot k
      if !sl.st.isLoaded then []
      else ((s.circsAt die (t, sl) site).filter (fun c => c.port == 0 && !c.begins)).filterMap (fun c =>
        (s.crossAt die (s.cardsOf die t k) (c.picks.headD 0) link 64 site 0).map (fun w => {
          tile := t, slot := k, circ := c, site := w.1, port := w.2 }))))

/-- Lead a circuit around the link it crosses, by the rule of R491: none where no bypass admits it. -/
def State.bypass (s : State) (die : Nat) (x : Crossing) : Option State :=
  let cards := s.cardsOf die x.tile x.slot
  let p0 := x.circ.picks.headD 0
  let e (p : Nat) : Nat := s.entryOf die cards x.site x.port p
  match neighbour x.site (portDir x.port), s.siteOf die x.tile with
  | some m, some sink =>
    let next (p : Nat) : Option (Nat × Nat) := ((List.range 5).map (fun q => (q, s.entryOf die cards m q p))).find? (fun y =>
      reValid y.2 && reIn y.2 == oppPort x.port)
    (s.firstFit die x.site (reIn (e p0)) (s.linksBack die cards p0 64 sink 0 - 1) x.circ.picks (s.templates die x.site m)).map (fun w =>
      s.updSlot die x.tile x.slot (fun sl => x.circ.picks.foldl (fun sl p =>
        let sl1 := (sl.lay x.site x.port p 0).layWay w.1 p (e p)
        match next p with
        | some y => sl1.lay m y.1 p (entryFrom y.2 w.2.2 (reSink y.2))
        | none => sl1) sl))
  | _, _ => none

/-- The SINK of a circuit at its tile. -/
def State.sinkOf (s : State) (die : Nat) (x : Crossing) : Nat :=
  match s.siteOf die x.tile with
  | some site => reSink (s.cardEntry die (x.tile, (s.tile die x.tile).slot x.slot) site 0 (x.circ.picks.headD 0))
  | none => 0

/-- Pause or resume the channel or stream port of a circuit of current cards (R291, R495); one that a re-placement pauses stays so. -/
def State.pauseCirc (s : State) (die : Nat) (on : Bool) (x : Crossing) : State :=
  let sl := (s.tile die x.tile).slot x.slot
  let sink := s.sinkOf die x
  if !sl.st.isCurrent || (s.tile die x.tile).paused then s
  else if 8 ≤ sink then s.updTile die x.tile (fun t => t.updStream (sink - 8) (fun y => { y with paused := on && y.valid }))
  else
    let w := ((s.tile die x.tile).queue sink).cfg.toNat
    match (s.tile die (qSrcTile w)).currentSlot sl.ctx with
    | none => s
    | some k =>
      if (s.tile die (qSrcTile w)).paused then s
      else s.updSlot die (qSrcTile w) k (fun y => y.updChan (qSrcChan w) (fun c =>
        if on then (if c.peer = .paused then c else { c with peerSaved := c.peer, peer := .paused })
        else if c.peer = .paused then { c with peer := c.peerSaved } else c))

end Sys2Proof.Machine
end

