-- ==== Sys2Proof/Machine/Replace.lean ====
section
/-! DEFINITION. Re-placement and darning (R490 to R495, R499): moving a logical tile to a spare, leading circuits
around a link that leaves service, and retiring a tile without replacement. -/

namespace Sys2Proof.Machine

-- ---------------------------------------------------------------- halting with RETIRED (R493, R495, R499)

/-- Discard the tile-ops of a slot, with the accesses they wait for. -/
def State.dropOps (s : State) (die tile k : Nat) : State :=
  let ids := ((s.tile die tile).ops.filter (fun o => o.slot == k)).map (·.id)
  let s1 : State := { s with accs := s.accs.filter (fun (a : Access) => match a.req with
    | .op d t i _ => !(d == die && t == tile && ids.contains i)
    | .none => true) }
  s1.updTile die tile (fun t => { t with ops := t.ops.filter (fun o => o.slot != k), checks := t.checks.filter (fun c => c.op.slot != k) })

/-- Halt a card with RETIRED; what the event names is the tile-op at its head. ACTIVE passes on (R352). -/
def State.retireCard (s : State) (die tile k : Nat) : State :=
  match (s.tile die tile).ops.find? (fun o => o.slot == k) with
  | some o => ((s.dropOps die tile k).haltCard die tile k .retired 0 ((s.tile die tile).slot k).retired.toNat o.d.opcode o.d.tag o.desc).moveActive
      die tile
  | none => (s.haltCard die tile k .retired 0 ((s.tile die tile).slot k).retired.toNat 0 0 0).moveActive die tile

/-- A card leaves service with RETIRED: a current one halts, one not yet current has failed to load. -/
def State.retireSlot (s : State) (die t k : Nat) : State :=
  let sl := (s.tile die t).slot k
  match sl.st with
  | .current => s.retireCard die t k
  | .loading | .loaded => s.loadFailed sl.ctx sl.node die t k sl.image .retired
  | _ => s

/-- The cards at both ends of a circuit leave service (R495). -/
def State.retireEnds (s : State) (die : Nat) (x : Crossing) : State :=
  let c := ((s.tile die x.tile).slot x.slot).ctx
  let sink := s.sinkOf die x
  let src : Option (Nat × Nat) :=
    if 8 ≤ sink then none
    else
      let t := qSrcTile (SMap.get 0 ((s.tile die x.tile).slot x.slot).queueImgs sink)
      ((s.cardsOf die x.tile x.slot).find? (fun y => y.1 == t)).bind (fun y =>
        ((List.range 4).find? (fun k => ((s.tile die t).slot k).ctx == c && (s.tile die t).slot k == y.2)).map (fun k => (t, k)))
  let s1 := match src with
    | some y => s.retireSlot die y.1 y.2
    | none => s
  s1.retireSlot die x.tile x.slot

/-- R495. A link of a die leaves service: the channels of circuits that cross it pause until the darner has led them around it; a
hard failure loses what is under way on them, and each loss arrives poisoned. -/
def State.stopLink (s : State) (die link : Nat) (hard : Bool) : State :=
  let lost (f : Flit) : Bool := match s.siteOf die f.tile with
    | some site => (s.crossAt die (s.cardsNow die f.ctx) f.pick link 64 site 0).isSome
    | none => false
  let s1 := (s.crossings die link).foldl (fun s x => s.pauseCirc die true x) s
  s1.updDie die (fun d => { d with
    darnLinks := d.darnLinks ++ [link]
    flits := if hard then d.flits.map (fun f =>
        if lost f then { f with word := { f.word with poison := true }, line := { f.line with poison := true } } else f)
      else d.flits })

/-- The darner leads the circuits that cross a link around it, and their channels resume; the cards of a circuit that finds no
bypass leave service. -/
def State.darnLink (s : State) (die link : Nat) : State :=
  (s.crossings die link).foldl (fun s x => match s.bypass die x with
    | some s1 => s1.pauseCirc die false x
    | none => s.retireEnds die x) s

/-- R495. The darner's turn once the weft tables have changed. -/
def State.darnLinks (s : State) (die : Nat) : State :=
  ((s.die die).darnLinks.foldl (fun s l => s.darnLink die l) (s.updDie die (fun d => { d with darnLinks := [] }))).commitReady die

/-- R245 steps 2 to 4, R243, R244. The curator's set has passed its check: every router has copied its active bank, the changed
entries have been written into the idle bank, and the broadcast has made it active. A set that fails the check is not installed. A
good site that it does not serve is due for deaccession as unreachable (log entry 74). A set of start-up or of a warm reset is no
switch: no packet is on its way. The darner then leads warp circuits around the links that leave service (R495). -/
def execTableWriteDone (die : Nat) (entries : List (Nat × Nat × Nat)) (s : State) : Out :=
  let x := s.die die
  if !x.tableSw.active || x.tableSw.written then .next s
  else
    let s1 := s.updDie die (fun x => x.switchTables entries)
    if !setOk (s1.tablesOf s1.banksNow) s1.offWeft s1.servedSites s1.factory.computeDies then .next s
    else
      let s2 := (s1.unserved die).foldl (fun s i => s.hardDue (siteAddr die i)) s1
      if x.tableSw.boot then
        let s3 := s2.updDie die (fun d => { d with tableSw := {} })
        .next (if s.pwr.st = .warmReset then s3.bumpDist else s3)
      else .next (((s2.updDie die (fun d => { d with
        tableSw := { d.tableSw with written := true, bank := x.tableBank } })).count 0x8050 5 0 1).bumpDist.darnLinks die)

-- ---------------------------------------------------------------- choosing a spare (R355, R490)

def State.updSlice (s : State) (die site : Nat) (f : SliceRec → SliceRec) : State :=
  { s with test := { s.test with slices := SMap.set {} s.test.slices (tkey die site) (f (s.sliceAt die site)) } }

/-- A site may be taken: good, not failed in a slice, not in another move, not refused, and it admits every circuit of the tile
(R490). -/
def State.mayTake (s : State) (r : Replacement) (site : Nat) : Bool :=
  s.goodSite r.die site && (s.sliceAt r.die site).st != .isolated && !r.refused.contains site
    && (s.darnTile r.die r.tile r.oldSite site).isSome
    && !s.cur.replacements.any (fun q => q.die == r.die && (q.newSite == site || q.oldSite == site) && q.tile != r.tile)

/-- The spare that comes last in the order of R55. -/
def State.lastSpare (s : State) (r : Replacement) : Option Nat :=
  ((s.die r.die).spares.reverse).find? (s.mayTake r)

/-- The site of a logical tile that no context's grant includes. -/
def State.idleSite (s : State) (r : Replacement) : Option (Nat × Nat) :=
  match fixedOrder.reverse.find? (fun x => s.mayTake r x && (match s.tileAt r.die x with
      | some t => t != r.tile && !(List.range 16).any (fun c => (s.ctx c).granted r.die t)
      | none => false)) with
  | some x => (s.tileAt r.die x).map (fun t => (x, t))
  | none => none

/-- Contexts that have a card on a tile, in any slot. -/
def Tile.ctxsHeld (t : Tile) : List Nat := (List.range 16).filter t.holdsSlot

/-- The REPLACED event (R494); `newSite` is packed, or 0xFFFF. -/
def State.replacedEvent (s : State) (r : Replacement) (newSite durUs : Nat) (cs : List Nat) : State :=
  cs.foldl (fun s c => s.postEvent c {
    code := 0x0C, arg0 := at_ 32 16 r.cause + at_ 16 16 (sitePack r.oldSite) + at_ 0 16 newSite
    arg1 := at_ 32 32 durUs + s.cur.seq.toNat, submitTag := s.runTag c, die := r.die, tile := r.tile }) s

/-- R35, R499. A logical tile is retired without replacement; its site's router forwards on. DESIGN CHOICE (log entry 86):
NO_SPARE is set in the entries still owed to the field catalogue (R50), and one already appended stays without it. -/
def State.noSpare (s : State) (r : Replacement) : State :=
  let t := s.tile r.die r.tile
  let u := siteAddr r.die r.oldSite
  let s := s.homeSlots r.die r.tile r.oldSite
  let s1 := (s.logAcc {
      kind := 0x07, unit := u, cause := r.cause, before := r.scoreBefore, after := s.score u, logical := r.tile
      contexts := maskOf t.ctxsOn, rehearsal := r.rehearsal }).count 0x80C0 0x0C 0 1
  let s2 := (List.range 4).foldl (fun s k => s.retireSlot r.die r.tile k) s1
  let s3 : State := { s2 with cur := { s2.cur with pendingAppends := s2.cur.pendingAppends.map (fun p =>
      if p.unit = u then { p with noSpare := true } else p) } }
  ((s3.updDie r.die (fun d => { d with l2p := SMap.set 0 d.l2p r.tile 0 })).bumpDist).replacedEvent r 0xFFFF 0 t.ctxsHeld

/-- Take a site for a move, to be tested first; it serves no replay any longer (R478). A move that finds none ends. -/
def State.pickSpare (s : State) (r : Replacement) : State :=
  let pick : Option (Nat × Option Nat) := match s.lastSpare r with
    | some x => some (x, none)
    | none => if r.relief then (s.idleSite r).map (fun p => (p.1, some p.2)) else none
  match pick with
  | some (x, ex) =>
    let s1 : State := { s with cur := { s.cur with
      replayOf := s.cur.replayOf.filter (fun e => !(e.1 / 288 == r.die && e.2 == x + 1))
      replacements := s.cur.replacements ++ [{ r with newSite := x, exchange := ex, spareOk := false }] } }
    s1.updSlice r.die x (fun y => if y.st = .none then { y with st := .due, dueSince := s.pwr.uptime } else y)
  | none => if r.relief then s else s.noSpare r

/-- The move of a tile under way. -/
def State.moveOf (s : State) (die tile : Nat) : Option Replacement :=
  s.cur.replacements.find? (fun r => r.die == die && r.tile == tile)
def State.endMove (s : State) (r : Replacement) : State :=
  { s with cur := { s.cur with replacements := s.cur.replacements.filter (fun q => !(q.die == r.die && q.tile == r.tile)) } }

-- ---------------------------------------------------------------- fencing a site's queues for a slice or a move (R289, R511, R513)

/-- Every queue of a tile is FENCED. -/
def State.isolateTile (s : State) (die tile : Nat) : State :=
  let s1 := (List.range 8).foldl (fun s q =>
    let x := (s.tile die tile).queue q
    if x.st = .open_ ∨ x.st = .closed then
      (s.updTile die tile (fun t => t.updQueue q (fun x => { x with stSaved := x.st, st := .fenced }))).notice die tile q 2
    else s) s
  s1.updTile die tile (fun t => { t with underTest := true })

/-- The queues resume their earlier states, except those of a context that is itself behind a selvedge; what has come for the
tile-ops in flight meanwhile is taken (R84, R513). -/
def State.rejoinTile (s : State) (die tile : Nat) : State :=
  let s1 := (List.range 8).foldl (fun s q =>
    let x := (s.tile die tile).queue q
    if x.st = .fenced ∧ !(s.ctx (qCtx x.cfg.toNat)).st.inReset then
      (s.updTile die tile (fun t => t.updQueue q (fun x => { x with st := x.stSaved, stSaved := .idle }))).notice die tile q
        (if x.stSaved = .closed then 1 else 3)
    else s) s
  let s2 := s1.updTile die tile (fun t => { t with underTest := false })
  (s2.tile die tile).ops.foldl (fun s o => s.feedOp die tile o.id) s2

-- ---------------------------------------------------------------- the steps of a re-placement (R492, R493)

/-- R492 step 4 and 5. The tile has stopped, its tile-ops have retired and the accesses into it have completed; its
contents are copied with their poison. Tile contents are held by logical number, so the copy changes none. -/
def execReplacementDrained (die tile : Nat) (s : State) : Out :=
  match s.moveOf die tile with
  | some r =>
    if r.spareOk && (s.tile die tile).stopped && (s.tile die tile).quiet && !s.accs.any (fun (a : Access) => a.st == .sent && a.device == s.device
        && (match place a.addr with
          | .tileWin d t _ => d == die && t == tile
          | _ => false)) then
      .next { s with cur := { s.cur with replacements := s.cur.replacements.map (fun q =>
        if q.die = die ∧ q.tile = tile then { q with drained := true } else q) } }
    else .next s
  | none => .next s

/-- R493. Tile-ops still executing 1 ms after the pause are abandoned and their cards are moved HALTED. -/
def execReplacementAbandon (die tile : Nat) (s : State) : Out :=
  match s.moveOf die tile with
  | some r =>
    if (s.tile die tile).stopped && !r.drained then
      .next ((List.range 4).foldl (fun s k =>
        if (s.tile die tile).ops.any (fun o => o.slot == k) then s.retireCard die tile k else s) s)
    else .next s
  | none => .next s

/-- Mark the nodes that have a card on a tile. -/
def State.markNodes (s : State) (die tile : Nat) (cs : List Nat) (f : Node → Node) : State :=
  cs.foldl (fun s c => s.updCtx c (fun x => { x with graph := x.graph.map (fun g => { g with nodes := g.nodes.map (fun n =>
    if n.die = die ∧ SMap.get 0 n.slots tile ≠ 0 then f n else n) }) })) s

/-- The translation, the spares and the idle states as the move leaves them (R242, R355, R492 steps 7 and 8). -/
def State.translate (s : State) (r : Replacement) : State :=
  let s1 := s.updDie r.die (fun d =>
    let m := SMap.set 0 d.l2p r.tile (r.newSite + 1)
    { d with
      l2p := match r.exchange with
        | some x => SMap.set 0 m x (r.oldSite + 1)
        | none => m
      spares := d.spares.filter (· != r.newSite)
      forward := match r.exchange with
        | some x => SMap.set 0 (SMap.set 0 d.forward r.oldSite (r.tile + 1)) r.newSite (x + 1)
        | none => SMap.set 0 d.forward r.oldSite (r.tile + 1) })
  let s2 := (s1.wakeSite r.die r.newSite).bumpDist
  if r.relief then s2.updSlice r.die r.oldSite (fun x => { x with st := .due, dueSince := s.pwr.uptime, grant := 3 })
  else s2.updSite r.die r.oldSite (fun x => { x with idle := 3 })

/-- R355, R460, R492 step 8. What a completed move reports. -/
def State.reportMove (s : State) (r : Replacement) (current held : List Nat) : State :=
  let durUs := (s.pwr.uptime - r.startNs) / 1000
  let s1 := (s.logAcc {
      kind := 0x06, unit := siteAddr r.die r.oldSite, cause := r.cause, newUnit := sitePack r.newSite, before := r.scoreBefore
      after := s.score (siteAddr r.die r.newSite), logical := r.tile, contexts := maskOf current, durationUs := durUs
      rehearsal := r.rehearsal }).count 0x80C0 0x08 0 1
  let s2 := (current.foldl (fun s c => s.ndcTiming c) s1).tallyAll held 496 1
  let s3 := (s2.replacedEvent r (sitePack r.newSite) durUs held).markNodes r.die r.tile held (fun n => { n with replaced := true })
  let s4 := if r.rehearsal then s3.markRehearsal held else s3
  if r.relief then
    (held.foldl (fun s c => ((((s.postEvent c {
        code := 0x0B, arg0 := 2, arg1 := at_ 16 16 (sitePack r.oldSite) + at_ 0 16 (sitePack r.newSite), submitTag := s.runTag c
        die := r.die, tile := r.tile }).ndcTiming c).count 0x8080 7 c 1).tally c 528 1)) s4).markNodes r.die r.tile held
      (fun n => { n with relieved := true })
  else s4

/-- A move has lost its site: the tile takes another, and issues meanwhile. -/
def State.retryMove (s : State) (r : Replacement) : State :=
  ((s.endMove r).updTile r.die r.tile (fun t => { t with stopped := false })).pickSpare { r with
    refused := r.newSite :: r.refused, spareOk := false, drained := false, exchange := none }

/-- R492 steps 6 to 8. The darner's entries are written, the translation is broadcast, and the spare issues. Where cards loaded since
it was chosen leave a circuit no template, the next spare is taken (log entry 83). -/
def execReplacementRoutesWritten (die tile : Nat) (s : State) : Out :=
  match s.moveOf die tile with
  | some r =>
    if !r.drained then .next s
    else
      let t := s.tile die tile
      match s.darnTile die tile r.oldSite r.newSite with
      | none => .next (s.retryMove r)
      | some s0 =>
        let s1 := (s0.translate r).rejoinTile die tile
        let s2 := s1.updTile die tile (fun t => { t with stopped := false, deferredL2 := false })
        .next (((s2.reportMove r t.ctxsOn t.ctxsHeld).endMove r).moveActive die tile)
  | none => .next s

end Sys2Proof.Machine
end

