-- ==== Sys2Proof/Machine/Slices.lean ====
section
/-! DEFINITION. Online test slices (R353 to R355, R510 to R516). -/

namespace Sys2Proof.Machine

/-- Whether the site is one that a re-placement waits to take (R490). -/
def State.neededSpare (s : State) (die site : Nat) : Bool :=
  s.cur.replacements.any (fun r => r.die == die && r.newSite == site && !r.spareOk)

/-- Time since a site's last slice ended, or since the module became READY (log entry 79). -/
def State.sliceAge (s : State) (die site : Nat) : Nat :=
  s.pwr.uptime - max (s.sliceAt die site).endNs (SMap.get 0 s.pwr.bootTimes 7 - 1)

/-- R510. A site becomes due when SLICE_PERIOD_S has passed; with SLICE_ENABLE 0 only a spare that a re-placement needs, which
waits for no period. -/
def execSliceDue (die site : Nat) (s : State) : Out :=
  let x := s.sliceAt die site
  if x.st = .none ∧ s.goodSite die site
      ∧ ((s.obj 0x4010 1 0 = 1 ∧ s.obj 0x4010 2 0 * 1000000000 ≤ s.sliceAge die site) ∨ s.neededSpare die site) then
    .next (s.updSlice die site (fun x => { x with st := .due, dueSince := s.pwr.uptime }))
  else .next s

/-- Whether a LOADED card of a tile is one that a section switch under way waits for or has counted: it is needed now (R353). -/
def State.switchesTo (s : State) (die t : Nat) : Bool :=
  (List.range 4).any (fun k =>
    let sl := (s.tile die t).slot k
    sl.st == .loaded && (match (s.ctx sl.ctx).graph with
      | some g => SMap.get 0 g.switching die != 0
      | none => false))

/-- The moment of R353 at which a site could be granted now, by its code of R516: 4 a spare or unused site, 1 idle,
2 boundary; 0 none. -/
def State.grantKind (s : State) (die site : Nat) : Nat :=
  match s.tileAt die site with
  | none => 4
  | some t =>
    let x := s.tile die t
    let sts := (List.range 4).map (fun k => (x.slot k).st)
    if (s.moveOf die t).isSome then 0
    else if sts.all (· == .empty) then 4
    else if !sts.any SlotSt.isCurrent then (if sts.any (· == .loading) || s.switchesTo die t then 0 else 1)
    else if (List.range 4).all (fun k => !(x.slot k).st.isCurrent || ((x.slot k).st == .finished && (x.slot k).swPhase != .arrived)) then 2
    else 0

/-- Rank in the order of R510: a retest, a spare that a re-placement needs, any other site. -/
def State.sliceRank (s : State) (die site : Nat) : Nat :=
  if (s.sliceAt die site).retest then 0 else if s.neededSpare die site then 1 else 2

/-- Whether another due site of the die that could be granted now comes before this one (R510). -/
def State.sliceBehind (s : State) (die site : Nat) : Bool :=
  (List.range 288).any (fun j =>
    let x := s.sliceAt die j
    j != site && x.st == .due && s.grantKind die j != 0 &&
      (decide (s.sliceRank die j < s.sliceRank die site) ||
        (s.sliceRank die j == s.sliceRank die site && decide (x.dueSince < (s.sliceAt die site).dueSince))))

/-- Sites of a die under test. -/
def State.slicesOn (s : State) (die : Nat) : Nat :=
  ((List.range 288).filter (fun j => (s.sliceAt die j).st == .running || (s.sliceAt die j).st == .reinit)).length

/-- Start a slice: the selvedge is drawn around the site alone (R511). A site in IS1 or IS2 is woken; one in IS3 is tested
without being restored (R549). -/
def State.startSlice (s : State) (die site grant : Nat) (rehearsed : Bool) : State :=
  let s1 := (if (s.site die site).idle = 1 ∨ (s.site die site).idle = 2 then s.wakeSite die site else s).updSlice die site (fun x => { x with
    st := .running, boundary := grant == 2, grant := if x.retest then 5 else if x.grant = 3 then 3 else grant, startNs := s.pwr.uptime, rehearsed := rehearsed, again := false })
  match s.tileAt die site with
  | some t => s1.isolateTile die t
  | none => s1

/-- An idle grant releases the LOADED cards of a tile; each is loaded again after re-initialisation, since its node no longer has
it (R353). -/
def State.unloadTile (s : State) (die t : Nat) : State :=
  (List.range 4).foldl (fun s k =>
    let sl := (s.tile die t).slot k
    if sl.st = .loaded then
      (s.releaseSlot die t k).updNode sl.ctx sl.node (fun n => if n.die = die then { n with slots := SMap.set 0 n.slots t 0 } else n)
    else s) s

/-- R353, R510, R525. The sequencer grants a due site and its slice starts, the module awake from IS4 (R549). No slice starts while
a supply dip stretches the clocks or the module is not READY, and with SLICE_ENABLE 0 only that of a spare a re-placement needs. -/
def execSliceGrant (die site : Nat) (s : State) : Out :=
  let x := s.sliceAt die site
  let g := s.grantKind die site
  if x.st = .due ∧ g ≠ 0 ∧ s.pwr.st = .ready ∧ !s.pwr.stretch ∧ (s.obj 0x4010 1 0 = 1 ∨ s.neededSpare die site)
      ∧ s.slicesOn die < s.obj 0x4010 3 0 ∧ !s.sliceBehind die site then
    let s1 := s.leaveIs4
    match s.tileAt die site with
    | some t => .next ((if g = 1 then s1.unloadTile die t else s1).startSlice die site g false)
    | none => .next (s1.startSlice die site g false)
  else .next s

/-- R353, R355. A site has been due for SEQ_RELIEF_AFTER_S and neither other moment has come: it is relieved. Its tile is to be moved to a spare, else to the site of a tile that no grant includes. -/
def execSliceRelief (die site : Nat) (s : State) : Out :=
  match s.tileAt die site with
  | some t =>
    if (s.sliceAt die site).st = .due ∧ s.grantKind die site = 0
        ∧ (s.sliceAt die site).dueSince + s.obj 0x5024 3 0 * 1000000000 ≤ s.pwr.uptime ∧ (s.moveOf die t).isNone ∧ !s.cur.replacements.any (fun r => r.die == die && r.newSite == site) then
      .next (s.pickSpare {
        die := die, tile := t, oldSite := site, startNs := s.pwr.uptime, relief := true
        scoreBefore := s.score (siteAddr die site) })
    else .next s
  | none => .next s

/-- What a site's next slice runs: an eighth of the logic BIST patterns, and the mode of step 5, 0 fast, 1 INT8, 2 strict,
3 anchored; both rotate (R512). -/
def SliceRec.eighth (x : SliceRec) : Nat := x.turn % 8
def SliceRec.mode (x : SliceRec) : Nat := x.turn % 4

/-- SLICE_LAST (R516). -/
def sliceLast (ftc durUs result grant : Nat) (fails : List Nat) : BitVec 128 :=
  BitVec.ofNat 128 (at_ 64 64 ftc + at_ 48 16 (min durUs 65535) + at_ 44 4 result + at_ 40 4 grant
    + at_ 32 8 (fld (fails.headD 0) 96 8) + at_ 24 8 (fld (fails.headD 0) 88 8))

/-- The same record with another DURATION_US. -/
def withDuration (r : BitVec 128) (durUs : Nat) : BitVec 128 :=
  BitVec.ofNat 128 (r.toNat - at_ 48 16 (fld r.toNat 48 16) + at_ 48 16 (min durUs 65535))

/-- A failure record of a slice: REPAIR 4 (R508, R514). -/
def sliceFail (f : Nat) : BitVec 128 := BitVec.ofNat 128 (at_ 61 67 (fld f 61 67) + at_ 57 4 4)

/-- A site failed its slice: a spare stops being good, and a move that waits for it takes the next (R490, R514). -/
def State.dropSpare (s : State) (die site : Nat) : State :=
  let s1 := s.updDie die (fun d => { d with spares := d.spares.filter (· != site) })
  match s1.cur.replacements.find? (fun r => r.die == die && r.newSite == site && !r.spareOk) with
  | some r => s1.retryMove r
  | none => s1

/-- A site whose slice failed serves no longer as a replay tile (R514). -/
def State.dropReplay (s : State) (die site : Nat) : State :=
  { s with cur := { s.cur with replayOf := s.cur.replayOf.filter (fun e => !(e.1 / 288 == die && e.2 == site + 1)) } }

/-- A unit leaves the list of retests (R498). -/
def State.endRetest (s : State) (u : Nat) : State := { s with cur := { s.cur with retests := s.cur.retests.filter (· != u) } }

/-- A slice ends: 0 it passed, 1 it failed, 2 it was aborted. -/
def State.endSlice (s : State) (die site result durUs : Nat) (fails : List Nat) : State :=
  let x := s.sliceAt die site
  let u := siteAddr die site
  let s1 := s.updSlice die site (fun x => { x with
    last := sliceLast s.recordTime durUs result x.grant fails, grant := 0, overdue := false, endNs := s.pwr.uptime, turn := x.turn + (if result = 2 then 0 else 1), retest := x.retest && result == 2
    again := result == 2, st := if result = 1 then .isolated else .reinit })
  if result = 2 then s1.count 0x80D0 3 0 1
  else
    let s2 := (s1.count 0x80D0 1 0 1).endRetest u
    if result = 0 then
      if x.retest then
        let s3 := s2.logAcc { kind := 0x0F, unit := u, before := s2.score u, after := s2.probation, logical := (s.tileAt die site).getD 0x1FF, contexts := maskOf (s.unitCtxs u), rehearsal := s.flagRehearsed u }
        { s3.setScore u s3.probation with cur := { (s3.setScore u s3.probation).cur with due := SMap.set false s3.cur.due u false, flagged := SMap.set false s3.cur.flagged u false } }
      else s2
    else
      let s3 : State := { s2.count 0x80D0 2 0 1 with test := { s2.test with
        sliceFails := (s2.test.sliceFails ++ fails.map sliceFail).drop (s2.test.sliceFails.length + fails.length - 256) } }
      let s4 := (s3.scoreHit u 0x08 0 true x.rehearsed).dropReplay die site
      if (s.tileAt die site).isNone then s4.dropSpare die site else (match s4.cur.replacements.find? (fun r => r.die == die && r.newSite == site) with
        | some _ => s4.dropSpare die site
        | none => s4)

/-- The failure that a rehearsed slice reports: array 0, lane 0 (R508, R521). -/
def rehFail (die site : Nat) : Nat := at_ 112 16 (sitePack site) + at_ 108 4 die + at_ 104 4 8 + at_ 57 4 4

/-- R512 to R514. A slice ends; `fails` are its failure records, in the layout of R508. A rehearsed slice reports its fault
whatever the hardware found. -/
def execSliceEnd (die site result durationUs : Nat) (fails : List Nat) (s : State) : Out :=
  let x := s.sliceAt die site
  if x.st = .running ∧ result < 3 then
    .next (if x.rehearsed ∧ result ≠ 2 then s.endSlice die site 1 durationUs [rehFail die site] else s.endSlice die site result durationUs fails)
  else .next s

/-- A site whose slice failed returns to service when the curator keeps it: under a common-cause hold or deferred
(R497, R498). -/
def State.keepsSite (s : State) (die site : Nat) : Bool :=
  s.unitHeld (siteAddr die site) || SMap.get false s.cur.deferred (siteAddr die site)

/-- R354. A boundary delay is reported to the contexts whose switch waited for the tile. -/
def State.reportDelay (s : State) (die tile ns : Nat) : State :=
  let t := s.tile die tile
  let cs := (List.range 16).filter (fun c => match t.currentSlot c with
    | some k => (t.slot k).swPhase == .waiting || (s.sectionGroup die c).isSome
    | none => false)
  let s1 := (cs.foldl (fun s c => ((((s.postEvent c {
      code := 0x0B, arg0 := 1, arg1 := ns, submitTag := s.runTag c, die := die, tile := tile }).ndcTiming c).count 0x8080 7 c 1).tally c 528 1)) s).markNodes
    die tile cs (fun n => { n with relieved := true })
  cs.foldl (fun s c => s.updGraph c (fun g => match g.nextSect die with
    | some k => g.delaySwitch k die
    | none => g)) s1

/-- A tested site without a logical tile is a spare again (R355). -/
def State.addSpare (s : State) (die site : Nat) : State :=
  if (s.tileAt die site).isNone ∧ s.goodSite die site then
    s.updDie die (fun d => { d with spares := fixedOrder.filter (fun x => x == site || d.spares.contains x) })
  else s

/-- R513. A site is re-initialised and its selvedge lifted; it is not idle before this (R547). -/
def execSliceReinitDone (die site : Nat) (s : State) : Out :=
  let x := s.sliceAt die site
  if x.st = .reinit ∨ (x.st = .isolated ∧ s.keepsSite die site) then
    let passed := x.st == .reinit && !x.again
    let s1 := (s.updSlice die site (fun x => { x with
        last := if x.again then withDuration x.last ((s.pwr.uptime - x.startNs) / 1000) else x.last
        st := if x.again then .due else .none, again := false, rehearsed := false, boundary := false })).updSite
      die site (fun x => { x with idleSince := s.pwr.uptime })
    let s2 : State := match s.tileAt die site with
      | some t =>
        let s2 := s1.rejoinTile die t
        let s3 := if x.boundary then s2.reportDelay die t (s.pwr.uptime - x.startNs) else s2
        (List.range 16).foldl (fun s c => s.requestLoads c die) s3
      | none => if passed then s1.addSpare die site else s1
    let s2 : State := if x.rehNext then (s2.updSlice die site (fun x => { x with rehNext := false })).startSlice die site 4 true else s2
    if passed then
      .next { s2 with cur := { s2.cur with replacements := s2.cur.replacements.map (fun r =>
        if r.die = die ∧ r.newSite = site then { r with spareOk := true } else r) } }
    else .next s2
  else .next s

/-- R515. A site has gone 60 s without a slice. -/
def execSliceOverdue (die site : Nat) (s : State) : Out :=
  if s.goodSite die site ∧ 60000000000 ≤ s.sliceAge die site ∧ !(s.sliceAt die site).overdue ∧ (s.sliceAt die site).st ≠ .running ∧ (s.sliceAt die site).st ≠ .reinit then
    .next ((s.updSlice die site (fun x => { x with overdue := true })).count 0x80D0 4 0 1)
  else .next s

/-- Every running slice is aborted when a supply dip stretches the clocks; DURATION_US is the time it ran, until the
re-initialisation that it includes is over (R516). -/
def State.abortSlices (s : State) : State :=
  (s.test.slices.filter (fun e => e.2.st == .running)).foldl (fun s e =>
    s.endSlice (e.1 / 288) (e.1 % 288) 2 ((s.pwr.uptime - e.2.startNs) / 1000) []) s

end Sys2Proof.Machine
end

