-- ==== Sys2Proof/Machine/Integrity.lean ====
section
/-! DEFINITION. Supply dips, containment, scores, deaccession and common causes (chapter Result integrity and the health
curator, R480 to R502), the field catalogue and licences (R51, R53, R63). -/

namespace Sys2Proof.Machine

-- ---------------------------------------------------------------- supply dips (R480 to R482)

/-- Log a dip (R480, R500), count it, and mark the supply suspect at 5 dips within 60 s (R482). -/
def State.countDip (s : State) (supply : Nat) (rehearsal : Bool) : State :=
  let s1 := (s.logAcc { kind := 0x0B, unit := catAddr 0 0 0 supply, cls := 8, cause := 0x20, rehearsal := rehearsal }).count 0x80C0 5 supply 1
  let dips := (s.cur.dips.filter (fun d => decide (s.pwr.uptime < d.2 + 600000000000))) ++ [(supply, s.pwr.uptime)]
  let n := (dips.filter (fun d => d.1 == supply && decide (s.pwr.uptime < d.2 + 60000000000))).length
  let s2 : State := { s1 with cur := { s1.cur with dips := dips } }
  if 5 ≤ n ∧ !SMap.get false s.cur.suspect supply then
    let s3 : State := { s2 with cur := { s2.cur with suspect := SMap.set false s2.cur.suspect supply true } }
    let s4 := ({ s3 with cur := { s3.cur with suspectReh := SMap.set false s3.cur.suspectReh supply rehearsal } } : State).logAcc { kind := 0x0C, unit := catAddr 0 0 0 supply, cls := 8, arg := n, cause := 0x20, rehearsal := rehearsal }
    if supply = 0 then (List.range s4.factory.computeDies).foldl (fun s d => s.raiseOpen d 1 true) s4 else s4
  else s2

/-- A dip of VIN_CORE: counted, logged with its length still open, and in the step ledgers (R480 step 3). -/
def State.coreDip (s : State) (rehearsal : Bool) : State :=
  let s1 := (s.countDip 0 rehearsal).tallyEvery 480 1
  let s2 : State := { s1 with cur := { s1.cur with dipSeqs := s1.cur.dipSeqs ++ [(s.cur.seq + 1).toNat] } }
  if rehearsal then s2.markRehearsal (List.range 16) else s2

/-- The stretch begins: the clocks slow, tile-ops are marked, slices are aborted, the level is raised (R480 steps 2 and 3). -/
def State.startStretch (s : State) (rehearsal : Bool) : State :=
  let s2 := s.coreDip rehearsal
  let s3 : State := { s2 with
    pwr := { s2.pwr with stretch := true, stretchSince := s2.pwr.uptime }
    tiles := s2.tiles.map (fun e => (e.1, { e.2 with ops := e.2.ops.map InFlight.markDip })) }
  ((List.range s3.factory.computeDies).foldl (fun s d => s.raiseOpen d 0 true) s3).abortSlices

/-- The stretch ends: its DIP records take its length, and the raise ends 100 ms later (R480 steps 5 and 7). -/
def State.endStretch (s : State) : State :=
  let us := min 65535 ((s.pwr.uptime - s.pwr.stretchSince) / 1000)
  let s1 : State := { s with
    pwr := { s.pwr with stretch := false }
    cur := { s.cur with dipSeqs := [], log := s.cur.log.map (fun r =>
      if s.cur.dipSeqs.contains (fld r.toNat 224 32) then r ||| BitVec.ofNat 256 (at_ 16 16 us) else r) } }
  (List.range s.factory.computeDies).foldl (fun s d =>
    (s.raiseOpen d 0 false).updDie d (fun x => { x with raise := 1 + s.pwr.uptime + 100000000 })) s1

/-- R480 steps 1 to 3. VIN_CORE falls below 21.0 V. -/
def execVinCoreWarning (s : State) : Out :=
  if !s.pwr.core ∨ s.pwr.st = .standby ∨ s.pwr.stretchReal then .next s
  else
    let s1 := if s.pwr.stretch then s.coreDip false else s.startStretch false
    .next { s1 with pwr := { s1.pwr with stretchReal := true } }

/-- R480 step 5. VIN_CORE has stayed above 21.2 V for 10 µs. -/
def execDipStretchEnd (s : State) : Out :=
  if s.pwr.stretchReal then
    let s1 : State := { s with pwr := { s.pwr with stretchReal := false } }
    .next (if s.pwr.stretchReh then s1 else s1.endStretch)
  else .next s

/-- R466, R480 step 7. The raise that follows a dip ends on a die. -/
def execCheckRaiseEnd (die : Nat) (s : State) : Out :=
  if (s.die die).raise ≤ s.pwr.uptime + 1 then .next (s.updDie die (fun x => { x with raise := 0 })) else .next s

/-- R482. VIN_IO falls below its warning level: counted, logged and marked, no more. -/
def execVinIoWarning (s : State) : Out :=
  if !s.pwr.io ∨ s.pwr.st = .standby then .next s else .next (s.countDip 1 false)

/-- R482. A suspect supply has gone 10 minutes without a dip. -/
def execSupplySuspectClear (supply : Nat) (s : State) : Out :=
  if SMap.get false s.cur.suspect supply ∧ !s.cur.dips.any (fun d => d.1 == supply && decide (s.pwr.uptime < d.2 + 600000000000)) then
    let s1 : State := { s with cur := { s.cur with
      suspect := SMap.set false s.cur.suspect supply false, suspectReh := SMap.set false s.cur.suspectReh supply false } }
    let s2 := s1.logAcc { kind := 0x0D, unit := catAddr 0 0 0 supply, cls := 8, rehearsal := SMap.get false s.cur.suspectReh supply }
    .next (if supply = 0 then (List.range s2.factory.computeDies).foldl (fun s d => s.raiseOpen d 1 false) s2 else s2)
  else .next s

-- ---------------------------------------------------------------- containment (R483 to R485)

/-- Whether the poison a context consumes comes from a rehearsal (R524). -/
def State.rehearsedPoison (s : State) (c : Nat) : Bool :=
  s.test.injects.any (fun i => i.active && fld i.record.toNat 36 4 == c && fld i.record.toNat 24 8 == 3)

/-- The partition of a context's armed endpoint. -/
def State.armedPart (s : State) (c : Nat) : Option Nat :=
  let e := s.endpoint c
  if epArmed e ∧ partValid (s.partition (epPart e)) then some (s.partition (epPart e)) else none

/-- The action of a containment that starts now: the partition to reset, or none for a context reset (R483). -/
def State.containPart (s : State) (c : Nat) : Option Nat :=
  match (s.latchedOf c).contain with
  | 1 => none
  | 2 => s.armedPart c
  | _ => match s.armedPart c with
    | some p => if 4096 < s.partSize p then some p else none
    | none => none

/-- R484, R485. A tile-op of the context has consumed poison: each such tile-op is reported and logged, and counts; the first starts
the reset. Context 0 is not reset (R371). -/
def execContainmentStart (ctx : Nat) (s : State) : Out :=
  match (s.ctx ctx).poisonUses with
  | [] => .next s
  | p :: ps =>
    if (s.ctx ctx).st ≠ .active then .next s
    else
      let part := s.containPart ctx
      let reh := s.rehearsedPoison ctx || p.rehearsal
      let action := if part.isSome then 2 else 1
      let pid := (part.map partId).getD 0
      let s1 := s.postEvent ctx {
        code := 0x08, status := .poison, arg0 := p.addr, arg1 := at_ 56 8 p.origin + at_ 48 8 action + at_ 32 16 pid + at_ 0 32 p.seq
        submitTag := s.runTag ctx, die := p.die, tile := p.tile, slot := p.slot, node := p.node, nodeTag := p.nodeTag }
      let site := (s.siteOf p.die p.tile).getD 0
      let s2 := (s1.logAcc {
        kind := 0x0E, unit := siteAddr p.die site, arg := ctx + 256 * action, logical := p.tile, contexts := 2 ^ ctx
        rehearsal := reh }).count 0x80C0 0x0B ctx 1
      let s3 := s2.updCtx ctx (fun x => { x with containing := decide (ctx ≠ 0), poisonUses := ps })
      if (s.ctx ctx).containing then .next s3
      else match part with
      | some e => .next (s3.startPartReset (partId e) reh)
      | none => .next (s3.startReset ctx .poison true reh 0 p.addr)

-- ---------------------------------------------------------------- scores (R486, R487)

/-- R486. A unit has gone RECOVER_S seconds without an event. -/
def execScoreRecover (unit : Nat) (s : State) : Out :=
  if s.recoverS = 0 ∨ s.score unit = 255 ∨ s.pwr.uptime < SMap.get 0 s.cur.eventAt unit + s.recoverS * 1000000000 then .next s else .next (s.setScore unit (s.score unit + 1))

/-- R487. Scores and margin steps in force are saved; a die-wide step of R498, which ends with the boot, is not. -/
def State.saveScores (s : State) : State :=
  { s with flash := { s.flash with
      lost := s.cur.lost
      steps := s.sites.foldl (fun m e => SMap.set 0 m e.1 (16 * e.2.fstep + (e.2.vstep - e.2.ccSteps))) [] } }

def execScoreSave (s : State) : Out := .next s.saveScores

-- ---------------------------------------------------------------- deaccession (R489, R496, R497)

/-- Deaccessions within the window that count against a compute die. -/
def State.recentOf (s : State) (die : Nat) : Nat :=
  (s.cur.recentDeacc.filter (fun e => e.1 == die && decide (s.pwr.uptime < e.2 + s.obj 0x3010 3 0 * 1000000000))).length

/-- A unit beyond the limit is deferred; its tile runs at L2 (R466, R497). -/
def State.deferUnit (s : State) (u n : Nat) : State :=
  if SMap.get false s.cur.deferred u then s
  else
    let s1 := ({ s with cur := { s.cur with deferred := SMap.set false s.cur.deferred u true } } : State).count 0x80C0 0x0A 0 1
    let i := siteOfPack (unitUnit u)
    let t? := if unitClass u = 0 then s.tileAt (unitDie u) i else none
    let s2 := s1.logAcc {
      kind := 0x08, unit := u, cls := unitClass u, arg := n, cause := SMap.get 0 s.cur.causeOf u % 256, before := s.score u, after := s.score u
      logical := t?.getD 0x1FF, contexts := maskOf (s.unitCtxs u), rehearsal := decide (256 ≤ SMap.get 0 s.cur.causeOf u) }
    match t? with
    | some t => s2.updTile (unitDie u) t (fun t => { t with deferredL2 := true })
    | none => s2

/-- Whether a site takes part in a move under way. -/
def State.inMove (s : State) (u : Nat) : Bool :=
  unitClass u == 0 && s.cur.replacements.any (fun r => r.die == unitDie u &&
    (r.oldSite == siteOfPack (unitUnit u) || r.newSite == siteOfPack (unitUnit u)))

/-- What a unit's deaccession starts, by its class. -/
def State.retireUnit (s : State) (u : Nat) (hard : Bool) (before : Nat) : State :=
  let die := unitDie u
  let site := siteOfPack (unitUnit u)
  let cause := SMap.get 0 s.cur.causeOf u % 256
  let out (s : State) : State := { s with cur := { s.cur with retired := SMap.set false s.cur.retired (unitName u) true } }
  match unitClass u with
  | 0 =>
    match s.tileAt die site with
    | some t => (out s).pickSpare {
        die := die, tile := t, oldSite := site, cause := cause, startNs := s.pwr.uptime, scoreBefore := before
        rehearsal := decide (256 ≤ SMap.get 0 s.cur.causeOf u) }
    | none => (out s).updDie die (fun d => { d with spares := d.spares.filter (· != site) })
  | 2 => s.routeAround u
  | 3 =>
    (s.routeAround u).stopLink die (unitName u) hard
  | 4 =>
    { out s with hbm := { s.hbm with fenced := SMap.set false s.hbm.fenced (unitUnit u * 16 + unitSub u) true } }
  | 5 =>
    let s1 := (out s).portDown (unitUnit u) 0
    s1.updPortF (unitUnit u) (fun p => { p with st := .retired })
  | _ => out s

/-- Whether CC_WINDOW_MS has not yet passed since a unit was flagged (R489). -/
def State.inWindowOf (s : State) (u : Nat) : Bool :=
  s.cur.recentFlags.any (fun f => f.1 == u && decide (s.pwr.uptime < f.2 + s.obj 0x3010 4 0 * 1000000))

/-- R489, R496, R497. A unit due for deaccession is retired, no sooner than CC_WINDOW_MS after its flag, or deferred; a hard failure
waits for nothing. -/
def execDeaccession (unit : Nat) (s : State) : Out :=
  let hard := SMap.get false s.cur.hard unit
  let n := s.recentOf (s.homeDie unit)
  if !SMap.get false s.cur.due unit ∨ s.inMove unit then .next s
  else if !hard ∧ (s.healthMode ≠ 2 ∨ s.inWindowOf unit ∨ s.unitHeld unit ∨ s.cur.retests.contains unit) then .next s
  else if !hard ∧ s.deaccLimit ≤ n then .next (s.deferUnit unit n)
  else
    let v := SMap.get 0 s.cur.causeOf unit
    let reh := decide (256 ≤ v)
    let sc := s.score unit
    let s1 := (s.logAcc {
      kind := 0x05, unit := unit, cls := unitClass unit, cause := v % 256, before := sc, after := sc, hard := hard, rehearsal := reh
      contexts := maskOf (s.unitCtxs unit)
      logical := if unitClass unit = 0 then (s.tileAt (unitDie unit) (siteOfPack (unitUnit unit))).getD 0x1FF else 0x1FF }).count 0x80C0 0x07 0 1
    let s2 : State := { s1 with cur := { s1.cur with
      due := SMap.set false s1.cur.due unit false
      hard := if unitClass unit = 2 ∨ unitClass unit = 3 then s1.cur.hard else SMap.set false s1.cur.hard unit false
      deferred := SMap.set false s1.cur.deferred unit false
      recentDeacc := s1.cur.recentDeacc ++ [(s1.homeDie unit, s1.pwr.uptime)] } }.oweField 1 reh unit
    .next ((s2.retireUnit unit hard sc).saveScores)

-- ---------------------------------------------------------------- the end of a common cause (R498)

/-- Units of a domain that wait for a retest when its hold ends: those flagged in the event and those due meanwhile. -/
def State.retestUnits (s : State) (dom : Nat) : List Nat :=
  let held := ((s.cur.holds.filter (fun h => h.domain == dom)).map (·.units)).flatten
  let due := (s.cur.due.map (·.1)).filter (fun u => (unitDomains u).1 == dom || (unitDomains u).2 == dom)
  ((held ++ due).eraseDups).filter (fun u => unitClass u == 0)

/-- R498. A hold ends; the sites it flagged are tested before any other. -/
def execCommonCauseEnd (domain : Nat) (s : State) : Out :=
  if !s.cur.holds.any (fun h => h.domain == domain && decide (h.until_ ≤ s.pwr.uptime)) then .next s
  else
    let us := s.retestUnits domain
    let s1 := s.logAcc {
      kind := 0x0A, unit := catAddr 0 (if domain < 2 ∨ 4 ≤ domain then domain else 0) 0 (if domain = 3 then 1 else 0)
      cls := if domain = 2 ∨ domain = 3 then 8 else 9
      rehearsal := s.cur.holds.any (fun h => h.domain == domain && h.rehearsal) }
    let s2 := (s1.domainDies domain).foldl (fun s d => s.raiseOpen d (2 + domain) false) s1
    let s3 : State := { s2 with cur := { s2.cur with
      holds := s2.cur.holds.filter (fun h => h.domain != domain), retests := (s2.cur.retests ++ us).eraseDups } }
    .next (us.foldl (fun s u => s.updSlice (unitDie u) (siteOfPack (unitUnit u)) (fun x => { x with
      retest := true, st := if x.st = .running ∨ x.st = .reinit then x.st else .due
      again := x.again || x.st == .running || x.st == .reinit, dueSince := s.pwr.uptime })) s3)

-- ---------------------------------------------------------------- the field catalogue and licences (R51 to R54, R63)

/-- R51. The oldest entry owed is appended. -/
def execFieldCatalogueAppend (s : State) : Out :=
  match s.cur.pendingAppends with
  | [] => .next s
  | p :: ps =>
    let s1 := s.appendOwed p
    .next { s1 with cur := { s1.cur with pendingAppends := ps } }

/-- R53. An ADMIN write of a unit's catalogue address to CAT_REACCESSION. -/
def State.reaccession (s : State) (v : Nat) : State :=
  if 2 ^ 28 ≤ v ∨ 6 ≤ unitClass v ∨ s.defect v then s
  else
    let s1 := s.logAcc { kind := 0x10, unit := v, cls := unitClass v, before := s.score v, after := s.score v }
    (s1.oweField 2 false v).saveScores

def execCatReaccession (value : Nat) (s : State) : Out := .next (s.reaccession value)

/-- R63. An ADMIN write of a licence record to LIC_INSTALL. -/
def State.licInstall (s : State) (record : Nat) : State :=
  let code := s.licCheck record
  let s1 : State := { s with cat := { s.cat with licStatus := code } }
  if code ≠ 0 then s1.count 0x8030 2 0 1
  else if s.flash.licences.any (fun x => licNonce x.toNat == licNonce record) then s1
  else { s1 with flash := { s1.flash with licences := s1.flash.licences ++ [BitVec.ofNat 1152 record] } }

def execLicInstall (record : Nat) (s : State) : Out := .next (s.licInstall record)

end Sys2Proof.Machine
end

