-- ==== Sys2Proof/Machine/SelfTest.lean ====
section
/-! DEFINITION. Analogue checks and rehearsal (chapter Self-test and rehearsal, R517 to R524). -/

namespace Sys2Proof.Machine

-- ---------------------------------------------------------------- analogue checks (R517, R518)

/-- The checks of R517, in its order: 0 optical loopback, 1 received power, 2 laser power, 3 PLL lock, 4 PLL jitter, 5 HBM
eye, 6 voltage sensor. -/
def checkKey (check unit : Nat) : Nat := check * 2 ^ 32 + unit

/-- Supply of a rail (R530): 0 VIN_CORE, 1 VIN_IO, 2 VIN_ANA. -/
def railSupply (rail : Nat) : Nat :=
  if 17 ≤ rail ∧ rail ≤ 26 then 0 else if 1 ≤ rail ∧ rail ≤ 12 then 1 else 2

/-- The first failure of a check: it is retried after 10 ms. -/
def State.checkFailed (s : State) (check unit : Nat) : State :=
  { s with test := { s.test with retry := SMap.set 0 s.test.retry (checkKey check unit) (s.pwr.uptime + 1) } }

/-- Units scored when a check has failed twice. `unit` names what was checked: a port, port * 2^16 + the wavelengths below
their limit, an I/O die, kind * 2^16 + the PLL's place, stack * 16 + channel, a rail. -/
def checkUnits (check unit : Nat) : List Nat :=
  match check with
  | 0 => [portAddr unit]
  | 1 => [portAddr (unit / 2 ^ 16)]
  | 2 => (List.range 4).map (fun i => portAddr (4 * unit + i))
  | 3 | 4 =>
    let p := unit % 2 ^ 16
    (match unit / 2 ^ 16 with
      | 0 => [siteAddr (p / 288) (p % 288)]
      | 1 => [portAddr p]
      | 2 => (List.range 16).map (channelAddr p)
      | _ => [])
  | 5 => [channelAddr (unit / 16) (unit % 16)]
  | _ => []

/-- Wavelengths of a port fail: it goes on at the width the others allow, which a RETRAIN frame tells the far end (R401; log entry 76),
or goes down (R399). -/
def State.failWl (s : State) (port mask : Nat) : State :=
  let p := s.fport port
  let lost := p.wlGood &&& mask
  let good := p.wlGood - lost
  let w := widthOf good
  let s1 := s.updPortF port (fun p => { p with wlGood := good, width := w, st := if p.st = .up ∧ w ≠ 3 then .degraded else p.st })
  let s2 := if w = 0 then (s1.portDown port 1).count 0x80A0 4 port 1 else s1.emitLink port 3 0
  s2.scoreWl port (popcount lost 8)

/-- What is logged of a check whose units carry no score: the rail under CLASS 8, the die under CLASS 9. -/
def State.logCheck (s : State) (check unit : Nat) : State :=
  if check = 6 then s.logAcc { kind := 0x01, unit := catAddr 0 0 0 (railSupply unit), cls := 8, cause := 0x12 }
  else s.logAcc { kind := 0x01, unit := catAddr 0 (if unit / 2 ^ 16 = 4 then 4 + unit % 2 ^ 16 else unit % 2 ^ 16) 0 0, cls := 9, cause := 0x12 }

/-- Score a unit for a check that has failed twice; the failure is logged, where the score's fall does not itself log a flag (log entry
84). -/
def State.scoreCheck (s : State) (u : Nat) : State :=
  let s1 := s.scoreHit u 0x12 64 false false
  if s1.cur.seq ≠ s.cur.seq then s1
  else s1.logAcc {
    kind := 0x01, unit := u, cls := unitClass u, cause := 0x12, before := s.score u, after := s1.score u, contexts := maskOf (s.unitCtxs u)
    logical := if unitClass u = 0 then (s.tileAt (unitDie u) (siteOfPack (unitUnit u))).getD 0x1FF else 0x1FF }

/-- A check has failed twice. -/
def State.checkFailedTwice (s : State) (check unit : Nat) : State :=
  let s1 := s.count 0x80D0 6 0 1
  let us := checkUnits check unit
  let s2 := if us.isEmpty then s1.logCheck check unit else us.foldl State.scoreCheck s1
  match check with
  | 0 => s2.updPortF unit (fun p => { p with loopFail := true })
  | 1 => s2.failWl (unit / 2 ^ 16) (unit % 2 ^ 16)
  | 6 => { s2 with test := { s2.test with
      analogue := SMap.set false s2.test.analogue unit true, analoguePass := SMap.set 0 s2.test.analoguePass unit 0 } }
  | _ => s2

/-- R517. Optical loopback, on a port that is DOWN or in optical calibration. -/
def execOpticalLoopbackCheck (port : Nat) (pass : Bool) (s : State) : Out :=
  if !s.portPresent port ∨ (s.fport port).st ≠ .down then .next s
  else if pass then .next (s.updPortF port (fun p => { p with loopFail := false }))
  else .next (s.checkFailed 0 port)

/-- R517. Received power of an UP port; `failed` is the mask of wavelengths below the limit. -/
def execRxPowerCheck (port failed : Nat) (s : State) : Out :=
  if s.portUp port ∧ fld failed 0 8 ≠ 0 then .next (s.checkFailed 1 (port * 2 ^ 16 + fld failed 0 8)) else .next s

/-- R517. Laser power of an I/O die's bank. -/
def execLaserPowerCheck (ioDie : Nat) (pass : Bool) (s : State) : Out :=
  if ioDie < s.factory.ioDies ∧ !pass then .next (s.checkFailed 2 ioDie) else .next s

/-- R517. A PLL has lost lock for 1 µs: kind 0 island (die * 288 + site), 1 SerDes (port), 2 HBM port (stack), 3 network
(die), 4 I/O die. -/
def execPllLockLoss (kind unit : Nat) (s : State) : Out :=
  if kind < 5 ∧ unit < 2 ^ 16 then .next (s.checkFailed 3 (kind * 2 ^ 16 + unit)) else .next s

/-- R517. The jitter of a PLL. -/
def execPllJitterCheck (kind unit : Nat) (pass : Bool) (s : State) : Out :=
  if kind < 5 ∧ unit < 2 ^ 16 ∧ !pass then .next (s.checkFailed 4 (kind * 2 ^ 16 + unit)) else .next s

/-- R517. The HBM eye of a channel, scanned within its refresh intervals. -/
def execHbmEyeCheck (stack channel : Nat) (pass : Bool) (s : State) : Out :=
  if s.stackFitted stack ∧ channel < 16 ∧ !pass
      ∧ (SMap.get 0 s.hbm.refresh (stack * 32 + 2 * channel) ≠ 0 ∨ SMap.get 0 s.hbm.refresh (stack * 32 + 2 * channel + 1) ≠ 0) then
    .next (s.checkFailed 5 (stack * 16 + channel))
  else .next s

/-- R517, R518. The voltage sensor of a rail against its regulator's telemetry: a bit of ANALOGUE_STATE clears after ten
passes in a row. -/
def execVsenseCrossCheck (rail : Nat) (pass : Bool) (s : State) : Out :=
  if 29 ≤ rail then .next s
  else if !pass then
    .next (({ s with test := { s.test with analoguePass := SMap.set 0 s.test.analoguePass rail 0 } } : State).checkFailed 6 rail)
  else if !SMap.get false s.test.analogue rail then .next s
  else
    let n := SMap.get 0 s.test.analoguePass rail + 1
    if n < 10 then .next { s with test := { s.test with analoguePass := SMap.set 0 s.test.analoguePass rail n } }
    else .next { s with test := { s.test with
      analogue := SMap.set false s.test.analogue rail false, analoguePass := SMap.set 0 s.test.analoguePass rail 0 } }

/-- R517. The retry of a failed check, 10 ms later. -/
def execAnalogueRetry (check unit : Nat) (pass : Bool) (s : State) : Out :=
  let since := SMap.get 0 s.test.retry (checkKey check unit)
  if since = 0 ∨ s.pwr.uptime + 1 < since + 10000000 then .next s
  else
    let s1 : State := { s with test := { s.test with retry := SMap.set 0 s.test.retry (checkKey check unit) 0 } }
    .next (if pass then s1 else s1.checkFailedTwice check unit)

-- ---------------------------------------------------------------- rehearsal: the record (R520)

def injAt (r : Nat) : Nat := fld r 192 64
def injDur (r : Nat) : Nat := fld r 160 32
def injCount (r : Nat) : Nat := fld r 144 16
def injAddr (r : Nat) : Nat := fld r 98 46
def injUnit (r : Nat) : Nat := fld r 48 16
def injDie (r : Nat) : Nat := fld r 44 4
def injCls (r : Nat) : Nat := fld r 40 4
def injCtx (r : Nat) : Nat := fld r 36 4
def injSel (r : Nat) : Nat := fld r 33 3
def injKind (r : Nat) : Nat := fld r 24 8
def injId (r : Nat) : Nat := fld r 0 16

/-- The target of an injection, by the column Target of R521: which fields it has, and their values. -/
def injTarget (r : Nat) : Nat × List Nat :=
  match injKind r with
  | 1 => (1, [injDie r, injUnit r])
  | 2 => (2, [injDie r, injUnit r, injCtx r])
  | 3 => (3, [injAddr r / 64, injCtx r])
  | 4 => (4, [if injCls r = 5 then portAddr (injUnit r) else linkName (injDie r) (siteOfPack (injUnit r)) (injSel r)])
  | 5 => (5, [injDie r, injUnit r, injSel r, injCtx r])
  | 6 => (6, [injDie r, injUnit r, injSel r, injCtx r])
  | _ => (7, [injUnit r])

/-- Check 1 of R522. -/
def State.injFormat (s : State) (r : Nat) : Bool :=
  decide (1 ≤ injKind r) && decide (injKind r ≤ 7)
    && (match injKind r with
      | 4 => injCls r == 3 || injCls r == 5
      | 7 => injCls r == 8
      | _ => injCls r == 0)
    && fld r 64 34 == 0 && !bitOf r 32 && fld r 16 8 == 0
    && decide (1 ≤ injDur r) && decide (injDur r ≤ 60000000) && decide (injAt r ≤ s.ftc + 60000000000)

/-- Check 2 of R522: the target is present, mapped and in service. -/
def State.injTargetOk (s : State) (r : Nat) : Bool :=
  let d := injDie r
  let t := injUnit r
  let c := injCtx r
  let tile := s.diePresent d && decide (t < 288) && (s.siteOf d t).isSome
  match injKind r with
  | 1 => tile
  | 2 => tile && c != 0
  | 3 => c != 0 && s.present (injAddr r / 64 * 64) 64 && (s.windowGrants c (injAddr r / 64 * 64) 64 [] ||
      (match place (injAddr r) with
        | .tileWin d t off => decide (off < 0x180000) && s.ownsBanks c d t (off / 64 * 64) 64
        | _ => false))
  | 4 =>
    if injCls r = 5 then s.portPresent t && (s.fport t).st != .retired
    else s.diePresent d && decide (fld t 8 8 < 18) && decide (fld t 0 8 < 16) && decide (injSel r < 4) && !s.linkOut d (siteOfPack t) (injSel r)
  | 5 => tile && c != 0 && ((s.tile d t).queue (injSel r)).st != .idle && qCtx ((s.tile d t).queue (injSel r)).cfg.toNat == c
  | 6 => tile && c != 0 && decide (injSel r < 4) && ((s.tile d t).slot (injSel r)).st != .empty && ((s.tile d t).slot (injSel r)).ctx == c
  | _ => (t == 0 && s.pwr.core) || (t == 1 && s.pwr.io)

/-- A context's consent for a kind is in force (R519). -/
def State.consents (s : State) (c kind : Nat) : Bool :=
  let e := s.obj 0x4011 0 c
  c == 0 || ((s.ctx c).st == .active && fld e 0 8 == (s.ctx c).gen.toNat && bitOf e 15 && bitOf e (7 + kind))

/-- The user contexts whose consent an injection needs (R521). -/
def State.consenters (s : State) (r : Nat) : List Nat :=
  match injKind r with
  | 1 => (List.range 16).filter (fun c => c != 0 && (s.ctx c).granted (injDie r) (injUnit r))
  | 4 | 7 => (List.range 16).filter (fun c => c != 0 && (s.ctx c).st == .active)
  | _ => [injCtx r]

/-- The checks of R522, in order: 0 accepted. -/
def State.injCheck (s : State) (r : Nat) (others : List Inject) : Nat :=
  if !s.injFormat r then 1
  else if !s.injTargetOk r then 2
  else if !(s.consenters r).all (fun c => s.consents c (injKind r)) then 3
  else if 4 ≤ others.length ∨ others.any (fun i => injTarget i.record.toNat == injTarget r) then 4
  else 0

-- ---------------------------------------------------------------- starting and ending injections (R521, R523, R524)

/-- An entry of REHEARSAL_LOG (R605). -/
def rehEntryBits (start stop r code mask : Nat) : BitVec 256 :=
  BitVec.ofNat 256 (at_ 192 64 start + at_ 128 64 stop + at_ 48 16 mask + at_ 40 8 code + at_ 32 8 (injKind r) + at_ 0 16 (injId r))

def State.rehStatus (s : State) (r code : Nat) : State :=
  { s with test := { s.test with rehStatus := BitVec.ofNat 32 (at_ 16 16 (injId r) + at_ 0 8 code) } }

def State.addRehLog (s : State) (e : BitVec 256) : State :=
  { s with test := { s.test with rehLog := (s.test.rehLog ++ [e]).drop (s.test.rehLog.length + 1 - 64) } }

/-- The REHEARSAL event of a phase, to the contexts of a mask. -/
def State.rehEvent (s : State) (r phase mask : Nat) : State :=
  ((List.range 16).filter (fun c => mask.testBit c)).foldl (fun s c => s.postEvent c {
    code := 0x0F, arg0 := at_ 56 8 phase + at_ 48 8 (injKind r) + at_ 0 16 (injId r), arg1 := s.ftc, submitTag := s.runTag c }) s

/-- The unit that an injection's faults are charged to. -/
def State.injCharged (s : State) (r : Nat) : Nat :=
  match injKind r with
  | 1 | 2 => siteAddr (injDie r) ((s.siteOf (injDie r) (injUnit r)).getD 0)
  | 4 => if injCls r = 5 then portAddr (injUnit r) else linkName (injDie r) (siteOfPack (injUnit r)) (injSel r)
  | _ => 0

/-- The fault itself (R521). -/
def State.injApply (s : State) (r : Nat) : State :=
  let d := injDie r
  let t := injUnit r
  match injKind r with
  | 1 =>
    let site := (s.siteOf d t).getD 0
    let st := (s.sliceAt d site).st
    if st = .running ∨ st = .reinit ∨ st = .isolated then s.updSlice d site (fun x => { x with rehNext := true })
    else s.startSlice d site 4 true
  | 2 => s.updTile d t (fun x => { x with rehMismatch := injCount r, rehCtx := injCtx r })
  | 3 => (s.memPoison (injAddr r / 64 * 64) 64).markPoison 1 (injAddr r)
  | 4 =>
    if injCls r = 5 then
      (((s.portDown t 6).updPortF t (fun p => { p with rehDown := true })).count 0x80A0 4 t 1).scoreHit (portAddr t) 0x0E 64 false true
    else
      let u := linkName d (siteOfPack t) (injSel r)
      let s1 := (s.count 0x8050 2 0 1).hardFail u
      { s1 with cur := { s1.cur with causeOf := SMap.set 0 s1.cur.causeOf u (0x0B + 256) } }
  | 5 => s.updTile d t (fun x => x.updQueue (injSel r) (fun q => { q with rehStall := true }))
  | 6 => s.updTile d t (fun x => x.updSlot (injSel r) (fun k => { k with rehHang := true }))
  | _ =>
    if t = 1 then s.countDip 1 true
    else
      let s1 := if s.pwr.stretch then s.coreDip true else s.startStretch true
      { s1 with pwr := { s1.pwr with stretchReh := true } }

/-- An injection's effects stop when its time has run out (R521). A slice that still waits for its site does not run; a router link
that the curator has not yet taken out of service trains again (R489, R524). -/
def State.injStop (s : State) (r : Nat) : State :=
  let d := injDie r
  let t := injUnit r
  match injKind r with
  | 1 => s.updSlice d ((s.siteOf d t).getD 0) (fun x => { x with rehNext := false })
  | 2 => s.updTile d t (fun x => { x with rehMismatch := 0 })
  | 4 =>
    if injCls r = 5 then s.updPortF t (fun p => { p with rehDown := false, linkUp := p.linkUp || p.st == .down })
    else
      let u := linkName d (siteOfPack t) (injSel r)
      if s.unitOut u then s
      else { s with cur := { s.cur with due := SMap.set false s.cur.due u false, hard := SMap.set false s.cur.hard u false } }
  | 5 =>
    let n := ((s.tile d t).queue (injSel r)).heldCredits
    let s1 := s.updTile d t (fun x => x.updQueue (injSel r) (fun q => { q with rehStall := false, heldCredits := 0 }))
    if n = 0 then s1 else s1.returnCredit d t (injSel r) 0 n
  | 6 => s.updTile d t (fun x => x.updSlot (injSel r) (fun k => { k with rehHang := false }))
  | 7 =>
    if t = 0 ∧ s.pwr.stretchReh then
      let s1 : State := { s with pwr := { s.pwr with stretchReh := false } }
      if s.pwr.stretchReal then s1 else s1.endStretch
    else s
  | _ => s

/-- Start an accepted injection. -/
def State.injStart (s : State) (r : Nat) : State :=
  let mask := maskOf (s.consenters r)
  let s1 : State := { s with test := { s.test with injects := s.test.injects ++ [{
    record := BitVec.ofNat 256 r, active := true, mask := mask, startFtc := s.ftc, startNs := s.pwr.uptime, unit := s.injCharged r }] } }
  ((s1.rehEvent r 1 mask).count 0x80D0 7 0 1).injApply r

/-- A request that fails a check (R522). -/
def State.injRefuse (s : State) (r code : Nat) : State :=
  ((s.rehStatus r code).count 0x80D0 8 0 1).addRehLog (rehEntryBits s.ftc s.ftc r code 0)

/-- Whether a reset, re-placement or containment of a rehearsed injection still runs (R523). -/
def State.rehRunning (s : State) (i : Inject) : Bool :=
  (List.range 16).any (fun c => i.mask.testBit c && ((s.ctx c).containing || (match (s.ctx c).reset? with
    | some x => x.rehearsal
    | none => false)))
  || s.cur.replacements.any (fun x => x.rehearsal && siteAddr x.die x.oldSite == i.unit)
  || (injKind i.record.toNat == 1 && (let st := (s.sliceAt (unitDie i.unit) (siteOfPack (unitUnit i.unit))).st
      st == .running || (s.sliceAt (unitDie i.unit) (siteOfPack (unitUnit i.unit))).rehNext || (st == .isolated && SMap.get false s.cur.due i.unit && !s.unitHeld i.unit)))

/-- Points that rehearsed events took from a unit are added back (R524). -/
def State.giveBack (s : State) (u : Nat) : State :=
  let n := SMap.get 0 s.cur.rehLost u
  if n = 0 then s
  else
    let s1 := s.setScore u (min 255 (s.score u + n))
    { s1 with cur := { s1.cur with rehLost := SMap.set 0 s1.cur.rehLost u 0 } }

/-- Replace or remove the oldest injection that is equal to one. -/
def setFirst (i : Inject) (y : Option Inject) : List Inject → List Inject
  | [] => []
  | x :: xs => if x = i then y.toList ++ xs else x :: setFirst i y xs
def State.setInject (s : State) (i : Inject) (y : Option Inject) : State :=
  { s with test := { s.test with injects := setFirst i y s.test.injects } }

/-- When an injection ends, the points that rehearsed events took from each unit are added back, but for units that another active
injection's faults are charged to (R524). -/
def State.giveBackAll (s : State) : State :=
  (s.cur.rehLost.map (·.1)).foldl (fun s u => if s.test.injects.any (fun i => i.active && i.unit == u) then s else s.giveBack u) s

/-- An injection ends: its effects stop now, and it counts as ended once its consequences have run. A slice that waits for its site
still runs unless the injection was cancelled (R520, R523). -/
def State.injEnd (s : State) (i : Inject) (cancelled : Bool) : State :=
  let r := i.record.toNat
  let s1 := if (if injKind r = 1 then cancelled else !i.spent) then s.injStop r else s
  if s1.rehRunning i then s1.setInject i (some { i with spent := true })
  else (((s1.setInject i none).giveBackAll).rehEvent r 2 i.mask).addRehLog (rehEntryBits i.startFtc s.ftc r 0 i.mask)

/-- A record written to REHEARSAL_INJECT (R520, R522). -/
def State.inject (s : State) (r : Nat) : State :=
  if injKind r = 0 then
    match s.test.injects.find? (fun i => injId i.record.toNat == injId r) with
    | some i =>
      let s1 := s.rehStatus r 0
      if i.active then s1.injEnd i true
      else (s1.setInject i none).addRehLog (rehEntryBits 0 s.ftc i.record.toNat 0 0)
    | none => s.injRefuse r 2
  else
    let code := s.injCheck r s.test.injects
    if code ≠ 0 then s.injRefuse r code
    else if injAt r ≤ s.ftc then (s.rehStatus r 0).injStart r
    else
      let s1 := s.rehStatus r 0
      { s1 with test := { s1.test with injects := s1.test.injects ++ [{ record := BitVec.ofNat 256 r, unit := s.injCharged r }] } }

/-- Write a record whose KIND is the command's. -/
def State.injectKind (s : State) (k r : Nat) : State := if injKind r = k then s.inject (r % 2 ^ 256) else s

/-- R520. A record of KIND 0x00 cancels the injection whose REHEARSAL_ID it gives. -/
def execRehCancel (record : Nat) (s : State) : Out := .next (s.injectKind 0 record)
/-- R521. TILE_FAULT. -/
def execRehTileFault (record : Nat) (s : State) : Out := .next (s.injectKind 1 record)
/-- R521. CHECK_MISMATCH. -/
def execRehCheckMismatch (record : Nat) (s : State) : Out := .next (s.injectKind 2 record)
/-- R521. POISON. -/
def execRehPoison (record : Nat) (s : State) : Out := .next (s.injectKind 3 record)
/-- R521. LINK_DROP. -/
def execRehLinkDrop (record : Nat) (s : State) : Out := .next (s.injectKind 4 record)
/-- R521. QUEUE_STALL. -/
def execRehQueueStall (record : Nat) (s : State) : Out := .next (s.injectKind 5 record)
/-- R521. HANG. -/
def execRehHang (record : Nat) (s : State) : Out := .next (s.injectKind 6 record)
/-- R521. BROWNOUT_WARN. -/
def execRehBrownoutWarn (record : Nat) (s : State) : Out := .next (s.injectKind 7 record)

/-- R522. A pending injection's fabric time has come: it is checked again, and starts. -/
def execRehearsalAtFtc (ident : Nat) (s : State) : Out :=
  match s.test.injects.find? (fun i => injId i.record.toNat == ident && !i.active && decide (injAt i.record.toNat ≤ s.ftc)) with
  | some i =>
    let r := i.record.toNat
    let s1 := s.setInject i none
    let code := s1.injCheck r s1.test.injects
    .next (if code ≠ 0 then s1.injRefuse r code else (s1.rehStatus r 0).injStart r)
  | none => .next s

/-- The card or queue that an injection acts on has been released (R523). -/
def State.injReleased (s : State) (i : Inject) : Bool :=
  let r := i.record.toNat
  let t := s.tile (injDie r) (injUnit r)
  match injKind r with
  | 5 => !(t.queue (injSel r)).rehStall
  | 6 => !(t.slot (injSel r)).rehHang
  | _ => false

/-- Whether an injection's time is over: its duration has run out, or its target is released (R523). -/
def State.injOver (s : State) (i : Inject) : Bool :=
  i.spent || decide (i.startNs + 1000 * injDur i.record.toNat ≤ s.pwr.uptime) || s.injReleased i

/-- R523. An injection's duration has run out, or its target is released, or its consequences have finished. -/
def execRehearsalEnd (ident : Nat) (s : State) : Out :=
  match s.test.injects.find? (fun i => injId i.record.toNat == ident && i.active && s.injOver i) with
  | some i => .next (s.injEnd i false)
  | none => .next s

/-- A write of an entry of REHEARSAL_CONSENT: the module fills in the generation (R519). -/
def State.writeConsent (s : State) (c v : Nat) : State :=
  s.setObj 0x4011 0 c (at_ 8 8 (fld v 8 8) + (s.ctx c).gen.toNat)

/-- R519. -/
def execRehearsalConsentWrite (ctx value : Nat) (s : State) : Out := if 16 ≤ ctx then .next s else .next (s.writeConsent ctx value)

end Sys2Proof.Machine
end

