-- ==== Sys2Proof/Machine/Power.lean ====
section
/-! DEFINITION. Supplies, module state, start-up and module reset (chapter Supplies, start-up and power states, R526 to
R537; R395, R503 to R509, R569, R592, R631). -/

namespace Sys2Proof.Machine

-- ---------------------------------------------------------------- module state (R533, R545, R631)

/-- Whether any group of a range is throttled (R541). -/
def State.anyHot (s : State) (lo n : Nat) : Bool := (List.range n).any (fun i => SMap.get false s.pwr.hot (lo + i))

/-- CAUSE of a compute die (R545): power, die temperature, regulator temperature. -/
def State.dutyCause (s : State) (d : Nat) : Nat :=
  at_ 0 1 (b2n s.pwr.powCore) + at_ 1 1 (b2n (SMap.get false s.pwr.hot d)) + at_ 2 1 (b2n (s.anyHot 14 6))

/-- Array duty D of a compute die (R542). -/
def State.dutyOf (s : State) (d : Nat) : Nat := 16 - SMap.get 0 s.pwr.duty d

/-- CAUSE as it reads: 0 for an absent die (R3). -/
def State.causeReg (s : State) (d : Nat) : Nat := if s.diePresent d then s.dutyCause d else 0

/-- DUTY as it reads: 0 for an absent die (R3). -/
def State.dutyReg (s : State) (d : Nat) : Nat := if s.diePresent d then s.dutyOf d else 0

/-- THROTTLE_STATE (R545). -/
def State.throttleState (s : State) : Nat :=
  at_ 29 1 (b2n (s.anyHot 6 8)) + at_ 28 1 (b2n (s.pwr.powIo || s.anyHot 2 4)) + at_ 24 4 (s.causeReg 1) + at_ 20 4 (s.causeReg 0)
  + at_ 5 5 (s.dutyReg 1) + at_ 0 5 (s.dutyReg 0)

/-- MODULE_STATE (R533). -/
def State.moduleState (s : State) : Nat := at_ 24 8 s.flash.lastFault + at_ 8 8 s.pwr.phase + at_ 0 4 s.pwr.st.code

/-- The conditions under which ALERT_N is driven low (R631). -/
def State.alertCause (s : State) : Bool :=
  s.pwr.st == .held || s.pwr.st == .thermalOff || s.pwr.romOnly || s.throttleState / 2 ^ 20 != 0
    || SMap.get false s.cur.suspect 0 || SMap.get false s.cur.suspect 1

/-- ALERT_N: none while high-impedance, else whether it is driven low (R629, R631). -/
def State.alertN (s : State) : Option Bool :=
  if !s.pwr.ctrlOn then none else if s.pwr.st = .booting then some s.pwr.alert else some s.alertCause

/-- The front-face LED (R641). -/
inductive Led where
  | off | green | amber | red
  deriving DecidableEq, Repr

def State.led (s : State) : Led :=
  if s.alertN = some true then .red
  else match s.pwr.st with
    | .ready => .green
    | .booting | .warmReset | .sleep => .amber
    | _ => .off

/-- The shutter of a port is closed (R634). The lasers are on from start-up phase 6 until the module leaves service (R534). -/
def State.shutterClosed (s : State) (p : Nat) : Bool :=
  s.roleOf p == 0 || !s.portPresent p || (s.fport p).st == .retired
    || !(s.pwr.st == .ready || s.pwr.st == .warmReset || (s.pwr.st == .booting && decide (6 ≤ s.pwr.phase)))

/-- Enter a module state; a change of MODULE_STATE signals vector 5 (R563). -/
def State.enter (s : State) (st : ModSt) (phase : Nat) : State :=
  let s1 : State := { s with pwr := { s.pwr with st := st, phase := phase } }
  if s.pwr.st = st ∧ s.pwr.phase = phase then s1 else s1.signalPf 5

/-- Record LAST_FAULT in flash. -/
def State.fault (s : State) (code : Nat) : State := { s with flash := { s.flash with lastFault := code } }

-- ---------------------------------------------------------------- turning the rails off (R395, R592)

def okeyIndex (k : Nat) : Nat := k / 2 ^ 28
def okeySub (k : Nat) : Nat := k / 2 ^ 20 % 256
/-- Whether a key names an RWP value. -/
def okeyPersists (k : Nat) : Bool :=
  match objDef? (okeyIndex k) (okeySub k) with
  | some o => o.persist
  | none => false

/-- Store the accepted RWP writes that are not yet in flash (R592). -/
def State.storeRwp (s : State) : State :=
  if s.flash.dirty.isEmpty then s
  else
    let f := s.flash.dirty.foldl (fun m e => SMap.set 0 m e.1 (SMap.get 0 s.mgmt.objs e.1)) s.flash.rwp
    ({ s with flash := { s.flash with rwp := f, rwpOld := s.flash.rwp, rwpStores := s.flash.rwpStores + 1, dirty := [] } } : State).count 0x8100 0x0D 0 s.flash.dirty.length

/-- Counters kept in module flash (R606). -/
def persistentCount (k : Nat) : Bool :=
  let o := (okeyIndex k, okeySub k)
  o == (0x8030, 1) || o == (0x8090, 8) || o == (0x80E0, 1) || o == (0x80E0, 2) || o == (0x80E0, 3) || o == (0x80E0, 7)

/-- Append every field catalogue entry still owed (R51): the controller keeps running through a module reset. -/
def State.appendAll (s : State) : State :=
  let s1 := s.cur.pendingAppends.foldl State.appendOwed s
  { s1 with cur := { s1.cur with pendingAppends := [] } }

/-- Everything that the switched rails feed is gone. What the controller, its flash, the factory catalogue and the pins
hold stays; what has left the module and the commands waiting are no part of the module. -/
def State.wipe (s0 : State) : State :=
  let s := s0.appendAll.storeRwp
  { ({} : State) with
    factory := s.factory
    flash := s.flash
    pwr := {
      st := s.pwr.st, phase := s.pwr.phase, ctrlOn := s.pwr.ctrlOn, ana := s.pwr.ana, io := s.pwr.io, core := s.pwr.core
      ioAbsent := s.pwr.ioAbsent, coreAbsent := s.pwr.coreAbsent, absentSince := s.pwr.absentSince, anaSince := s.pwr.anaSince, ioSince := s.pwr.ioSince
      romOnly := s.pwr.romOnly, heldSeq := s.pwr.heldSeq, copies := s.pwr.copies, readings := s.pwr.readings, uptime := s.pwr.uptime
      alert := s.alertN == some true, bootTimes := s.pwr.bootTimes }
    mgmt := { s.mgmt with
      queue := [], snaps := [], nextSnap := 0
      objs := s.mgmt.objs.filter (fun e => okeyPersists e.1), counts := s.mgmt.counts.filter (fun e => persistentCount e.1) }
    mon := s.mon
    host := s.host.filterMap (fun e => if e.2.perst then some (e.1, { perst := true }) else none)
    free := s.free
    out := s.out
    pending := s.pending }

/-- A module reset (R395): counted, everything cleared, and the module in the given state. -/
def State.moduleReset (s : State) (st : ModSt) : State := ((s.wipe).count 0x8090 8 0 1).enter st 0

/-- HELD with a fault (R527, R528, R535): the rails are off. -/
def State.hold (s : State) (code : Nat) : State := ((s.wipe).fault code).enter .held 0

/-- Start-up begins (R534): THERMAL_OFF is over. -/
def State.coldStart (s : State) : State :=
  ({ s with flash := { s.flash with thermal := false }, pwr := { s.pwr with bootTimes := [(0, s.pwr.uptime + 1)] } } : State).enter .booting 1

/-- End the COLL_ABORT duty of the collective engines before a commanded reset (R395, R537, R544). -/
def State.abortAll (s : State) : State := (List.range 16).foldl (fun s c => s.abortColls c 0) s

-- ---------------------------------------------------------------- supplies (R527 to R531)

/-- RWP values of the flash copy in force. -/
def State.loadObjs (s : State) : State :=
  { s with mgmt := { s.mgmt with
      objs := s.flash.rwp.foldl (fun m e => SMap.set 0 m e.1 e.2) (s.mgmt.objs.filter (fun e => !okeyPersists e.1)) } }

/-- The monitor as a controller boot leaves it: locked, at the rate of MON_BAUD (R608, R615). -/
def State.bootMonitor (s : State) : State := { s with mon := { baud := s.obj 0x1030 1 0 } }

/-- A wrong order of the supplies (R528): HELD, whatever the module was held for before. -/
def State.sequenceFault (s : State) : State :=
  if s.pwr.heldSeq then s
  else
    let s1 := (s.hold 1).count 0x80E0 1 0 1
    { s1 with pwr := { s1.pwr with heldSeq := true } }

/-- Where the module waits for supplies: STANDBY, or THERMAL_OFF that a loss of supplies has interrupted (R544). -/
def State.waitSt (s : State) : ModSt := if s.flash.thermal then .thermalOff else .standby

/-- R528. VIN_ANA becomes present: the controller boots, and waits in STANDBY. -/
def execVinAnaPresent (s : State) : Out :=
  if s.pwr.ana then .next s
  else
    let s1 : State := { s with
      pwr := { s.pwr with ana := true, ctrlOn := true, st := s.waitSt, phase := 0, anaSince := s.pwr.uptime, heldSeq := false }
      mgmt := { s.mgmt with nodeId := s.mgmt.straps, strapped := true } }
    let s2 := s1.loadObjs.bootMonitor
    let id := s2.obj 0x1020 1 0
    let s3 : State := { s2 with mgmt := { s2.mgmt with nodeId := if id < 32 then id else s2.mgmt.straps, strapped := decide (32 ≤ id) } }
    if s.pwr.io ∨ s.pwr.core then .next s3.sequenceFault else .next s3

/-- Whether VIN_IO or VIN_CORE rises in order: the supply before it present for 5 ms, no later one present. -/
def State.ioInOrder (s : State) : Bool := s.pwr.ana && !s.pwr.core && decide (s.pwr.anaSince + 5000000 ≤ s.pwr.uptime)
def State.coreInOrder (s : State) : Bool := s.pwr.ana && s.pwr.io && decide (s.pwr.ioSince + 5000000 ≤ s.pwr.uptime)

/-- R528. VIN_IO becomes present. -/
def execVinIoPresent (s : State) : Out :=
  if s.pwr.io then .next s
  else
    let s1 : State := { s with pwr := { s.pwr with io := true, ioAbsent := false, ioSince := s.pwr.uptime } }
    .next (if !s.pwr.ctrlOn ∨ s.ioInOrder then s1 else s1.sequenceFault)

/-- The key order of an F32 reading's bits, for comparisons (R540). -/
def f32Order (b : Nat) : Int := if bitOf b 31 then -((b % 2 ^ 31 : Nat) : Int) else ((b % 2 ^ 31 : Nat) : Int)

/-- Critical levels in F32 bits by sensor (R540, R541), and 15 degrees below them (R544). -/
def criticalAt (sensor : Nat) : Nat :=
  if sensor < 64 then 0x42DC0000 else if sensor < 72 then 0x42D20000 else if sensor < 76 then 0x42AA0000
  else if sensor < 80 then 0x42A00000 else 0x42FA0000
def coolAt (sensor : Nat) : Nat :=
  if sensor < 64 then 0x42BE0000 else if sensor < 72 then 0x42B40000 else if sensor < 76 then 0x428C0000
  else if sensor < 80 then 0x42820000 else 0x42DC0000

/-- The sum and the product of two F32 values, in the formats' rounding. -/
def f32Sum (a b : Nat) : Nat := (Fmt.encode .fp32 {} ((Fmt.decode .fp32 a).add (Fmt.decode .fp32 b))).1
def f32Prod (a b : Nat) : Nat := (Fmt.encode .fp32 {} ((Fmt.decode .fp32 a).mul (Fmt.decode .fp32 b))).1

/-- A sensor's reading, which comes with the factory's offset in it, under USER_TSENSE_OFFSET (R539; log entry 30). -/
def State.calTemp (s : State) (sensor reading : Nat) : Nat := f32Sum reading (s.obj 0x7401 0 sensor)
def State.temp (s : State) (sensor : Nat) : Nat := s.calTemp sensor (SMap.get 0 s.pwr.readings (64 + sensor))

/-- A rail's set point in mV: the factory's and USER_RAIL_VOFFSET (R539). -/
def State.railSet (s : State) (rail : Nat) : Int := toInt 16 (Config.factoryCal 0x7005 rail) + toInt 16 (s.obj 0x7405 0 rail)

/-- RAIL_V of a rail (R539, R551): reading × gain × scale + offset + user offset. -/
def State.railVolts (s : State) (rail : Nat) : Nat :=
  let fact := Config.factoryCal 0x7000 rail
  let user := s.obj 0x7400 0 rail
  f32Sum (f32Sum (f32Prod (f32Prod (Config.railReading rail s.pwr.uptime (s.railSet rail)) (fld fact 0 32)) (fld user 0 32)) (fld fact 32 32))
    (fld user 32 32)

/-- The voltage by which a limit judges a rail: the lower of its two readings while its bit of ANALOGUE_STATE is set (R518, R539). -/
def State.judgedRail (s : State) (rail : Nat) : Nat :=
  let own := s.railVolts rail
  let other := Config.railTelemetry rail s.pwr.uptime (s.railSet rail)
  if SMap.get false s.test.analogue rail ∧ f32Order other < f32Order own then other else own

/-- The bias of a laser: factory × user, at most its calibrated limit (R539). -/
def State.laserBias (s : State) (laser : Nat) : Nat :=
  let b := f32Prod (Config.factoryCal 0x7002 laser) (s.obj 0x7402 0 laser)
  if f32Order (Config.laserLimit laser) < f32Order b then Config.laserLimit laser else b

/-- A trim code of an HBM channel: as trained, and the user's code at that training (R539). -/
def State.hbmTrim (s : State) (channel code : Nat) : Int :=
  Config.hbmTrained channel code + toInt 8 (fld (SMap.get 0 s.hbm.trims channel) (8 * code) 8)

/-- Whether a supply lies between its warning level of 21.0 V and its rated minimum of 21.6 V: VIN_CORE 0, VIN_IO 1 (R526, R532). -/
def State.supplyLow (s : State) (supply : Nat) : Bool :=
  let v := f32Order (Config.reading 0x201001 supply s.pwr.uptime)
  decide (f32Order 0x41A80000 ≤ v) && decide (v < f32Order 0x41ACCCCD)

/-- Every sensor lies 15 degrees below its critical level (R544). -/
def State.cool (s : State) : Bool := (List.range 86).all (fun i => decide (f32Order (s.temp i) < f32Order (coolAt i)))

/-- R528. VIN_CORE becomes present: cold start, or HELD on a wrong order. -/
def execVinCorePresent (s : State) : Out :=
  if s.pwr.core then .next s
  else
    let s1 : State := { s with pwr := { s.pwr with core := true, coreAbsent := false } }
    if !s.pwr.ctrlOn then .next s1
    else if !s.coreInOrder then .next s1.sequenceFault
    else if s.pwr.st = .standby ∨ (s.pwr.st = .thermalOff ∧ s.cool) then .next s1.coldStart
    else .next s1

/-- The module while its rails are on or it could turn them on again: where the loss of a supply leads to STANDBY. -/
def ModSt.drops : ModSt → Bool
  | .held | .thermalOff => false
  | _ => true

/-- Everything is off: the controller too. Keys, the flash, persistent counts, the straps and the last readings remain. -/
def State.powerOff (s : State) : State :=
  let s1 := s.wipe
  { s1 with
    pwr := { io := s.pwr.io, core := s.pwr.core, ioAbsent := s.pwr.ioAbsent, coreAbsent := s.pwr.coreAbsent, readings := s.pwr.readings }
    mgmt := {
      straps := s.mgmt.straps, nodeId := s.mgmt.straps
      keys := s.mgmt.keys.map (fun e => (e.1, { e.2 with cache := [], highest := e.2.stored }))
      counts := s1.mgmt.counts }
    mon := {} }

/-- R527, R529. A supply becomes absent. -/
def execSupplyAbsent (supply : Nat) (s : State) : Out :=
  match supply with
  | 0 =>
    let s1 : State := { s with pwr := { s.pwr with core := false, coreAbsent := true, absentSince := if s.pwr.coreAbsent then s.pwr.absentSince else s.pwr.uptime } }
    .next (if s.pwr.core ∧ s.pwr.st.drops ∧ s.pwr.ctrlOn then s1.wipe.enter .standby 0 else s1)
  | 1 =>
    let s1 : State := { s with pwr := { s.pwr with io := false, ioAbsent := true, absentSince := if s.pwr.ioAbsent then s.pwr.absentSince else s.pwr.uptime } }
    let s2 := if s.pwr.ioAbsent ∨ s.pwr.coreAbsent ∨ !s.pwr.ctrlOn then s1 else (s1.fault 1).count 0x80E0 1 0 1
    .next (if s.pwr.io ∧ s.pwr.st.drops ∧ s.pwr.ctrlOn then s2.wipe.enter .standby 0 else s2)
  | 2 => .next (if s.pwr.ctrlOn ∨ s.pwr.ana then s.powerOff else s)
  | _ => .next s

/-- R528. VIN_IO and VIN_CORE have both been absent for 100 ms. -/
def execHeldRelease (s : State) : Out :=
  if s.pwr.st = .held ∧ s.pwr.ioAbsent ∧ s.pwr.coreAbsent ∧ s.pwr.absentSince + 100000000 ≤ s.pwr.uptime then
    .next (({ s with pwr := { s.pwr with heldSeq := false } } : State).enter s.waitSt 0)
  else .next s

/-- R527. A supply exceeds its overvoltage level. -/
def execOvervoltage (supply : Nat) (s : State) : Out :=
  if !s.pwr.ctrlOn ∨ 3 ≤ supply then .next s else .next ((s.hold 2).count 0x80E0 3 supply 1)

/-- R529. VIN_ANA falls below 11.0 V: the rails of VIN_IO and VIN_CORE go off, ANA_LOSS is written to flash, and the
controller stops when its hold-up store is spent. Writes not yet stored are lost (R592). -/
def execVinAnaLoss (s : State) : Out :=
  if !s.pwr.ctrlOn then .next s
  else .next ((({ s with flash := { s.flash with dirty := [] }, cur := { s.cur with pendingAppends := [] } } : State).fault 5).powerOff)

/-- R531. A supply crosses its reset level: a module reset, then STANDBY until the supplies are present in order. -/
def execBrownoutReset (supply : Nat) (s : State) : Out :=
  if 2 ≤ supply ∨ !s.pwr.ctrlOn ∨ !(if supply = 0 then s.pwr.core else s.pwr.io) then .next s
  else
    let s1 : State := { s with pwr := if supply = 0 then { s.pwr with core := false } else { s.pwr with io := false } }
    .next (((s1.moduleReset (if s.pwr.st.drops then .standby else s.pwr.st)).fault (3 + supply)).count 0x80E0 2 supply 1)

-- ---------------------------------------------------------------- start-up (R534 to R536)

/-- Whether start-up runs the given phase. -/
def State.inPhase (s : State) (n : Nat) : Bool := s.pwr.st == .booting && s.pwr.phase == n

/-- Phase n ends and the next begins. -/
def State.nextPhase (s : State) (n : Nat) : State :=
  ({ s with pwr := { s.pwr with bootTimes := SMap.set 0 s.pwr.bootTimes n (s.pwr.uptime + 1) } } : State).enter .booting (n + 1)

/-- R534, R535 phase 1. Every rail is at power-good, or one has missed it. -/
def execRegulatorsUp (ok : Bool) (s : State) : Out :=
  if !s.inPhase 1 then .next s else if ok then .next (s.nextPhase 1) else .next (s.hold 6)

/-- The line that the monitor prints when the controller has booted (R619). -/
def State.bootLine (s : State) : State :=
  s.emit (.console ["id " ++ String.ofList (s.factory.serial.map Char.ofNat) ++ " state 0x" ++ hex s.moduleState])

/-- The controller boots (R588, R592, R574, R615): RWP values restored, or returned to their defaults as asked, replay
floors raised, the node ID read, the monitor locked. -/
def State.bootController (s : State) : State :=
  let s1 : State := if s.flash.restore then { s with flash := { s.flash with rwp := [], restore := false } } else s
  let s2 := s1.loadObjs
  let id := s2.obj 0x1020 1 0
  let s3 : State := { s2 with mgmt := { s2.mgmt with
    nodeId := if id < 32 then id else s2.mgmt.straps, strapped := decide (32 ≤ id), newNodeId := none
    keys := s2.mgmt.keys.map (fun e => (e.1, { e.2 with floor := e.2.stored + 65536, cache := [] })) } }
  s3.bootMonitor.bootLine

/-- Host ports begin to train once I/O die 0 runs (R534). -/
def State.trainHosts (s : State) : State :=
  (List.range 2).foldl (fun s p =>
    if s.hostFitted p ∧ !(s.port p).perst then s.updPort p (fun h => { h with st := .training }) else s) s

/-- R534, R535 phase 2. The controller has booted and the signatures are checked: 0 the first copy of an image is good, 1
the second is used, 2 both have failed. A wake checks without restarting the controller (R537). -/
def execControllerBoot (ctrlCopy tileCopy ioCopy : Nat) (s : State) : Out :=
  if !s.inPhase 2 then .next s
  else if 2 ≤ ctrlCopy then
    let s1 := ((s.wipe).fault 7).enter .standby 0
    .next ({ s1 with pwr := { s1.pwr with romOnly := true }, mon := { baud := s.obj 0x1030 1 0 } } : State)
  else
    let s1 : State := { s with pwr := { s.pwr with romOnly := false, copies := ctrlCopy + 2 * (tileCopy % 2) + 4 * (ioCopy % 2) } }
    let s2 := if s.pwr.waking then s1 else s1.bootController
    if !s.factory.signatureOk then
      let s3 := s2.hold 8
      .next { s3 with cat := { s3.cat with state := 2 } }
    else if 2 ≤ tileCopy ∨ 2 ≤ ioCopy then .next (s2.hold 7)
    else .next ((s2.trainHosts).nextPhase 2)

/-- R243, R534 phase 3. The field catalogue and the licences are loaded, the logical tiles are numbered and the default routing
tables are written (R50, R55, R64). -/
def execCatalogueLoad (s : State) : Out :=
  if !s.inPhase 3 then .next s
  else
    let s1 := ({ s with cat := { s.cat with state := if s.fieldCopy.isSome then 0 else 1, fieldOut := fieldUnits s.field } } : State).applyLicences
    let s2 := (List.range s.factory.computeDies).foldl (fun s d =>
      ((s.numberDie d).updDie d (fun x => { x with tablesOn := true })).bootRoutes d) s1
    .next (s2.nextPhase 3)

/-- A unit is deaccessioned by a test of start-up or of a warm reset: logged, and out of service from now on (R57, R503,
R535). -/
def State.noteAtTest (s : State) (u : Nat) : State :=
  let t := if unitClass u = 0 then s.tileAt (unitDie u) (siteOfPack (unitUnit u)) else none
  let s1 := (s.logAcc { kind := 0x05, unit := u, cls := unitClass u, before := s.score u, after := s.score u, hard := true, logical := t.getD 0x1FF }).count 0x80C0 0x07 0 1
  { s1 with cur := { s1.cur with retired := SMap.set false s1.cur.retired (unitName u) true, due := SMap.set false s1.cur.due u false } }

/-- The field catalogue entry of a unit deaccessioned by a test; NO_SPARE when a logical tile lost its site for good (R50). -/
def State.appendAtTest (s : State) (u : Nat) (noSpare : Bool) : State :=
  s.appendField (fieldEntry s.recordTime 1 false noSpare u)

/-- Deaccession by a test, with its entry. -/
def State.retireAtTest (s : State) (u : Nat) : State := (s.noteAtTest u).appendAtTest u false

/-- Whether a site served a logical tile before a test and none serves it after. -/
def State.leftUnmapped (s before : State) (u : Nat) : Bool :=
  unitClass u == 0 && (match before.tileAt (unitDie u) (siteOfPack (unitUnit u)) with
    | some t => (s.siteOf (unitDie u) t).isNone
    | none => false)

/-- A die's sites after a test: each logical tile on a site that is no longer good moves to the first spare in the fixed
order, or is left unmapped (R57, R394). -/
def State.remapDie (s : State) (d : Nat) : State :=
  let good := s.goodSites d
  s.updDie d (fun x =>
    let start : SMap Nat × List Nat := (x.l2p, x.spares.filter (fun i => good.contains i))
    let r := (List.range x.tilesN).foldl (fun (acc : SMap Nat × List Nat) t =>
      match SMap.get 0 acc.1 t with
      | 0 => acc
      | k + 1 => if good.contains k then acc else match acc.2 with
        | [] => (SMap.set 0 acc.1 t 0, [])
        | i :: is => (SMap.set 0 acc.1 t (i + 1), is)) start
    { x with l2p := r.1, spares := r.2 })

-- ---------------------------------------------------------------- row repairs (R505, R508)

/-- The memory macro that a failure record names: DIE 27:24, UNIT 23:8, ENGINE 7:0. -/
def macroOf (f : Nat) : Nat := at_ 24 4 (fld f 108 4) + at_ 8 16 (fld f 112 16) + at_ 0 8 (fld f 96 8)

/-- Whether a record's engine is a memory macro (R507). -/
def inMacro (f : Nat) : Bool := decide (8 ≤ fld f 96 8) && decide (fld f 96 8 ≤ 0x2B)

def failRow (f : Nat) : Nat := fld f 68 20

/-- The factory repairs of a macro: failing row and spare row of each MEM_REPAIR entry (R46). -/
def State.factoryRows (s : State) (m : Nat) : List (Nat × Nat) :=
  (s.factory.memRepairs.filter (fun e => fld e.toNat 52 4 == fld m 24 4 && fld e.toNat 36 16 == fld m 8 16 && fld e.toNat 28 8 == fld m 0 8)).map
    (fun e => (fld e.toNat 8 20, fld e.toNat 0 8))

/-- The substitutions of this boot in a macro. -/
def State.bootRows (s : State) (m : Nat) : List (Nat × Nat) := (s.test.repairs.filter (fun e => e.1 == m)).map (·.2)

/-- The spare row that stands for a row already. -/
def spareOf (rows : List (Nat × Nat)) (row : Nat) : Option Nat := (rows.find? (fun e => e.1 == row)).map (·.2)

/-- Spare rows of a macro that nothing uses yet, of its 8. -/
def State.freeRows (s : State) (m : Nat) : List Nat :=
  (List.range 8).filter (fun k => !(s.factoryRows m ++ s.bootRows m).any (fun e => e.2 == k))

/-- The failing rows of a macro that no substitution covers yet, in the order found. -/
def State.newRows (s : State) (fails : List Nat) (m : Nat) : List Nat :=
  (((fails.filter (fun f => inMacro f && macroOf f == m)).map failRow).eraseDups).filter
    (fun r => (spareOf (s.factoryRows m ++ s.bootRows m) r).isNone)

/-- A macro whose failing rows outnumber its free spare rows is not repaired. -/
def State.macroLost (s : State) (fails : List Nat) (m : Nat) : Bool := decide ((s.freeRows m).length < (s.newRows fails m).length)

/-- The substitutions that a test makes: the rows found take the free spare rows in rising order (log entry 79). -/
def State.repairsMade (s : State) (fails : List Nat) : List (Nat × Nat × Nat) :=
  let ms := (((fails.filter inMacro).map macroOf).eraseDups).filter (fun m => !s.macroLost fails m)
  (ms.map (fun m => ((s.newRows fails m).zip (s.freeRows m)).map (fun e => (m, e)))).flatten

/-- A failure record with its REPAIR and SPARE_ROW: 0 not repairable, 1 a factory repair covers it, 2 repaired for this boot,
3 no spare row left. -/
def State.judgeFail (s : State) (fails : List Nat) (f : Nat) : Nat :=
  let m := macroOf f
  let (repair, spare) : Nat × Nat :=
    if !inMacro f then (0, 0)
    else match spareOf (s.factoryRows m) (failRow f) with
      | some k => (1, k)
      | none => if s.macroLost fails m then (3, 0)
        else (2, (spareOf (s.bootRows m ++ (s.newRows fails m).zip (s.freeRows m)) (failRow f)).getD 0)
  at_ 61 67 (fld f 61 67) + at_ 57 4 repair + at_ 49 8 spare

/-- A coverage record with its reserved fields zero (R507). -/
def coverageRec (r : Nat) : BitVec 128 :=
  BitVec.ofNat 128 (at_ 70 58 (fld r 70 58) + at_ 36 28 (fld r 36 28) + at_ 16 16 (fld r 16 16))

/-- Scratchpad banks (die * 48 + bank) with a macro that is not repaired (R505); UNIT is 0xFF00 + bank. -/
def State.spadsLost (s : State) (fails : List Nat) : List Nat :=
  ((fails.filter (fun f => inMacro f && decide (0xFF00 ≤ fld f 112 16) && decide (fld f 112 16 < 0xFF30) && s.macroLost fails (macroOf f))).map
    (fun f => 48 * fld f 108 4 + fld f 112 8)).eraseDups

/-- The units that a test takes out of service: those that failed, and the site of each macro not repaired. A scratchpad bank has
no unit address (log entry 79). -/
def State.failedBy (s : State) (failed fails : List Nat) : List Nat :=
  (failed ++ ((fails.filter (fun f => inMacro f && decide (fld f 112 16 < 0xFE00) && s.macroLost fails (macroOf f))).map
    (fun f => catAddr 0 (fld f 108 4) 0 (fld f 112 16)))).eraseDups

/-- The order of coverage records: die, site index, engine code, lane (R509); scratchpad banks and streamers follow the sites. -/
def coverageKey (r : Nat) : Nat :=
  let u := fld r 16 16
  at_ 40 4 (fld r 36 4) + at_ 16 20 (if 0xFE00 ≤ u then u else siteOfPack u) + at_ 8 8 (fld r 48 8) + at_ 0 8 (fld r 40 8)

def insertRec (x : Nat) : List Nat → List Nat
  | [] => [x]
  | y :: ys => if coverageKey x ≤ coverageKey y then x :: y :: ys else y :: insertRec x ys

def sortCoverage : List Nat → List Nat
  | [] => []
  | x :: xs => insertRec x (sortCoverage xs)

/-- What a BIST leaves (R503 to R509): failed units retired, those that passed only on retest at PROBATION, the rows repaired, the
records. -/
def State.bist (s : State) (kind durationMs : Nat) (failed retested coverage fails : List Nat) : State :=
  let s1 := (List.range s.factory.computeDies).foldl State.remapDie (failed.foldl State.noteAtTest s)
  let s2 := failed.foldl (fun t u => t.appendAtTest u (t.leftUnmapped s u)) ((List.range s.factory.computeDies).foldl State.bootRoutes s1)
  let s3 := retested.foldl (fun s u => s.setScore u s.probation) s2
  { s3 with test := { s3.test with
      bistMs := durationMs % 2 ^ 32, bistKind := kind, bistFailed := failed.length + (s.spadsLost fails).length
      repairs := s3.test.repairs ++ s.repairsMade fails
      spadOut := (s3.test.spadOut ++ s.spadsLost fails).eraseDups
      coverage := (sortCoverage coverage).map coverageRec
      fails := (fails.map (fun f => BitVec.ofNat 128 (s.judgeFail fails f))).take 4096 } }

/-- Scores and margin steps saved in flash, restored for the units in service (R487). -/
def State.restoreScores (s : State) : State :=
  let s1 : State := { s with cur := { s.cur with lost := s.flash.lost.filter (fun e => !s.unitOut e.1) } }
  s1.flash.steps.foldl (fun s e =>
    if s.goodSite (e.1 / 288) (e.1 % 288) then
      s.updSite (e.1 / 288) (e.1 % 288) (fun x => { x with vstep := e.2 % 16, fstep := e.2 / 16, fapplied := e.2 / 16 })
    else s) s1

/-- Every SRAM of the compute dies is written to zero with poison clear, and every bank starts unowned (R230). -/
def State.zeroTiles (s : State) : State := { s.zeroSram with tiles := [] }

/-- R503, R534 phase 4. Power-up BIST ends. -/
def execPowerupBist (durationMs : Nat) (failed retested coverage fails : List Nat) (s : State) : Out :=
  if s.inPhase 4 then
    let out := s.failedBy failed fails
    .next (((((out.foldl (fun s u => ({ s with cur := { s.cur with retired := SMap.set false s.cur.retired (unitName u) true } } : State)) s.zeroTiles).restoreScores).bist
      1 durationMs out retested coverage fails)).nextPhase 4)
  else .next s

/-- R534 phase 5, R535, R569. HBM training ends; `failed` are channels (stack × 16 + channel), 128 more where what a channel failed is
the eye check, its retry included (R517; log entry 84). The mapping leaves out channels that are out of service (R215), the user's
trims are in force, and every line is zero. -/
def execHbmTraining (failed : List Nat) (s : State) : Out :=
  if !s.inPhase 5 then .next s
  else
    let s1 := failed.foldl (fun s k =>
      (if 128 ≤ k then s.checkFailedTwice 5 (k % 128) else s).retireAtTest (channelAddr (k % 128 / 16) (k % 16))) s
    let out := (List.range 128).filter (fun k => s1.stackFitted (k / 16) && s1.unitOut (channelAddr (k / 16) (k % 16)))
    let s2 : State := { s1.memZero 0 0x004800000000 with hbm := {
      retired := out.foldl (fun m k => SMap.set false m k true) [], trained := true
      trims := SMap.ofList 0 0 ((List.range 128).map (fun k => s1.obj 0x7403 0 k)) } }
    .next (s2.nextPhase 5)

/-- How a port stands at the end of optical calibration (R399, R408, R535). -/
def State.calibratePort (s : State) (wl : List (Nat × Nat)) (p : Nat) : State :=
  if !s.portPresent p then s.updPortF p (fun x => { x with st := .absent })
  else if s.unitOut (portAddr p) then s.updPortF p (fun x => { x with st := .retired })
  else s.updPortF p (fun x => { x with wlGood := (((wl.find? (fun e => e.1 == p)).map (·.2)).getD 0xFF) % 256 })

/-- R534 phase 6. Optical calibration ends: wavelengths good at each port, all eight where none is named, 256 more where a port failed
its loopback check twice (R517; log entry 84); link-up begins. -/
def execOpticalCalibration (wlGood : List (Nat × Nat)) (s : State) : Out :=
  if s.inPhase 6 then
    let s1 := (List.range 16).foldl (fun s p =>
      let s1 := s.calibratePort wlGood p
      if s.portPresent p && wlGood.any (fun e => e.1 == p && bitOf e.2 8) then s1.checkFailedTwice 0 p else s1) s
    .next (((List.range 16).foldl State.startLinkUp s1).nextPhase 6)
  else .next s

/-- Phase 7 has what it waits for: every port with a role is up, and fabric time is SYNCED unless the topology is STANDALONE; or
it has run for 2.1 s (R536). -/
def State.linkedUp (s : State) : Bool :=
  ((List.range 16).all (fun p => s.roleOf p == 0 || s.portUp p) && (s.time.synced || s.obj 0x6001 0 0 == 0))
    || decide (SMap.get 0 s.pwr.bootTimes 6 + 2100000000 ≤ s.pwr.uptime + 1)

/-- R534 phase 7, R536. The module is READY, once the weft tables are published. -/
def execReady (s : State) : Out :=
  if s.inPhase 7 ∧ !s.routesDue ∧ s.linkedUp then
    .next (({ s with pwr := { s.pwr with bootTimes := SMap.set 0 s.pwr.bootTimes 7 (s.pwr.uptime + 1), waking := false } } : State).enter .ready 0)
  else .next s

-- ---------------------------------------------------------------- sleep and module reset (R395, R537)

/-- Whether the supplies let start-up run. -/
def State.supplied (s : State) : Bool := s.pwr.ana && s.pwr.io && s.pwr.core

/-- A value written to POWER_CMD (R537): SLEEP in READY, or while a compute warm reset runs; WAKE in SLEEP or, once cool, in
THERMAL_OFF. -/
def State.powerCmd (s : State) (v : Nat) : State :=
  if v = 1 ∧ (s.pwr.st = .ready ∨ s.pwr.st = .warmReset) then s.abortAll.moduleReset .sleep
  else if v = 2 ∧ (s.pwr.st = .sleep ∨ (s.pwr.st = .thermalOff ∧ s.cool)) ∧ s.supplied then
    let s1 := s.coldStart
    { s1 with pwr := { s1.pwr with waking := true } }
  else s

/-- SLEEP written by a message, whose response is sent before the module reset begins (R395, R537). -/
def State.sleepRequest (s : State) : State :=
  if (s.pwr.st = .ready ∨ s.pwr.st = .warmReset) ∧ !s.pwr.resetReq then
    { s.abortAll with pwr := { s.abortAll.pwr with resetReq := true, toSleep := true } }
  else s

/-- R537. SLEEP. -/
def execPowerSleep (s : State) : Out := .next (s.powerCmd 1)
/-- R537. WAKE. -/
def execPowerWake (s : State) : Out := .next (s.powerCmd 2)

/-- A value written to MODULE_RESET (R395): 0x52B7 asks for a module reset. HELD for a wrong supply order and THERMAL_OFF
are left only as R528 and R544 say. -/
def State.resetRequest (s : State) (v : Nat) : State :=
  if v = 0x52B7 ∧ s.pwr.ctrlOn ∧ !s.pwr.resetReq ∧ s.pwr.st ≠ .thermalOff ∧ !s.pwr.heldSeq then
    { s.abortAll with pwr := { s.abortAll.pwr with resetReq := true } }
  else s

/-- R395. A write to MODULE_RESET. -/
def execModuleResetRequest (value : Nat) (s : State) : Out := .next (s.resetRequest value)

/-- R395, R439. The module reset asked for begins, the engines' operations of the meantime aborted: the rails go off, and start-up
runs or SLEEP is entered. -/
def execModuleResetBegin (s : State) : Out :=
  if !s.pwr.resetReq then .next s
  else
    let s1 := s.abortAll.moduleReset (if s.pwr.toSleep then .sleep else .standby)
    .next (if s.supplied && !s.pwr.toSleep then s1.coldStart else s1)

end Sys2Proof.Machine
end

