-- ==== Sys2Proof/Machine/WarmReset.lean ====
section
/-! DEFINITION. The compute warm reset (chapter Contexts, fencing, hangs and resets, R391 to R394; R230, R506, R571). The
selvedge, the drain and the samples of its contexts are the steps of R372 to R384, taken while `pwr.warm` is set. -/

namespace Sys2Proof.Machine

/-- A value written to COMPUTE_WARM_RESET (R391): every ACTIVE user context enters FENCING with cause WARM; a context being
reset is taken over at its step (R378, R392 step 1). -/
def State.warmCmd (s : State) (v : Nat) : State :=
  if (v = 1 ∨ v = 2) ∧ s.pwr.st = .ready then
    let s1 : State := { s with pwr := { s.pwr with warm := .draining, warmClear := v == 2 } }
    let s2 := (List.range 15).foldl (fun s j => s.startReset (j + 1) .warm true false 0 0) s1
    let s3 := (List.range 16).foldl (fun s c => s.updCtx c (fun x => { x with reset? := x.reset?.map (fun r => { r with warm := true }) })) s2
    ((s3.abortColls 0 0).updCtx 0 (fun x => { x with reset? := some { cause := .warm, endsActive := true, warm := true, ftcTrigger := s.ftc } })).enter .warmReset 0
  else s

/-- R391. A compute warm reset that keeps HBM in self-refresh. -/
def execWarmResetKeepHbm (s : State) : Out := .next (s.warmCmd 1)
/-- R391. A compute warm reset that clears HBM. -/
def execWarmResetClearHbm (s : State) : Out := .next (s.warmCmd 2)

/-- Every fitted stack enters self-refresh (R571). -/
def State.selfRefreshAll (s : State) : State :=
  let ks := (List.range 8).filter (fun k => s.stackFitted k)
  ({ s with hbm := { s.hbm with refresh := [], pause := [], selfRefresh := ks.foldl (fun m k => SMap.set false m k true) [] } } : State).count 0x80F0 8 0 ks.length

/-- What a compute die keeps while it is held in reset: what the controller restores (R392 step 9), the counters, the
voltage and frequency of its islands. -/
def Tile.held (t : Tile) : Tile :=
  { banks := t.banks.map (fun e => (e.1, { e.2 with zeroing := false })), counters := t.counters, deferredL2 := t.deferredL2 }
def Die.heldInReset (d : Die) : Die :=
  { pickOwner := d.pickOwner, l2p := d.l2p, tilesN := d.tilesN, spares := d.spares, tables := d.tables, tablesOn := d.tablesOn, tableBank := d.tableBank
    tableSw := d.tableSw
    routeOut := d.routeOut, routeNext := d.routeNext, raise := d.raise, raiseOpen := d.raiseOpen, held := true }

/-- A slice under way is aborted by the reset: its site is due again (R525). -/
def SliceRec.aborted (x : SliceRec) : SliceRec :=
  match x.st with
  | .running => { x with st := .due, grant := 0, rehearsed := false }
  | .reinit => { x with st := if x.again then .due else .none, again := false, grant := 0 }
  | _ => x

/-- The dies are held in reset: their work, networks and moves are gone. -/
def State.holdDies (s : State) : State :=
  { s with
    tiles := (s.tiles.map (fun e => (e.1, e.2.held))).filter (fun e => e.2 != {})
    dies := s.dies.map (fun e => (e.1, e.2.heldInReset))
    sites := (s.sites.map (fun e => (e.1, { e.2 with memErr := 0, idle := 0, wake := false }))).filter (fun e => e.2 != {})
    accs := s.accs.filter (fun a => a.device != s.device)
    atomics := []
    cur := { s.cur with replacements := [] }
    test := { s.test with slices := (s.test.slices.map (fun e => (e.1, e.2.aborted))).filter (fun e => e.2 != {}) }
    hbm := { s.hbm with refresh := [], pause := [] } }

/-- A user context's generation and work at step 6: a context that was not being reset only takes a new generation. -/
def State.warmClearCtx (s : State) (c : Nat) : State :=
  match (s.ctx c).st with
  | .inactive => s.updCtx c (fun x => { x with gen := x.gen + 1 })
  | .quiet => s.updCtx c (fun x => { x with gen := x.gen + 1 })
  | _ => s.clearCtx c

/-- Whether a context has been sampled, or need not be. -/
def CtxSt.sampled : CtxSt → Bool
  | .inactive | .clearing | .quiet => true
  | _ => false

/-- R392 steps 4 to 6. Every context's sample is taken: HBM that is kept enters self-refresh, the compute dies are held in
reset, every user context's generation is incremented. -/
def execWarmResetSampled (s : State) : Out :=
  if s.pwr.warm = .draining ∧ (List.range 16).all (fun c => (s.ctx c).st.sampled) then
    let gen0 := (s.ctx 0).gen
    let s1 := (List.range 16).foldl State.warmClearCtx s
    let s2 := (s1.updCtx 0 (fun x => { x with gen := gen0 })).holdDies
    let s3 := if s.pwr.warmClear then s2 else s2.selfRefreshAll
    .next { s3 with pwr := { s3.pwr with warm := .sampled } }
  else .next s

/-- Units that warm BIST tests: sites, routers and links of the compute dies (R506). -/
def onComputeDie (u : Nat) : Bool := decide (unitClass u ≤ 3) && decide (unitDie u < 2)

/-- R230, R392 steps 7 and 8, R394, R506. Warm BIST ends: SRAM is zero, failed sites are re-placed or unmapped, the records
replace those of the last BIST; HBM leaves self-refresh, or is zero. -/
def execWarmBist (durationMs : Nat) (failed retested coverage fails : List Nat) (s : State) : Out :=
  if s.pwr.warm = .sampled then
    let s1 := (s.zeroSram).bist 2 durationMs (s.failedBy (failed.filter onComputeDie) fails) (retested.filter onComputeDie) coverage fails
    let s2 := ((if s.pwr.warmClear then s1.memZero 0 0x004800000000 else s1) : State).bumpIf s
    .next { s2 with pwr := { s2.pwr with warm := .bist }, hbm := { s2.hbm with selfRefresh := [] } }
  else .next s

/-- The ending state of a context (R393). -/
def Ctx.warmEnd (x : Ctx) (c : Nat) : Ctx :=
  if c = 0 then { x with st := .active, reset? := none }
  else match x.reset? with
    | some r => if r.endsActive then { x with st := .active, reset? := none } else { x.applyHeld with st := .inactive, reset? := none }
    | none => { x with st := .inactive }

/-- R392 steps 9 and 10, R393. State is restored, the networks run, contexts reach their ending states. -/
def execWarmResetDone (s : State) : Out :=
  if s.pwr.warm = .bist ∧ !s.routesDue then
    let s1 := (List.range 16).foldl (fun s c => s.updCtx c (fun x => x.warmEnd c)) s
    let s2 : State := { s1 with
      dies := s1.dies.map (fun e => (e.1, { e.2 with held := false }))
      pwr := { s1.pwr with warm := .none, warmClear := false } }
    .next ((s2.count 0x8090 7 0 1).enter .ready 0)
  else .next s

end Sys2Proof.Machine
end

