-- ==== Sys2Proof/Machine/Idle.lean ====
section
/-! DEFINITION. Temperature and power limits, array duty and thermal shutdown (R540 to R545), idle states and the save
store (R546 to R551). -/

namespace Sys2Proof.Machine

-- ---------------------------------------------------------------- throttling (R541 to R543)

/-- The group of a sensor (R540, R541): 0 and 1 compute dies, 2 to 5 I/O dies, 6 to 13 stacks, 14 to 19 regulator groups;
optical engines and laser banks have no throttle. -/
def thermGroup (sensor : Nat) : Option Nat :=
  if sensor < 24 then some 0 else if sensor < 48 then some 1 else if sensor < 64 then some (2 + (sensor - 48) / 4)
  else if sensor < 72 then some (6 + (sensor - 64)) else if sensor < 80 then none else if sensor < 86 then some (14 + (sensor - 80)) else none

/-- The sensors of a group. -/
def groupSensors (g : Nat) : List Nat :=
  if g < 2 then (List.range 24).map (· + 24 * g) else if g < 6 then (List.range 4).map (· + 48 + 4 * (g - 2)) else if g < 14 then [64 + (g - 6)] else [80 + (g - 14)]

/-- Throttle and release levels of a group, as F32 bits (R541). -/
def throttleAt (g : Nat) : Nat := if g < 6 then 0x42C80000 else if g < 14 then 0x42BE0000 else 0x42E60000
def releaseAt (g : Nat) : Nat := if g < 6 then 0x42BE0000 else if g < 14 then 0x42B40000 else 0x42D80000

/-- A change of THROTTLE_STATE signals vector 5 (R563). -/
def State.throttled (s old : State) : State := if s.throttleState = old.throttleState then s else s.signalPf 5

/-- Set or release a group by its sensors: throttled at or above the level, until every sensor lies below the release. -/
def State.judgeGroup (s : State) (g : Nat) : State :=
  let ts := (groupSensors g).map (fun i => f32Order (s.temp i))
  let hot := SMap.get false s.pwr.hot g
  let now := if ts.any (fun t => decide (f32Order (throttleAt g) ≤ t)) then true
    else hot && !ts.all (fun t => decide (t < f32Order (releaseAt g)))
  { s with pwr := { s.pwr with hot := SMap.set false s.pwr.hot g now } }

/-- A thermal cause on a die whose duty is 4. -/
def State.dutyFloor (s : State) (d : Nat) : Bool := s.diePresent d && s.dutyOf d == 4 && s.dutyCause d / 2 != 0

/-- Since when each die has stood at its floor (R544). -/
def State.noteFloor (s : State) : State :=
  let f (m : SMap Nat) (d : Nat) : SMap Nat :=
    if !s.dutyFloor d then SMap.set 0 m d 0 else if SMap.get 0 m d = 0 then SMap.set 0 m d (s.pwr.uptime + 1) else m
  { s with pwr := { s.pwr with floorSince := f (f s.pwr.floorSince 0) 1 } }

/-- A sensor at or above its critical level. -/
def State.critical (s : State) : Bool := (List.range 86).any (fun i => decide (f32Order (criticalAt i) ≤ f32Order (s.temp i)))

/-- R544. A module reset that ends in THERMAL_OFF, after COLL_ABORT. -/
def State.shutdown (s : State) : State :=
  let s1 := ((s.abortAll.moduleReset .thermalOff).fault 9).count 0x80E0 7 0 1
  { s1 with flash := { s1.flash with thermal := true } }

/-- R540, R541, R544. A filtered temperature, as F32 bits. -/
def execThermalSample (sensor reading : Nat) (s : State) : Out :=
  if 86 ≤ sensor then .next s
  else
    let s1 : State := { s with pwr := { s.pwr with readings := SMap.set 0 s.pwr.readings (64 + sensor) (reading % 2 ^ 32) } }
    if !s1.pwr.st.railsOn then .next s1
    else if f32Order (criticalAt sensor) ≤ f32Order (s1.temp sensor) then .next s1.shutdown
    else match thermGroup sensor with
      | some g => .next ((s1.judgeGroup g).noteFloor.throttled s)
      | none => .next s1

/-- R543. The 1 ms average of a supply's input power, as F32 bits. A power cause holds above its level until the average
falls below the lower one; none acts on VIN_ANA. -/
def execPowerSample (supply watts : Nat) (s : State) : Out :=
  if 3 ≤ supply then .next s
  else
    let w := f32Order (watts % 2 ^ 32)
    let s1 : State := { s with pwr := { s.pwr with readings := SMap.set 0 s.pwr.readings (6 + supply) (watts % 2 ^ 32) } }
    let judge (held : Bool) (above below : Nat) : Bool := if f32Order above < w then true else if w < f32Order below then false else held
    let s2 : State := match supply with
      | 0 => { s1 with pwr := { s1.pwr with powCore := judge s.pwr.powCore 0x450CA000 0x45084000 } }
      | 1 => { s1 with pwr := { s1.pwr with powIo := judge s.pwr.powIo 0x43F00000 0x43E88000 } }
      | _ => s1
    .next (if s.pwr.st.railsOn then s2.throttled s else s1)

/-- The time between two steps of D, in ns: 100 µs while a power cause holds, else 1 ms. -/
def State.dutyPeriod (s : State) : Nat := if s.pwr.powCore then 100000 else 1000000

/-- R542. The duty timer of a die: D falls while a cause holds, down to 4, and rises once none does. -/
def execDutyStep (die : Nat) (s : State) : Out :=
  if !s.diePresent die ∨ !s.pwr.st.railsOn ∨ s.pwr.uptime < SMap.get 0 s.pwr.dutyAt die + s.dutyPeriod then .next s
  else
    let off := SMap.get 0 s.pwr.duty die
    let s1 : State := { s with pwr := { s.pwr with
      duty := SMap.set 0 s.pwr.duty die (if s.dutyCause die = 0 then off - 1 else min 12 (off + 1))
      dutyAt := SMap.set 0 s.pwr.dutyAt die s.pwr.uptime } }
    .next (s1.noteFloor.throttled s)

/-- A die has stood at its floor for 100 ms. -/
def State.floorLong (s : State) (d : Nat) : Bool :=
  SMap.get 0 s.pwr.floorSince d != 0 && decide (SMap.get 0 s.pwr.floorSince d + 100000000 ≤ s.pwr.uptime + 1)

/-- R544. A critical level is reached, or D has been 4 for 100 ms while a thermal cause holds. -/
def execThermalShutdown (s : State) : Out :=
  if s.pwr.st.railsOn ∧ (s.critical ∨ s.floorLong 0 ∨ s.floorLong 1) then .next s.shutdown else .next s

-- ---------------------------------------------------------------- when a tile is idle (R547)

/-- An idle context (R547). -/
def State.ctxIdle (s : State) (c : Nat) : Bool :=
  match (s.ctx c).st with
  | .inactive => true
  | .active => (s.ctx c).graph.isNone && (s.ctx c).subs.isEmpty && !s.fab.colls.any (fun k => k.ctx == c)
  | _ => false

/-- Whether a context's grant includes a logical tile, if the site has one. -/
def State.grants (s : State) (c die : Nat) (t : Option Nat) : Bool :=
  match t with
  | some t => (SMap.get 0 (s.ctx c).tiles die).testBit t
  | none => false

/-- L of a site's tile: the least entry among context 0 and the ACTIVE contexts whose grant includes it. -/
def State.wakeL (s : State) (die site : Nat) : Nat :=
  let t := s.tileAt die site
  (((List.range 15).filter (fun j => s.grants (j + 1) die t && (s.ctx (j + 1)).st == .active)).map (fun j => s.obj 0x2030 1 (j + 1))).foldl min (s.obj 0x2030 1 0)

/-- The deepest idle state within L; IS3 only while the save store is enabled. -/
def State.deepest (s : State) (die site : Nat) : Nat :=
  let l := s.wakeL die site
  if 1500 ≤ l ∧ s.obj 0x2030 2 0 ≠ 0 then 3 else if 40 ≤ l then 2 else if 2 ≤ l then 1 else 0

/-- A good site with no card, not under test nor in a move, whose granting contexts are idle. -/
def State.siteIdle (s : State) (die site : Nat) : Bool :=
  let t := s.tileAt die site
  let sl := (s.sliceAt die site).st
  s.goodSite die site && sl != .running && sl != .reinit && !(s.site die site).wake
    && !s.cur.replacements.any (fun r => r.die == die && (r.oldSite == site || r.newSite == site))
    && (match t with
      | some t => (List.range 4).all (fun k => ((s.tile die t).slot k).st == .empty) && !(s.tile die t).underTest
      | none => true)
    && (List.range 16).all (fun c => !s.grants c die t || s.ctxIdle c)

/-- Whether a tile's memory, buffers or sets hold poison. -/
def State.tilePoisoned (s : State) (die tile : Nat) : Bool :=
  let t := s.tile die tile
  s.poison.any (fun e => tmemLine (64 * e.1) |>.any (fun x => x.1 == die && x.2.1 == tile))
  || (List.range 2).any (fun a => (t.array a).sets.any (fun e => e.2.poison) || !(t.array a).apoison.isEmpty || !(t.array a).bpoison.isEmpty)

/-- Which of `n` lines from an address carry poison is open. -/
def State.freePoison (s : State) (a n : Nat) : State :=
  ({ s with poison := (List.range n).foldl (fun p i =>
      SMap.set false p (a / 64 + i) ((Config.freeByte (s.free + i)).toNat % 2 == 1)) s.poison } : State).takeFree n

/-- A site enters an idle state: the gather buffer is written back before IS2; entry into IS3 fills its slot of the save
store, whose contents the manual does not lay out; the tile's poison is carried to lines of it (R211, R546, R548). -/
def State.enterIdle (s : State) (die site n : Nat) : State :=
  let s1 := (s.updSite die site (fun x => { x with idle := n })).count 0x80E0 8 (n - 1) 1
  let s2 := if 2 ≤ n then (match s.tileAt die site with
      | some t => s1.updTile die t (fun t => { t with gb := [] })
      | none => s1) else s1
  let base := s.obj 0x2030 2 0 + 0x200000 * tkey die site
  let poisoned : Bool := match s.tileAt die site with
    | some t => s.tilePoisoned die t
    | none => false
  if n ≠ 3 then s2 else if poisoned then (s2.writeFree base 0x1F3400).freePoison base 0x7CD0 else s2.writeFree base 0x1F3400

/-- Four times the wake time of an idle state, in ns: how long a tile is idle before it enters it; IS1 at once (R546, R547). -/
def idleDelay (n : Nat) : Nat := if n = 3 then 6000000 else if n = 2 then 160000 else 0

/-- R547. A site enters IS1 when it becomes idle, and then, its delay over, the deepest state within L. -/
def execIdleEnter (die site : Nat) (s : State) : Out :=
  let cur := (s.site die site).idle
  let deep := s.deepest die site
  if s.pwr.st = .ready ∧ !s.pwr.is4 ∧ site < 288 ∧ s.diePresent die ∧ s.siteIdle die site ∧ cur < deep
      ∧ (cur = 0 ∨ (s.site die site).idleSince + idleDelay deep ≤ s.pwr.uptime) then
    .next (s.enterIdle die site (if cur = 0 then 1 else deep))
  else .next s

-- ---------------------------------------------------------------- IS4 (R550)

/-- Every good site of the module. -/
def State.allGood (s : State) : List (Nat × Nat) :=
  ((List.range s.factory.computeDies).map (fun d => (List.range 288).filterMap (fun i => if s.goodSite d i then some (d, i) else none))).flatten

/-- The conditions of R550 but for their 48 ms. -/
def State.mayIs4 (s : State) : Bool :=
  s.allGood.all (fun p => (s.site p.1 p.2).idle == 3)
    && (List.range 16).all (fun c => s.ctxIdle c && !epArmed (s.endpoint c)
      && ((c != 0 && (s.ctx c).st != .active) || decide (12000 ≤ s.obj 0x2030 1 c)))

/-- The ports that IS4 dims: up, and with no more than half their capacity reserved. -/
def State.dimPort (s : State) (p : Nat) : State :=
  if (s.fport p).st = .up ∧ s.obj 0x6031 0 p ≤ 74700 then s.updPortF p (fun x => { x with dimmed := true, width := 1 }) else s

/-- R550. The module enters IS4. -/
def execIs4Enter (s : State) : Out :=
  if s.pwr.st = .ready ∧ !s.pwr.is4 ∧ s.mayIs4 ∧ s.pwr.calmSince ≠ 0 ∧ s.pwr.calmSince + 48000000 ≤ s.pwr.uptime + 1 then
    let s1 := ((List.range 16).foldl State.dimPort s).selfRefreshAll.count 0x80E0 8 3 1
    .next { s1 with pwr := { s1.pwr with is4 := true } }
  else .next s

-- ---------------------------------------------------------------- waking (R549)

/-- Whether an access waits for a tile's window. -/
def State.accessWaits (s : State) (die tile : Nat) : Bool :=
  s.accs.any (fun a => a.st == .sent && a.device == s.device && (match place a.addr with
    | .tileWin d t _ => d == die && t == tile
    | _ => false))

/-- Whether an event of R549 wakes a site: a context granted the tile is at work, an access waits for its window, or its
slice runs. -/
def State.siteWoken (s : State) (die site : Nat) : Bool :=
  let t := s.tileAt die site
  (List.range 16).any (fun c => s.grants c die t && !s.ctxIdle c)
    || (s.site die site).wake
    || (match t with
      | some t => s.accessWaits die t
      | none => false)

/-- Whether any event of R549 wakes the module from IS4. -/
def State.moduleWoken (s : State) : Bool :=
  (List.range 16).any (fun c => !s.ctxIdle c) || s.accs.any (fun a => a.st == .sent && a.device == s.device)
    || s.test.slices.any (fun e => e.2.st == .running) || s.host.any (fun h => !h.2.held.isEmpty)

/-- R551. Wake every site whose idle state is too deep for its L. -/
def State.wakeTooDeep (s : State) : State :=
  let deep := s.allGood.filter (fun p => decide (s.deepest p.1 p.2 < (s.site p.1 p.2).idle))
  if deep.isEmpty then s
  else deep.foldl (fun s p => s.wakeSite p.1 p.2) s.leaveIs4

/-- R551. A write of a context's entry of IDLE_WAKE_US. -/
def State.writeWakeUs (s : State) (ctx value : Nat) : State := (s.putObj 0x2030 1 ctx value).wakeTooDeep

def execIdleWakeUsWrite (ctx value : Nat) (s : State) : Out :=
  if ctx < 16 ∧ value ≤ 1000000 then .next (s.writeWakeUs ctx value) else .next s

end Sys2Proof.Machine
end

