-- ==== Sys2Proof/Machine/Host.lean ====
section
/-! DEFINITION. The host ports and the HBM stacks' service events (chapter Host port and memory stacks, R553 to R572;
R345). A host access is one command: the moment at which it is refused or performed. -/

namespace Sys2Proof.Machine

-- ---------------------------------------------------------------- functions (R556)


/-- Whether a function of a port exists: the PF, or a VF enabled by the host. -/
def State.fnExists (s : State) (p f : Nat) : Bool := f == 0 || ((s.port p).vfEnable && decide (f ≤ (s.port p).numVfs) && decide (f < 16))

/-- Whether a function carries its context: context 0 through every PF, a user context through its port alone. -/
def State.carries (s : State) (p f : Nat) : Bool := f == 0 || s.portOf f == p

-- ---------------------------------------------------------------- configuration values and BAR2 as they read (R555, R563, R564)

/-- Vendor ID in bits 15:0 and Device ID in bits 31:16. -/
def State.pcieIds (s : State) (f : Nat) : Nat := at_ 0 16 s.factory.vendor + at_ 16 16 (if f = 0 then 0x4C58 else 0x4C59)

/-- Class code: processing accelerator. -/
def pcieClass : Nat := 0x120000

/-- The type bits 3:0 of a BAR: 64-bit, prefetchable for BAR4 alone (R555; PCIe's encoding). -/
def barType (bar : Nat) : Nat := if bar = 4 then 0xC else 4

/-- Bytes that a BAR decodes: the context page, mailbox and MSI-X, the memory window. -/
def barBytes (bar : Nat) : Nat :=
  match bar with
  | 0 => 0x10000 | 2 => 0x4000 | 4 => 0x8000000000 | _ => 0

/-- Entries of a function's MSI-X table. -/
def vectorsOf (f : Nat) : Nat := if f = 0 then 8 else 4

/-- MB_STATUS. -/
def Fn.mbStatus (g : Fn) : Nat := at_ 31 1 (b2n g.busy) + at_ 30 1 (b2n g.done) + at_ 16 8 g.result + at_ 0 14 g.respLen

/-- A 64-bit word of BAR2 at an aligned offset. -/
def Fn.bar2Word (g : Fn) (f a : Nat) : Nat :=
  if a = 0 then fld g.reqLen 0 13
  else if a = 8 then g.mbStatus
  else if 0x800 ≤ a ∧ a < 0x800 + 16 * vectorsOf f then
    let x := SMap.get {} g.vectors ((a - 0x800) / 16)
    if a % 16 = 0 then x.addr.toNat else x.data.toNat + 2 ^ 32 * x.ctrl.toNat
  else if a = 0xC00 then ((List.range (vectorsOf f)).map (fun v => at_ v 1 (b2n (SMap.get {} g.vectors v).pending))).sum
  else if 0x1000 ≤ a ∧ a < 0x2000 then leVal (SMap.toList 0 g.req (a - 0x1000) 8)
  else if 0x2000 ≤ a ∧ a < 0x4000 then leVal (SMap.toList 0 g.resp (a - 0x2000) 8)
  else 0

/-- What a read of a 64-bit word of BAR0 gives: the context's page; zeros through a VF that does not carry its context (R363, R556). -/
def State.bar0Read (s : State) (p f a : Nat) : Nat := if s.carries p f then s.pageReg f a else 0

/-- What a read of BAR2 gives: zeros through a VF that does not carry its context (R556). -/
def State.bar2Read (s : State) (p f a : Nat) : Nat := if s.carries p f then (s.fn p f).bar2Word f a else 0

-- ---------------------------------------------------------------- BAR4 (R557 to R561)

/-- The local address of a BAR4 offset. -/
def bar4Local (off : Nat) : Option Nat :=
  if off < 0x4800000000 then some off
  else if off < 0x480E000000 then some (0x100000000000 + (off - 0x4800000000))
  else if off < 0x4900000000 then none
  else if off < 0x4964000000 then some (0x200000000000 + (off - 0x4900000000))
  else none

/-- The local range of a BAR4 request, if it is one. -/
def bar4Range (off n : Nat) : Option Nat :=
  match bar4Local off, bar4Local (off + n - 1) with
  | some a, some b => if b = a + n - 1 then some a else none
  | _, _ => none

/-- A request refused (R558): counted for the function's context; an advisory error, and an answer where one is owed. -/
def State.hostRefuse (s : State) (p f status : Nat) (answered : Bool) : State :=
  let s1 := (s.count 0x80F0 1 f 1).emit (.aer p f 0)
  if answered then s1.emit (.completion p f status [] []) else s1

/-- A context behind its selvedge (R373). -/
def CtxSt.fenced : CtxSt → Bool
  | .draining | .sampling | .clearing | .quiet => true
  | _ => false

/-- Whether a VF's request passes step 4 of R558: its context is ACTIVE and reaches the range through windows with HOST. -/
def State.hostMay (s : State) (f a n : Nat) (needs : List Nat) : Bool :=
  f == 0 || ((s.ctx f).st.running && (match place a with
    | .hbm _ _ => s.windowGrants f a n (4 :: needs)
    | .spad _ _ => s.windowGrants f a n (4 :: needs)
    | .tileWin d t off =>
      if off + n ≤ 0x180000 then s.ownsBanks f d t off n else needs == [0] && (s.tile d t).regReadable f off n
    | _ => false))

/-- What becomes of a BAR4 request: refused with a completion status, in which context's and tile's counters also; held by its
address, the module in IS4, a bank being zeroed or HBM in an interval or pause (R203, R565, R568, R570); or performed at a local
address. -/
inductive HostServe where
  | refuse (status : Nat) (fenced idle slice : Bool)
  | hold (a : Nat)
  | go (a : Nat)
  deriving DecidableEq, Repr

/-- The steps of R558, with the idle and tested tiles of R549 and R511. `atomic` is false for reads and writes; an AtomicOp
that R561 does not allow is an Unsupported Request. -/
def State.hostServe (s : State) (f off n : Nat) (needs : List Nat) (atomic : Bool) : HostServe :=
  if s.pwr.st ≠ .ready ∨ s.pwr.warm ≠ .none then .refuse 1 false false false
  else match bar4Range off n with
    | none => .refuse 1 false false false
    | some a =>
      if s.pwr.is4 then .hold a
      else if n = 0 ∨ !s.present a n then .refuse 1 false false false
      else if (s.ctx f).st.fenced then .refuse 1 true false false
      else if !s.hostMay f a n needs then .refuse 1 false false false
      else match place a with
        | .tileWin d t off =>
          if s.idleOf d t = 3 then .refuse 1 false true false
          else if atomic then .refuse 2 false false false
          else if s.isolated d t ∧ off < 0x180000 then .refuse 1 false false true
          else if s.zeroingAt a n then .hold a
          else .go a
        | _ =>
          if atomic && (!s.atomicOk a n || (f != 0 && !s.windowGrants f a n (5 :: 4 :: needs))) then .refuse 2 false false false
          else if s.hbmPaused a n then .hold a else .go a

/-- Refuse and count as the decision says. -/
def State.hostRefused (s : State) (p f status : Nat) (fenced idle slice answered : Bool) : State :=
  let s1 := if fenced then s.count 0x8090 5 f 1 else s
  let s2 := if idle then s1.count 0x80E0 9 0 1 else s1
  let s3 := if slice then s2.count 0x80D0 5 0 1 else s2
  s3.hostRefuse p f status answered

/-- The answer of a function that does not decode: no link, nothing; no such function or D3hot, Unsupported Request; a VF
that does not carry its context, zeros. Answers none when the request goes on. -/
def State.hostGate (s : State) (p f : Nat) (zeros : Option Nat) : Option State :=
  if !s.hostFitted p ∨ !s.hostUp p ∨ 16 ≤ f then some s
  else if !s.fnExists p f ∨ (s.fn p f).d3hot then
    some (match zeros with
      | some _ => s.emit (.completion p f 2 [] [])
      | none => s)
  else if !s.carries p f then
    some (match zeros with
      | some n => s.emit (.completion p f 0 (List.replicate n 0) [])
      | none => s)
  else none

/-- The node through which a host port's accesses come: the link of its I/O die (R14, R22). -/
def State.hostNode (s : State) (p : Nat) : Nat := s.ioNode (if p = 1 then 2 else 0)

/-- Refuse a request as the decision says; one that a tile in IS3 refuses asks for its wake. -/
def State.hostTurnAway (s : State) (p f off n status : Nat) (fenced idle slice answered : Bool) : State :=
  let s1 := s.hostRefused p f status fenced idle slice answered
  match (if idle then bar4Range off n else none) with
  | some a => s1.askWake a
  | none => s1

/-- Whether each line that a range touches is poisoned. -/
def State.poisonOf (s : State) (a n : Nat) : List Bool := if isReg a then (linesOf a n).map (fun _ => false) else (linesOf a n).map s.linePoison

/-- R558 to R560. A read performed at a local address; one that is lost on the weft delivers poisoned data (R246). -/
def State.hostRead (s : State) (p f a n : Nat) : State :=
  let s1 := (s.wakeFor a).gbWeftRange a n false
  if s.wayLost (s.hostNode p) a then
    (((s1.count 0x8050 3 0 1).count 0x80F0 3 0 1).takeFree n).emit (.completion p f 0
      ((List.range n).map (fun i => (Config.freeByte (s.free + i)).toNat)) ((linesOf a n).map (fun _ => true)))
  else
    let r := s1.readAny f a n
    let s2 := if r.2 then s1.count 0x80F0 3 0 1 else s1
    s2.emit (.completion p f 0 r.1 (s1.poisonOf a n))

/-- R558 to R560. A write performed at a local address; `ep` is the poison of the TLP. Whether one that is lost on the weft has been
performed is a free value (R246). -/
def State.hostWrite (s : State) (p f a : Nat) (bytes : List Nat) (ep : Bool) : State :=
  let lost := s.wayLost (s.hostNode p) a
  let s0 := s.wakeFor a
  let done := !lost || (Config.freeByte s.free).toNat % 2 == 1
  let s1 := if done then (s0.writeAny f a (bytes.map (· % 256)) ep).gbWeftRange a bytes.length true else s0
  let s2 := if lost then (s1.count 0x8050 3 0 1).takeFree 1 else s1
  if ep then (s2.count 0x80F0 2 0 1).emit (.aer p f 1) else s2

/-- R217, R218, R561. An AtomicOp performed at a local address; of one that is lost on the weft a free value says whether it was
performed (R246). -/
def State.hostAtomic (s : State) (p f a size op x cmp : Nat) : State :=
  let r := (s.wakeFor a).atomic f (p * 16 + f) a size op x cmp
  let s1 := r.1.count 0x80F0 4 f 1
  if s.wayLost (s.hostNode p) a then
    let s3 := if (Config.freeByte s.free).toNat % 2 == 1 then s1 else s.wakeFor a
    (((s3.count 0x8050 3 0 1).count 0x80F0 3 0 1).takeFree (size + 1)).emit (.completion p f 0
      ((List.range size).map (fun i => (Config.freeByte (s.free + 1 + i)).toNat)) [true])
  else (if r.2.2 then s1.count 0x80F0 3 0 1 else s1).emit (.completion p f 0 (leBytes size r.2.1) [r.2.2])

/-- The accesses of a kind of request, as window bits. -/
def HostReq.needs (r : HostReq) : List Nat := if r.kind = 0 then [0] else if r.kind = 1 then [1] else [0, 1]

/-- Serve a request now: the state after, and whether it is done with; one that waits is counted with what delays it. -/
def State.hostTry (s : State) (p : Nat) (r : HostReq) : State × Bool :=
  match s.hostGate p r.fn (if r.kind = 1 ∨ r.kind = 5 then none else some r.len) with
  | some s1 => (s1, true)
  | none =>
    if r.kind = 5 then (s.writeAny r.fn (0x300000000000 + r.fn * 0x10000 + r.off) r.bytes false, true)
    else match s.hostServe r.fn r.off r.len r.needs (decide (2 ≤ r.kind)) with
      | .refuse st fe i sl => (s.hostTurnAway p r.fn r.off r.len st fe i sl (r.kind != 1), true)
      | .hold a => (s.hbmDelay r.fn a r.len, false)
      | .go a => (match r.kind with
        | 0 => s.hostRead p r.fn a r.len
        | 1 => s.hostWrite p r.fn a r.bytes r.ep
        | k => s.hostAtomic p r.fn a r.len (k - 2) r.x r.cmp, true)

def State.hostKeep (s : State) (p : Nat) (r : HostReq) : State := s.updPort p (fun h => { h with held := h.held ++ [r] })

/-- Whether a port holds a request of a function. -/
def State.hostBehind (s : State) (p f : Nat) : Bool := (s.port p).held.any (fun r => r.fn == f)

/-- Serve requests in order: one that waits holds those of its function behind it (R559). -/
def State.hostRun (s : State) (p : Nat) : List HostReq → State
  | [] => s
  | r :: rs =>
    if s.hostBehind p r.fn then (s.hostKeep p r).hostRun p rs
    else
      let x := s.hostTry p r
      (if x.2 then x.1 else x.1.hostKeep p r).hostRun p rs

/-- Serve again what a port holds. -/
def State.hostDrain (s : State) (p : Nat) : State :=
  if (s.port p).held.isEmpty then s else (s.updPort p (fun h => { h with held := [] })).hostRun p (s.port p).held

/-- What both ports hold, once something that a request waited for is over. -/
def State.hostDrainAll (s : State) : State := (s.hostDrain 0).hostDrain 1

/-- A request of a function comes in: served behind those of its function that wait (R559). -/
def State.hostPost (s : State) (p : Nat) (r : HostReq) : State :=
  if s.hostBehind p r.fn then (s.hostKeep p r).hostDrain p
  else
    let x := s.hostTry p r
    if x.2 then x.1 else x.1.hostKeep p r

/-- R558 to R560. A host read through BAR4. -/
def execHostBar4Read (port fn off len : Nat) (s : State) : Out := .next (s.hostPost port { fn := fn, kind := 0, off := off, len := len })
/-- R558 to R560. A host write through BAR4; `ep` is the poison of the TLP. -/
def execHostBar4Write (port fn off : Nat) (bytes : List Nat) (ep : Bool) (s : State) : Out :=
  .next (s.hostPost port { fn := fn, kind := 1, off := off, len := bytes.length, bytes := bytes, ep := ep })
/-- R561. FetchAdd. -/
def execHostFetchAdd (port fn off size a : Nat) (s : State) : Out := .next (s.hostPost port { fn := fn, kind := 2, off := off, len := size, x := a })
/-- R561. Swap. -/
def execHostSwap (port fn off size a : Nat) (s : State) : Out := .next (s.hostPost port { fn := fn, kind := 3, off := off, len := size, x := a })
/-- R561. CAS. -/
def execHostCas (port fn off size cmp a : Nat) (s : State) : Out :=
  .next (s.hostPost port { fn := fn, kind := 4, off := off, len := size, x := a, cmp := cmp })

/-- A write through BAR0 of a function (R363, R556, R559). -/
def State.bar0Write (s : State) (p f off : Nat) (bytes : List Nat) : State :=
  s.hostPost p { fn := f, kind := 5, off := off, len := bytes.length, bytes := bytes.map (· % 256) }

/-- R332, R559. A write to SEQ_DOORBELL: from inside the module (`via` 0), or through BAR0 of the context's function on port `via` − 1,
behind the function's earlier writes. -/
def execSeqDoorbell (ctx value via : Nat) (s : State) : Out :=
  .next (if via = 0 then s.doorbell ctx value else s.bar0Write (via - 1) ctx 0x400 (leBytes 8 value))

/-- R203. The tile has written a bank to zero; accesses by the new owner are granted. -/
def execBankZeroDone (die tile bank : Nat) (s : State) : Out :=
  if ((s.tile die tile).bank bank).zeroing then .next (s.bankZeroed die tile bank).hostDrainAll else .next s

/-- R549. A wake completes: the module's own while it is in IS4, then a site's, once its slice is over. -/
def execIdleWakeDone (die site : Nat) (s : State) : Out :=
  if s.pwr.is4 then .next (if s.moduleWoken then s.leaveIs4.hostDrainAll else s)
  else
    let sl := (s.sliceAt die site).st
    if (s.site die site).idle = 0 ∨ sl = .running ∨ sl = .reinit ∨ !s.siteWoken die site then .next s
    else .next (s.wakeSite die site)

-- ---------------------------------------------------------------- links and resets (R553, R565)

/-- Whether the host ports run: from the end of phase 2 (R534). -/
def State.hostsRun (s : State) : Bool := match s.pwr.st with
  | .booting => decide (3 ≤ s.pwr.phase)
  | .ready | .warmReset => true
  | _ => false

/-- A link as trained: x16 or x8, non-Flit encoding up to 32 GT/s; or with fewer than 8 good lanes x1 at 2.5 GT/s, DEGRADED (R553). -/
def HostPort.train (h : HostPort) (speed lanes : Nat) (flit : Bool) : HostPort :=
  if 8 ≤ lanes then { h with st := .up, speed := if flit then speed else min 5 speed, width := if 16 ≤ lanes then 16 else 8, flit := flit, everUp := true }
  else { h with st := .degraded, speed := 1, width := 1, flit := flit, everUp := true }

/-- Configuration space and every function's state as the port's reset leaves them. -/
def HostPort.cfgReset (h : HostPort) : HostPort := { h with fns := [], numVfs := 0, vfEnable := false, held := [] }

/-- Every user context bound to a port: context reset with cause HOST_RESET (R371). -/
def State.resetBound (s : State) (p : Nat) : State :=
  (List.range 15).foldl (fun s j => if s.portOf (j + 1) = p then s.startReset (j + 1) .hostReset false false 0 0 else s) s

/-- The contexts are reset only while the module is READY or in a compute warm reset. -/
def State.resetBoundIf (s : State) (p : Nat) : State := if s.pwr.st = .ready ∨ s.pwr.st = .warmReset then s.resetBound p else s

/-- R565. PERST# is asserted. -/
def execPerstAssert (port : Nat) (s : State) : Out :=
  if !s.hostFitted port ∨ (s.port port).perst then .next s
  else
    .next ((s.updPort port (fun h => { h.cfgReset with perst := true, st := .down, speed := 0, width := 0, flit := false })).resetBoundIf port)

/-- R534, R553, R565. PERST# is deasserted, or reads so: the link trains once start-up phase 2 has ended, at a speed (1 to 6) on the
good lanes, and the Device Readiness Status message is sent. -/
def execPerstDeassert (port speed lanes : Nat) (flit : Bool) (s : State) : Out :=
  if !s.hostFitted port then .next s
  else if !s.hostsRun ∨ !(1 ≤ speed ∧ speed ≤ 6) ∨ lanes = 0 then .next (s.updPort port (fun h => { h with perst := false }))
  else if s.hostUp port then .next s
  else
    let s1 := if (s.port port).everUp then s.count 0x80F0 5 port 1 else s
    .next ((s1.updPort port (fun h => { h.train speed lanes flit with perst := false })).emit (.readiness port))

/-- R553, R565. A hot reset of a port: its link retrains, and the port is ready for configuration anew. -/
def execHostHotReset (port : Nat) (s : State) : Out :=
  if !s.hostFitted port ∨ !s.hostUp port then .next s
  else .next ((((s.updPort port HostPort.cfgReset).count 0x80F0 5 port 1).resetBoundIf port).emit (.readiness port))

/-- R565. A function-level reset of the PF: as a hot reset, on a link that stays up. -/
def execPfFlr (port : Nat) (s : State) : Out :=
  if !s.hostFitted port ∨ !s.hostUp port then .next s else .next ((s.updPort port HostPort.cfgReset).resetBoundIf port)

/-- R565. VF Enable is cleared. -/
def State.clearVfEnable (s : State) (port : Nat) : State :=
  if (s.port port).vfEnable then
    (s.updPort port (fun h => { h with vfEnable := false, fns := h.fns.filter (fun e => e.1 == 0), held := h.held.filter (fun r => r.fn == 0) })).resetBoundIf port
  else s

def execVfEnableClear (port : Nat) (s : State) : Out :=
  if !s.hostFitted port ∨ !s.hostUp port then .next s else .next (s.clearVfEnable port)

/-- R565. A function-level reset of a VF: its context is reset with cause FLR, ending ACTIVE. -/
def execVfFlr (port vf : Nat) (s : State) : Out :=
  if !s.hostFitted port ∨ !s.hostUp port ∨ vf = 0 ∨ !s.fnExists port vf then .next s
  else
    let s1 := s.updPort port (fun h => { h with fns := SMap.set {} h.fns vf {}, held := h.held.filter (fun r => r.fn != vf) })
    .next (if s1.carries port vf then s1.startReset vf .flr true false 0 0 else s1)

/-- R565. A function enters D3hot. -/
def execD3hotEnter (port fn : Nat) (s : State) : Out :=
  if !s.hostFitted port ∨ !s.hostUp port ∨ !s.fnExists port fn then .next s else .next (s.updFn port fn (fun g => { g with d3hot := true }))

/-- R553, R572. A link that has been up retrains, or loses lanes: none left, and it is down until it trains again, when the port is
ready for configuration. -/
def execHostLinkRetrain (port speed lanes : Nat) (flit : Bool) (s : State) : Out :=
  if !s.hostFitted port ∨ !(s.port port).everUp ∨ (s.port port).perst ∨ !s.hostsRun ∨ !(1 ≤ speed ∧ speed ≤ 6) then .next s
  else
    let s1 := (s.count 0x80F0 5 port 1).updPort port (fun h => if lanes = 0 then { h with st := .training, speed := 0, width := 0 } else h.train speed lanes flit)
    .next (if lanes ≠ 0 ∧ !s.hostUp port then s1.emit (.readiness port) else s1)

/-- The ring whose vector this is (R563). -/
def ringOfVector (v : Nat) : Option RingKind :=
  match v with
  | 0 => some .cq | 1 => some .eq | 3 => some .ledger | _ => none

/-- R345. The holdoff since a vector's last signal runs out, and a signal that waited is sent. -/
def execMsixHoldoffEnd (port fn vector : Nat) (s : State) : Out :=
  let x := SMap.get {} (s.fn port fn).vectors vector
  if !x.holdoff then .next s
  else
    let s1 := s.updFn port fn (fun g => { g with vectors := SMap.set {} g.vectors vector { x with holdoff := false, waiting := false } })
    let us := match ringOfVector vector with
      | some k => ((s.ctx fn).ring k).holdoff
      | none => 0
    .next (if x.waiting then s1.signal port fn vector us else s1)

-- ---------------------------------------------------------------- HBM in service (R568, R570)

/-- Pseudo-channels of a stack in a refresh interval. -/
def State.refreshing (s : State) (stack : Nat) : Nat :=
  ((List.range 32).filter (fun pc => SMap.get 0 s.hbm.refresh (stack * 32 + pc) != 0)).length

/-- R568. A pseudo-channel's refresh interval begins: accesses that reach it wait. At most 3 of a stack are in refresh at once, 6 at
85 °C and above. -/
def execRefreshInterval (stack pc : Nat) (s : State) : Out :=
  if s.stackFitted stack ∧ pc < 32 ∧ s.hbm.trained ∧ s.refreshing stack < (if f32Order 0x42AA0000 ≤ f32Order (s.temp (64 + stack)) then 6 else 3) ∧ !SMap.get false s.hbm.selfRefresh stack ∧ SMap.get 0 s.hbm.refresh (stack * 32 + pc) = 0 then
    .next { s with hbm := { s.hbm with refresh := SMap.set 0 s.hbm.refresh (stack * 32 + pc) 1 } }
  else .next s

/-- R568. The interval ends. -/
def execRefreshIntervalEnd (stack pc : Nat) (s : State) : Out :=
  if pc < 32 then .next ({ s with hbm := { s.hbm with refresh := SMap.set 0 s.hbm.refresh (stack * 32 + pc) 0 } } : State).hostDrainAll
  else .next s

/-- R570. One of the 8 pauses of a channel's retrain begins. -/
def execHbmRetrainPause (stack channel : Nat) (s : State) : Out :=
  let k := stack * 16 + channel
  if channel < 16 ∧ SMap.get 0 s.hbm.retrainLeft k ≠ 0 ∧ SMap.get 0 s.hbm.pause k = 0 then
    .next { s with hbm := { s.hbm with pause := SMap.set 0 s.hbm.pause k 1 } }
  else .next s

/-- R570. A pause ends; after the eighth the retrain is over and counted. -/
def execHbmRetrainPauseEnd (stack channel : Nat) (s : State) : Out :=
  let k := stack * 16 + channel
  let left := SMap.get 0 s.hbm.retrainLeft k
  if channel < 16 ∧ SMap.get 0 s.hbm.pause k ≠ 0 then
    let s1 : State := { s with hbm := { s.hbm with pause := SMap.set 0 s.hbm.pause k 0, retrainLeft := SMap.set 0 s.hbm.retrainLeft k (left - 1) } }
    .next (if left = 1 then s1.count 0x80F0 7 k 1 else s1).hostDrainAll
  else .next s

end Sys2Proof.Machine
end

