-- ==== Sys2Proof/Machine/ObjTable.lean ====
section
/-! DEFINITION. The object index (R596 to R606): every object of the Dielfen dictionary with its name, index, subindex, type
(R581), element size and count, access (R580) and privilege. A count of 0 is a length that the module sets. -/

namespace Sys2Proof.Machine

/-- A row of the index. `acc` 0 CONST, 1 RO, 2 RW, 3 WO, 4 RWP; `priv` 0 VIEW, 1 OPERATE, 2 ADMIN. A BLOB has `count` elements
of `bytes` bytes; a BLOB of one element has none that a segment could name (R580). -/
structure ObjRow where
  name : String
  index : Nat
  sub : Nat
  ty : Nat
  bytes : Nat
  count : Nat
  acc : Nat
  priv : Nat
  deriving DecidableEq, Repr

def rowsComm : List ObjRow := [
  ⟨"VENDOR_ID", 0x1000, 0, 3, 2, 1, 0, 0⟩,
  ⟨"SERIAL_NUMBER", 0x1001, 0, 8, 1, 0, 0, 0⟩,
  ⟨"ORDER_CODE", 0x1002, 0, 8, 1, 0, 0, 0⟩,
  ⟨"GRADE", 0x1003, 0, 2, 1, 1, 0, 0⟩,
  ⟨"MGMT_MAC", 0x1004, 0, 5, 8, 1, 0, 0⟩,
  ⟨"PRESENT_UNITS", 0x1005, 0, 5, 8, 1, 0, 0⟩,
  ⟨"TILE_FW_VERSION", 0x1006, 0, 4, 4, 1, 1, 0⟩,
  ⟨"CTRL_FW_VERSION", 0x1007, 0, 4, 4, 1, 1, 0⟩,
  ⟨"DF_REPLAY_FLOOR", 0x1008, 0, 9, 8, 8, 1, 0⟩,
  ⟨"IO_FW_VERSION", 0x1009, 0, 4, 4, 1, 1, 0⟩,
  ⟨"HOST_PORT_STATUS", 0x1010, 0, 9, 4, 2, 1, 0⟩,
  ⟨"HOST_MBOX_PRIV", 0x1012, 0, 2, 1, 1, 4, 2⟩,
  ⟨"T1S_NODE_ID", 0x1020, 1, 2, 1, 1, 4, 2⟩,
  ⟨"T1S_NODE_COUNT", 0x1020, 2, 2, 1, 1, 4, 2⟩,
  ⟨"T1S_BURST_COUNT", 0x1020, 3, 2, 1, 1, 4, 2⟩,
  ⟨"T1S_TO_TIMER", 0x1020, 4, 2, 1, 1, 4, 2⟩,
  ⟨"T1S_MODE", 0x1020, 5, 2, 1, 1, 4, 2⟩,
  ⟨"T1S_STATE", 0x1020, 6, 4, 4, 1, 1, 0⟩,
  ⟨"DF_RETRY_MS", 0x1021, 1, 3, 2, 1, 4, 2⟩,
  ⟨"DF_RETRY_TRIES", 0x1021, 2, 2, 1, 1, 4, 2⟩,
  ⟨"DF_UNAUTH_RATE", 0x1021, 3, 3, 2, 1, 4, 2⟩,
  ⟨"DF_KEY_0", 0x1022, 1, 10, 40, 1, 3, 2⟩,
  ⟨"DF_KEY_1", 0x1022, 2, 10, 40, 1, 3, 2⟩,
  ⟨"DF_KEY_2", 0x1022, 3, 10, 40, 1, 3, 2⟩,
  ⟨"DF_KEY_3", 0x1022, 4, 10, 40, 1, 3, 2⟩,
  ⟨"DF_KEY_4", 0x1022, 5, 10, 40, 1, 3, 2⟩,
  ⟨"DF_KEY_5", 0x1022, 6, 10, 40, 1, 3, 2⟩,
  ⟨"DF_KEY_6", 0x1022, 7, 10, 40, 1, 3, 2⟩,
  ⟨"DF_KEY_7", 0x1022, 8, 10, 40, 1, 3, 2⟩,
  ⟨"DF_KEY_INFO", 0x1023, 0, 9, 24, 8, 1, 0⟩,
  ⟨"OD_RESTORE_DEFAULTS", 0x1024, 0, 3, 2, 1, 3, 2⟩,
  ⟨"MON_BAUD", 0x1030, 1, 4, 4, 1, 4, 2⟩,
  ⟨"MON_LOCK_S", 0x1030, 2, 3, 2, 1, 4, 2⟩,
  ⟨"MON_STATE", 0x1030, 3, 2, 1, 1, 1, 0⟩]

def rowsPower : List ObjRow := [
  ⟨"MODULE_STATE", 0x2001, 0, 4, 4, 1, 1, 0⟩,
  ⟨"POWER_CMD", 0x2002, 0, 2, 1, 1, 3, 2⟩,
  ⟨"SUPPLY_V", 0x2010, 1, 9, 4, 3, 1, 0⟩,
  ⟨"SUPPLY_I", 0x2010, 2, 9, 4, 3, 1, 0⟩,
  ⟨"SUPPLY_P", 0x2010, 3, 9, 4, 3, 1, 0⟩,
  ⟨"RAIL_V", 0x2011, 0, 9, 4, 29, 1, 0⟩,
  ⟨"TEMP", 0x2020, 1, 9, 4, 86, 1, 0⟩,
  ⟨"THROTTLE_STATE", 0x2020, 2, 4, 4, 1, 1, 0⟩,
  ⟨"IDLE_WAKE_US", 0x2030, 1, 9, 4, 16, 4, 1⟩,
  ⟨"IDLE_SAVE_BASE", 0x2030, 2, 5, 8, 1, 4, 2⟩,
  ⟨"IDLE_TILE_STATE", 0x2030, 3, 9, 1, 576, 1, 0⟩,
  ⟨"IDLE_MODULE", 0x2030, 4, 2, 1, 1, 1, 0⟩]

def rowsHealth : List ObjRow := [
  ⟨"HEALTH_MODE", 0x3010, 1, 2, 1, 1, 4, 2⟩,
  ⟨"HEALTH_POLICY", 0x3010, 2, 5, 8, 1, 4, 2⟩,
  ⟨"DEACC_WINDOW_S", 0x3010, 3, 4, 4, 1, 4, 2⟩,
  ⟨"CC_WINDOW_MS", 0x3010, 4, 4, 4, 1, 4, 2⟩,
  ⟨"CC_HOLD_S", 0x3010, 5, 4, 4, 1, 4, 2⟩,
  ⟨"CHECK_LEVEL", 0x3011, 1, 9, 1, 16, 4, 1⟩,
  ⟨"CHECK_LEVEL_IN_FORCE", 0x3011, 2, 9, 1, 16, 1, 0⟩,
  ⟨"CHECK_RAISE_UNTIL", 0x3011, 3, 9, 8, 2, 1, 0⟩,
  ⟨"HEALTH_SITES", 0x3012, 1, 9, 1, 576, 1, 0⟩,
  ⟨"HEALTH_LINKS", 0x3012, 2, 9, 1, 1152, 1, 0⟩,
  ⟨"HEALTH_PORTS", 0x3012, 3, 9, 1, 16, 1, 0⟩,
  ⟨"HEALTH_HBM", 0x3012, 4, 9, 1, 128, 1, 0⟩,
  ⟨"CONTAINMENT_MODE", 0x3014, 0, 9, 1, 16, 4, 2⟩,
  ⟨"SUPPLY_STATE", 0x3016, 0, 2, 1, 1, 1, 0⟩,
  ⟨"MAPPED_TILES", 0x3018, 0, 9, 2, 2, 1, 0⟩,
  ⟨"CAT_LOGICAL_TILES_D0", 0x3020, 1, 3, 2, 1, 1, 0⟩,
  ⟨"CAT_LOGICAL_TILES_D1", 0x3020, 2, 3, 2, 1, 1, 0⟩,
  ⟨"CAT_SPARES_D0", 0x3020, 3, 3, 2, 1, 1, 0⟩,
  ⟨"CAT_SPARES_D1", 0x3020, 4, 3, 2, 1, 1, 0⟩,
  ⟨"CAT_STATE", 0x3020, 5, 2, 1, 1, 1, 0⟩,
  ⟨"CAT_TRANSLATION", 0x3021, 0, 9, 2, 576, 1, 1⟩,
  ⟨"DIST_TABLE", 0x3022, 1, 9, 256, 576, 1, 0⟩,
  ⟨"DIST_GENERATION", 0x3022, 2, 4, 4, 1, 1, 0⟩,
  ⟨"DIST_TILE_HOPS", 0x3022, 3, 9, 1, 165888, 1, 0⟩,
  ⟨"CAT_REACCESSION", 0x3024, 0, 4, 4, 1, 3, 2⟩,
  ⟨"HBM_STACK_CAPACITY", 0x3026, 0, 9, 8, 8, 1, 0⟩,
  ⟨"HBM_STATE", 0x3027, 0, 9, 1, 128, 1, 0⟩,
  ⟨"TILE_ISLAND_STATE", 0x3028, 0, 9, 4, 576, 1, 0⟩,
  ⟨"WEFT_TIMEOUT_US", 0x3029, 0, 4, 4, 1, 4, 2⟩,
  ⟨"LIC_INSTALL", 0x3030, 1, 9, 144, 1, 3, 2⟩,
  ⟨"LIC_STATUS", 0x3030, 2, 2, 1, 1, 1, 0⟩,
  ⟨"LIC_USER_CONTEXTS", 0x3030, 3, 2, 1, 1, 1, 0⟩,
  ⟨"LIC_FABRIC_DEVICES", 0x3030, 4, 4, 4, 1, 1, 0⟩,
  ⟨"LIC_PORTS", 0x3030, 5, 3, 2, 1, 1, 0⟩,
  ⟨"ACCESSION_LOG", 0x3040, 1, 9, 32, 1024, 1, 1⟩,
  ⟨"ACCESSION_SEQ", 0x3040, 2, 4, 4, 1, 1, 0⟩]

def rowsTest : List ObjRow := [
  ⟨"BIST_DURATION_MS", 0x4001, 1, 4, 4, 1, 1, 0⟩,
  ⟨"BIST_KIND", 0x4001, 2, 2, 1, 1, 1, 0⟩,
  ⟨"BIST_FAILED_UNITS", 0x4001, 3, 3, 2, 1, 1, 0⟩,
  ⟨"BIST_COVERAGE", 0x4001, 4, 9, 16, 0, 1, 1⟩,
  ⟨"BIST_FAILS", 0x4001, 5, 9, 16, 0, 1, 1⟩,
  ⟨"SLICE_ENABLE", 0x4010, 1, 2, 1, 1, 4, 2⟩,
  ⟨"SLICE_PERIOD_S", 0x4010, 2, 3, 2, 1, 4, 2⟩,
  ⟨"SLICE_MAX_CONCURRENT", 0x4010, 3, 2, 1, 1, 4, 2⟩,
  ⟨"REHEARSAL_CONSENT", 0x4011, 0, 9, 2, 16, 2, 1⟩,
  ⟨"SLICE_LAST", 0x4012, 1, 9, 16, 576, 1, 0⟩,
  ⟨"SLICE_FAILS", 0x4012, 2, 9, 16, 256, 1, 1⟩,
  ⟨"SLICE_OVERDUE_SITES", 0x4012, 3, 9, 72, 1, 1, 0⟩,
  ⟨"ANALOGUE_STATE", 0x4015, 0, 4, 4, 1, 1, 0⟩,
  ⟨"REHEARSAL_INJECT", 0x4020, 1, 9, 32, 1, 3, 2⟩,
  ⟨"REHEARSAL_STATUS", 0x4020, 2, 4, 4, 1, 1, 0⟩,
  ⟨"REHEARSAL_LOG", 0x4020, 3, 9, 32, 64, 1, 1⟩]

def rowsCtx : List ObjRow := [
  ⟨"CTX_NUMERIC", 0x5010, 0, 9, 4, 16, 1, 0⟩,
  ⟨"CTX_WINDOWS", 0x5011, 0, 9, 16, 512, 1, 1⟩,
  ⟨"CTX_GRANTS", 0x5012, 0, 9, 136, 16, 1, 1⟩,
  ⟨"CTX_STATE", 0x5013, 0, 9, 8, 16, 1, 0⟩,
  ⟨"HANG_CTX_MS", 0x5014, 1, 9, 4, 16, 4, 1⟩,
  ⟨"HANG_CARD_MS", 0x5014, 2, 9, 4, 16, 4, 1⟩,
  ⟨"HANG_ACTION", 0x5014, 3, 9, 1, 16, 4, 2⟩,
  ⟨"CTX_QUIET_US", 0x5015, 0, 4, 4, 1, 4, 2⟩,
  ⟨"VITRINE_BASE", 0x5016, 1, 5, 8, 1, 4, 2⟩,
  ⟨"VITRINE_HEADERS", 0x5016, 2, 9, 256, 16, 1, 1⟩,
  ⟨"CTX_HOST_PORT", 0x5017, 0, 9, 1, 16, 4, 2⟩,
  ⟨"SEND_WAIT_US", 0x5020, 0, 9, 4, 16, 4, 1⟩,
  ⟨"WARP_PICK_OWNER", 0x5022, 0, 9, 8, 2, 2, 2⟩,
  ⟨"WARP_FRAME", 0x5023, 0, 9, 8, 2, 1, 0⟩,
  ⟨"SEQ_RESIDENT_QUOTA", 0x5024, 1, 9, 2, 16, 4, 2⟩,
  ⟨"SEQ_INFLIGHT_QUOTA", 0x5024, 2, 9, 2, 16, 4, 2⟩,
  ⟨"SEQ_RELIEF_AFTER_S", 0x5024, 3, 3, 2, 1, 4, 2⟩,
  ⟨"SEQ_STATE", 0x5025, 0, 9, 8, 16, 1, 0⟩,
  ⟨"COMPUTE_WARM_RESET", 0x5026, 1, 2, 1, 1, 3, 2⟩,
  ⟨"MODULE_RESET", 0x5026, 2, 3, 2, 1, 3, 2⟩,
  ⟨"RESET_STATE", 0x5026, 3, 2, 1, 1, 1, 0⟩]

def rowsFabric : List ObjRow := [
  ⟨"FABRIC_TOPOLOGY", 0x6001, 0, 2, 1, 1, 4, 2⟩,
  ⟨"FABRIC_DIMS", 0x6002, 0, 4, 4, 1, 4, 2⟩,
  ⟨"FABRIC_DEVICE_ID", 0x6003, 0, 4, 4, 1, 4, 2⟩,
  ⟨"PORT_ROLE", 0x6004, 0, 9, 1, 16, 4, 2⟩,
  ⟨"PORT_STATUS", 0x6010, 0, 9, 8, 16, 1, 0⟩,
  ⟨"FABRIC_ENDPOINTS", 0x6020, 0, 9, 8, 16, 2, 2⟩,
  ⟨"FABRIC_PARTITIONS", 0x6021, 0, 9, 16, 16, 2, 2⟩,
  ⟨"PART_RESET_REQUEST", 0x6022, 0, 3, 2, 1, 3, 2⟩,
  ⟨"FABRIC_FLOWS", 0x6030, 0, 9, 16, 4096, 2, 2⟩,
  ⟨"PORT_GUAR_RESERVED", 0x6031, 0, 9, 4, 16, 4, 2⟩,
  ⟨"FABRIC_MAX_AGE_US", 0x6032, 0, 4, 4, 1, 4, 2⟩,
  ⟨"COLL_TIMEOUT_MS", 0x6033, 0, 4, 4, 1, 4, 1⟩,
  ⟨"FTC_STATUS", 0x6040, 0, 5, 8, 1, 1, 0⟩,
  ⟨"FTC_ROOT_DEVICE", 0x6041, 0, 4, 4, 1, 4, 2⟩,
  ⟨"FTC_NOW", 0x6042, 0, 5, 8, 1, 1, 0⟩]

def rowsCal : List ObjRow := [
  ⟨"FACT_RAIL_VSENSE", 0x7000, 0, 9, 8, 29, 0, 0⟩,
  ⟨"FACT_TSENSE_OFFSET", 0x7001, 0, 9, 4, 86, 0, 0⟩,
  ⟨"FACT_LASER_BIAS", 0x7002, 0, 9, 4, 32, 0, 0⟩,
  ⟨"FACT_HBM_TRIM", 0x7003, 0, 9, 4, 128, 0, 0⟩,
  ⟨"FACT_OPPOINT_COPY", 0x7004, 0, 9, 2, 576, 0, 0⟩,
  ⟨"FACT_RAIL_SETPOINT", 0x7005, 0, 9, 2, 29, 0, 0⟩,
  ⟨"USER_RAIL_VSENSE", 0x7400, 0, 9, 8, 29, 4, 2⟩,
  ⟨"USER_TSENSE_OFFSET", 0x7401, 0, 9, 4, 86, 4, 2⟩,
  ⟨"USER_LASER_BIAS_SCALE", 0x7402, 0, 9, 4, 32, 4, 2⟩,
  ⟨"USER_HBM_TRIM", 0x7403, 0, 9, 4, 128, 4, 2⟩,
  ⟨"USER_ISLAND_VOFFSET", 0x7404, 0, 9, 1, 576, 4, 2⟩,
  ⟨"USER_RAIL_VOFFSET", 0x7405, 0, 9, 2, 29, 4, 2⟩]

def rowsCntA : List ObjRow := [
  ⟨"TILE_STALL_CLOCK", 0x8010, 1, 9, 8, 576, 1, 0⟩,
  ⟨"TILE_STALL_CARD", 0x8010, 2, 9, 8, 576, 1, 0⟩,
  ⟨"TILE_STALL_HAZARD", 0x8010, 3, 9, 8, 576, 1, 0⟩,
  ⟨"TILE_STALL_RECV", 0x8010, 4, 9, 8, 576, 1, 0⟩,
  ⟨"TILE_STALL_SEND", 0x8010, 5, 9, 8, 576, 1, 0⟩,
  ⟨"TILE_STALL_WEFT", 0x8010, 6, 9, 8, 576, 1, 0⟩,
  ⟨"TILE_STALL_CHECK", 0x8010, 7, 9, 8, 576, 1, 0⟩,
  ⟨"TILE_STALL_OPERAND", 0x8010, 8, 9, 8, 576, 1, 0⟩,
  ⟨"TILE_STALL_BANK", 0x8010, 9, 9, 8, 576, 1, 0⟩,
  ⟨"TILE_OPS_RETIRED", 0x8010, 10, 9, 8, 576, 1, 0⟩,
  ⟨"TILE_CHECK_COMPARES", 0x8010, 11, 9, 8, 576, 1, 0⟩,
  ⟨"TILE_CHECK_FORCED", 0x8010, 12, 9, 8, 576, 1, 0⟩,
  ⟨"TILE_CROSS_GROUP", 0x8010, 13, 9, 8, 576, 1, 0⟩,
  ⟨"TILE_PROG_OPS", 0x8011, 1, 9, 8, 2304, 1, 0⟩,
  ⟨"TILE_PROG_TOKENS", 0x8011, 2, 9, 8, 2304, 1, 0⟩,
  ⟨"CTX_SATURATED", 0x8020, 1, 9, 8, 16, 1, 0⟩,
  ⟨"CTX_FLUSHED", 0x8020, 2, 9, 8, 16, 1, 0⟩,
  ⟨"CAT_FIELD_WRITES", 0x8030, 1, 5, 8, 1, 1, 0⟩,
  ⟨"LIC_REJECTED", 0x8030, 2, 5, 8, 1, 1, 0⟩,
  ⟨"TMEM_CE", 0x8040, 1, 5, 8, 1, 1, 0⟩,
  ⟨"TMEM_UE", 0x8040, 2, 5, 8, 1, 1, 0⟩,
  ⟨"SPAD_CE", 0x8040, 3, 5, 8, 1, 1, 0⟩,
  ⟨"SPAD_UE", 0x8040, 4, 5, 8, 1, 1, 0⟩,
  ⟨"HBM_CE", 0x8040, 5, 9, 8, 128, 1, 0⟩,
  ⟨"HBM_UE", 0x8040, 6, 9, 8, 128, 1, 0⟩,
  ⟨"BUF_CE", 0x8040, 7, 5, 8, 1, 1, 0⟩,
  ⟨"BUF_UE", 0x8040, 8, 5, 8, 1, 1, 0⟩,
  ⟨"POISON_CONSUMED", 0x8040, 9, 9, 8, 16, 1, 0⟩,
  ⟨"POISON_MOVED", 0x8040, 10, 9, 8, 16, 1, 0⟩,
  ⟨"HBM_FENCED_WRITES", 0x8040, 11, 5, 8, 1, 1, 0⟩,
  ⟨"WEFT_LINK_RETRY", 0x8050, 1, 5, 8, 1, 1, 0⟩,
  ⟨"WEFT_LINK_DOWN", 0x8050, 2, 5, 8, 1, 1, 0⟩,
  ⟨"WEFT_LOST", 0x8050, 3, 5, 8, 1, 1, 0⟩,
  ⟨"WEFT_STALE_GEN", 0x8050, 4, 9, 8, 16, 1, 0⟩,
  ⟨"WEFT_TABLE_SWITCHES", 0x8050, 5, 5, 8, 1, 1, 0⟩,
  ⟨"STREAM_UNDERRUN", 0x8050, 6, 9, 8, 24, 1, 0⟩,
  ⟨"CHAN_SPILLS", 0x8060, 1, 9, 8, 16, 1, 0⟩,
  ⟨"CHAN_CLOSED", 0x8060, 2, 9, 8, 16, 1, 0⟩,
  ⟨"CHAN_FENCED", 0x8060, 3, 9, 8, 16, 1, 0⟩,
  ⟨"CHAN_STALE_GEN", 0x8060, 4, 9, 8, 16, 1, 0⟩,
  ⟨"QUEUE_STALLS", 0x8060, 5, 9, 8, 16, 1, 0⟩,
  ⟨"JOIN_STALLS", 0x8060, 6, 9, 8, 16, 1, 0⟩,
  ⟨"WARP_FLIT_ERR", 0x8060, 7, 5, 8, 1, 1, 0⟩,
  ⟨"WARP_MISROUTE", 0x8060, 8, 5, 8, 1, 1, 0⟩]

def rowsCntB : List ObjRow := [
  ⟨"DISCARD_OLD", 0x8070, 1, 9, 8, 16, 1, 0⟩,
  ⟨"CARD_LOADS", 0x8070, 2, 9, 8, 16, 1, 0⟩,
  ⟨"CARD_LOAD_FAILS", 0x8070, 3, 9, 8, 16, 1, 0⟩,
  ⟨"CARD_SWITCHES", 0x8070, 4, 9, 8, 16, 1, 0⟩,
  ⟨"SEQ_GRAPHS_DONE", 0x8080, 1, 9, 8, 16, 1, 0⟩,
  ⟨"SEQ_NODES_DONE", 0x8080, 2, 9, 8, 16, 1, 0⟩,
  ⟨"SEQ_NODE_FAILS", 0x8080, 3, 9, 8, 16, 1, 0⟩,
  ⟨"SEQ_SUBMIT_REFUSED", 0x8080, 4, 9, 8, 16, 1, 0⟩,
  ⟨"SEQ_EVENTS_LOST", 0x8080, 5, 9, 8, 16, 1, 0⟩,
  ⟨"SEQ_RELEASE_IGNORED", 0x8080, 6, 9, 8, 16, 1, 0⟩,
  ⟨"SEQ_SLICE_DELAYS", 0x8080, 7, 9, 8, 16, 1, 0⟩,
  ⟨"SEQ_CQ_DISCARDED", 0x8080, 8, 9, 8, 16, 1, 0⟩,
  ⟨"CTX_RESETS", 0x8090, 1, 9, 8, 16, 1, 0⟩,
  ⟨"CTX_HANGS", 0x8090, 2, 9, 8, 16, 1, 0⟩,
  ⟨"CTX_STUCK_CARDS", 0x8090, 3, 9, 8, 16, 1, 0⟩,
  ⟨"CTX_NACK_RESET", 0x8090, 4, 9, 8, 16, 1, 0⟩,
  ⟨"CTX_FENCED_REFUSED", 0x8090, 5, 9, 8, 16, 1, 0⟩,
  ⟨"VITRINE_SAMPLES", 0x8090, 6, 5, 8, 1, 1, 0⟩,
  ⟨"COMPUTE_WARM_RESETS", 0x8090, 7, 5, 8, 1, 1, 0⟩,
  ⟨"MODULE_RESETS", 0x8090, 8, 5, 8, 1, 1, 0⟩,
  ⟨"VAROA_FEC_CORRECTED", 0x80A0, 1, 9, 8, 16, 1, 0⟩,
  ⟨"VAROA_FEC_UNCORRECTABLE", 0x80A0, 2, 9, 8, 16, 1, 0⟩,
  ⟨"VAROA_RETRY", 0x80A0, 3, 9, 8, 16, 1, 0⟩,
  ⟨"VAROA_LINK_DOWN", 0x80A0, 4, 9, 8, 16, 1, 0⟩,
  ⟨"FABRIC_FAILOVER", 0x80A0, 5, 5, 8, 1, 1, 0⟩,
  ⟨"FABRIC_DISCARDED", 0x80A0, 6, 5, 8, 1, 1, 0⟩,
  ⟨"FABRIC_LATE", 0x80A0, 7, 9, 8, 16, 1, 0⟩,
  ⟨"FABRIC_WINDOW_REFUSED", 0x80A0, 8, 9, 8, 16, 1, 0⟩,
  ⟨"FABRIC_STALE", 0x80A0, 9, 9, 8, 16, 1, 0⟩,
  ⟨"FABRIC_TIMEOUT", 0x80A0, 10, 9, 8, 16, 1, 0⟩,
  ⟨"COLL_DONE", 0x80A0, 11, 9, 8, 16, 1, 0⟩,
  ⟨"COLL_ABORTED", 0x80A0, 12, 9, 8, 16, 1, 0⟩,
  ⟨"PART_RESETS", 0x80A0, 13, 5, 8, 1, 1, 0⟩,
  ⟨"NDC_ORDER", 0x80B0, 1, 9, 8, 16, 1, 0⟩,
  ⟨"NDC_TIMING", 0x80B0, 2, 9, 8, 16, 1, 0⟩,
  ⟨"NDC_TIMING_MODULE", 0x80B0, 3, 5, 8, 1, 1, 0⟩,
  ⟨"LEDGER_LOST", 0x80B0, 4, 9, 8, 16, 1, 0⟩,
  ⟨"FTC_OFFSET_ALARMS", 0x80B0, 5, 5, 8, 1, 1, 0⟩,
  ⟨"LAUNCH_LATE", 0x80B0, 6, 9, 8, 16, 1, 0⟩]

def rowsCntC : List ObjRow := [
  ⟨"CHECK_FAILS", 0x80C0, 1, 9, 8, 16, 1, 0⟩,
  ⟨"CHECK_REEXECS", 0x80C0, 2, 9, 8, 16, 1, 0⟩,
  ⟨"CHECK_REPLAYS", 0x80C0, 3, 9, 8, 16, 1, 0⟩,
  ⟨"CHECK_REPLAY_SKIPPED", 0x80C0, 4, 9, 8, 16, 1, 0⟩,
  ⟨"DIP_EVENTS", 0x80C0, 5, 9, 8, 2, 1, 0⟩,
  ⟨"MARGIN_STEPS", 0x80C0, 6, 5, 8, 1, 1, 0⟩,
  ⟨"DEACCESSIONS", 0x80C0, 7, 5, 8, 1, 1, 0⟩,
  ⟨"REPLACEMENTS", 0x80C0, 8, 5, 8, 1, 1, 0⟩,
  ⟨"COMMON_CAUSE_EVENTS", 0x80C0, 9, 5, 8, 1, 1, 0⟩,
  ⟨"DEACC_DEFERRED", 0x80C0, 10, 5, 8, 1, 1, 0⟩,
  ⟨"CONTAIN_TERMINATIONS", 0x80C0, 11, 9, 8, 16, 1, 0⟩,
  ⟨"NO_SPARE_RETIREMENTS", 0x80C0, 12, 5, 8, 1, 1, 0⟩,
  ⟨"SLICES_RUN", 0x80D0, 1, 5, 8, 1, 1, 0⟩,
  ⟨"SLICES_FAILED", 0x80D0, 2, 5, 8, 1, 1, 0⟩,
  ⟨"SLICES_ABORTED", 0x80D0, 3, 5, 8, 1, 1, 0⟩,
  ⟨"SLICE_OVERDUE", 0x80D0, 4, 5, 8, 1, 1, 0⟩,
  ⟨"SLICE_REFUSED", 0x80D0, 5, 5, 8, 1, 1, 0⟩,
  ⟨"ANALOGUE_FAILS", 0x80D0, 6, 5, 8, 1, 1, 0⟩,
  ⟨"REHEARSALS", 0x80D0, 7, 5, 8, 1, 1, 0⟩,
  ⟨"REHEARSAL_REFUSED", 0x80D0, 8, 5, 8, 1, 1, 0⟩,
  ⟨"SUPPLY_SEQ_FAULTS", 0x80E0, 1, 5, 8, 1, 1, 0⟩,
  ⟨"BROWNOUT_RESETS", 0x80E0, 2, 9, 8, 2, 1, 0⟩,
  ⟨"OVERVOLTAGE_EVENTS", 0x80E0, 3, 9, 8, 3, 1, 0⟩,
  ⟨"SUPPLY_LOW_MS", 0x80E0, 4, 9, 8, 2, 1, 0⟩,
  ⟨"THROTTLE_POWER_MS", 0x80E0, 5, 5, 8, 1, 1, 0⟩,
  ⟨"THROTTLE_THERMAL_MS", 0x80E0, 6, 5, 8, 1, 1, 0⟩,
  ⟨"THERMAL_SHUTDOWNS", 0x80E0, 7, 5, 8, 1, 1, 0⟩,
  ⟨"IDLE_ENTRIES", 0x80E0, 8, 9, 8, 4, 1, 0⟩,
  ⟨"IDLE_WAKE_REFUSED", 0x80E0, 9, 5, 8, 1, 1, 0⟩,
  ⟨"HOST_REFUSED", 0x80F0, 1, 9, 8, 16, 1, 0⟩,
  ⟨"HOST_POISON_IN", 0x80F0, 2, 5, 8, 1, 1, 0⟩,
  ⟨"HOST_POISON_OUT", 0x80F0, 3, 5, 8, 1, 1, 0⟩,
  ⟨"HOST_ATOMICS", 0x80F0, 4, 9, 8, 16, 1, 0⟩,
  ⟨"HOST_LINK_RETRAINS", 0x80F0, 5, 9, 8, 2, 1, 0⟩,
  ⟨"HBM_REFRESH_WAITS", 0x80F0, 6, 5, 8, 1, 1, 0⟩,
  ⟨"HBM_RETRAINS", 0x80F0, 7, 9, 8, 128, 1, 0⟩,
  ⟨"HBM_SELF_REFRESH_ENTRIES", 0x80F0, 8, 5, 8, 1, 1, 0⟩,
  ⟨"T1S_FRAMES_IN", 0x8100, 1, 5, 8, 1, 1, 0⟩,
  ⟨"T1S_FRAMES_OUT", 0x8100, 2, 5, 8, 1, 1, 0⟩,
  ⟨"T1S_FCS_ERRORS", 0x8100, 3, 5, 8, 1, 1, 0⟩,
  ⟨"T1S_COLLISIONS", 0x8100, 4, 5, 8, 1, 1, 0⟩,
  ⟨"T1S_PLCA_FALLBACKS", 0x8100, 5, 5, 8, 1, 1, 0⟩,
  ⟨"DF_UNKNOWN_SOURCE", 0x8100, 6, 5, 8, 1, 1, 0⟩,
  ⟨"DF_AUTH_FAILED", 0x8100, 7, 5, 8, 1, 1, 0⟩,
  ⟨"DF_DUPLICATES", 0x8100, 8, 5, 8, 1, 1, 0⟩,
  ⟨"DF_REPLAY_DROPPED", 0x8100, 9, 5, 8, 1, 1, 0⟩,
  ⟨"DF_UNAUTH_DROPPED", 0x8100, 10, 5, 8, 1, 1, 0⟩,
  ⟨"DF_MALFORMED", 0x8100, 11, 5, 8, 1, 1, 0⟩,
  ⟨"DF_BUSY", 0x8100, 12, 5, 8, 1, 1, 0⟩,
  ⟨"OD_PERSIST_WRITES", 0x8100, 13, 5, 8, 1, 1, 0⟩,
  ⟨"MON_LOGIN_FAILS", 0x8100, 14, 5, 8, 1, 1, 0⟩]

def objRows : List ObjRow :=
  rowsComm ++ rowsPower ++ rowsHealth ++ rowsTest ++ rowsCtx ++ rowsFabric ++ rowsCal ++ rowsCntA ++ rowsCntB ++ rowsCntC

end Sys2Proof.Machine
end

