-- ==== Sys2Proof/Machine/Dictionary.lean ====
section
/-! DEFINITION. What the objects of the dictionary read (R581, R590 to R606): each element of an object as a number of the
element's size. -/

namespace Sys2Proof.Machine

-- ---------------------------------------------------------------- the index (R596, R597)

/-- The highest subindex of an index. -/
def highestSub (index : Nat) : Nat := ((objRows.filter (fun r => r.index == index)).map (·.sub)).foldl max 0

/-- The row of an object; an index with subindices from 01 on also has a subindex 00 that holds the highest (R597). -/
def objRow? (index sub : Nat) : Option ObjRow :=
  match objRows.find? (fun r => r.index == index && r.sub == sub) with
  | some r => some r
  | none => if sub = 0 ∧ highestSub index ≠ 0 then some ⟨"HIGHEST_SUBINDEX", index, 0, 2, 1, 1, 0, 0⟩ else none

/-- Elements of an object now: the lengths that the module sets are those of its values. -/
def State.rowCount (s : State) (r : ObjRow) : Nat :=
  if r.count ≠ 0 then r.count
  else match r.index, r.sub with
    | 0x1001, _ => s.factory.serial.length
    | 0x1002, _ => s.factory.orderCode.length
    | 0x4001, 4 => s.test.coverage.length
    | _, _ => s.test.fails.length

def State.rowSize (s : State) (r : ObjRow) : Nat := r.bytes * s.rowCount r

/-- The context to which an element of a per-context BLOB belongs (R564, R599); subindex 00 beside others is none (R597). -/
def elemCtx (index sub el : Nat) : Option Nat :=
  if sub = 0 ∧ highestSub index ≠ 0 then none else
  match index with
  | 0x5011 => some (el / 32)
  | 0x2030 => if sub = 1 then some el else none
  | 0x3011 => if sub < 3 then some el else none
  | 0x3014 | 0x4011 | 0x5010 | 0x5012 | 0x5013 | 0x5014 | 0x5017 | 0x5020 | 0x5025 | 0x6020 | 0x8020 | 0x8060 | 0x8070 | 0x8080 =>
    if index = 0x8060 ∧ 7 ≤ sub then none else some el
  | 0x5016 => if sub = 2 then some el else none
  | 0x5024 => if sub < 3 then some el else none
  | 0x8040 => if sub = 9 ∨ sub = 10 then some el else none
  | 0x8050 => if sub = 4 then some el else none
  | 0x8090 => if sub < 6 then some el else none
  | 0x80A0 => if 7 ≤ sub ∧ sub ≤ 12 then some el else none
  | 0x80B0 => if sub = 3 ∨ sub = 5 then none else some el
  | 0x80C0 => if sub < 5 ∨ sub = 11 then some el else none
  | 0x80F0 => if sub = 1 ∨ sub = 4 then some el else none
  | _ => none

-- ---------------------------------------------------------------- units absent from the variant (R3, R593)

/-- Whether a rail belongs to a unit that is present (R530). -/
def State.railPresent (s : State) (n : Nat) : Bool :=
  if n = 0 ∨ 27 ≤ n then true
  else if n ≤ 16 then decide ((n - 1) % 4 < s.factory.ioDies)
  else s.diePresent ((n - 17) % 2)

/-- Whether a temperature sensor belongs to a unit that is present (R540): optical engines and laser banks go with their I/O die. -/
def State.sensorPresent (s : State) (n : Nat) : Bool :=
  if n < 48 then s.diePresent (n / 24)
  else if n < 64 then decide ((n - 48) / 4 < s.factory.ioDies)
  else if n < 72 then s.stackFitted (n - 64)
  else if n < 80 then decide ((n - 72) % 4 < s.factory.ioDies)
  else true

/-- Whether the unit that an element belongs to is present. -/
def State.elemPresent (s : State) (index sub el : Nat) : Bool :=
  match index with
  | 0x3012 => match sub with
    | 1 => s.diePresent (el / 288)
    | 2 => s.diePresent (el / 576)
    | 3 => s.portPresent el
    | _ => s.stackFitted (el / 16)
  | 0x2030 => sub != 3 || s.diePresent (el / 288)
  | 0x4012 => sub != 1 || s.diePresent (el / 288)
  | 0x7404 | 0x7004 => s.diePresent (el / 288)
  | 0x7403 | 0x7003 => s.stackFitted (el / 16)
  | 0x7402 | 0x7002 => decide (el / 8 < s.factory.ioDies)
  | 0x7400 | 0x7405 | 0x7000 | 0x7005 | 0x2011 => s.railPresent el
  | 0x7401 | 0x7001 => s.sensorPresent el
  | 0x2020 => sub != 1 || s.sensorPresent el
  | 0x6004 | 0x6031 => s.portPresent el
  | 0x5022 | 0x5023 | 0x3018 => s.diePresent el
  | 0x3011 => sub != 3 || s.diePresent el
  | _ => true

-- ---------------------------------------------------------------- objects laid out from the state

/-- PRESENT_UNITS (R601). -/
def State.presentUnits (s : State) : Nat :=
  at_ 32 1 (b2n s.factory.host1) + at_ 16 16 (s.factory.ports &&& (2 ^ (4 * s.factory.ioDies) - 1)) + at_ 8 8 s.factory.stackMask
  + at_ 4 4 (2 ^ s.factory.ioDies - 1) + at_ 0 2 (2 ^ s.factory.computeDies - 1)

/-- An entry of HOST_PORT_STATUS (R572). -/
def State.hostPortStatus (s : State) (p : Nat) : Nat :=
  if !s.hostFitted p then at_ 29 3 4
  else
    let h := s.port p
    at_ 29 3 h.st.code + at_ 26 3 h.speed + at_ 21 5 h.width + at_ 20 1 (b2n h.flit) + at_ 16 4 h.numVfs

/-- T1S_STATE (R594). -/
def State.t1sState (s : State) : Nat :=
  at_ 31 1 (b2n (s.mgmt.csma || s.obj 0x1020 5 0 == 1)) + at_ 30 1 (b2n (s.mgmt.nodeId == 0)) + at_ 29 1 (b2n s.mgmt.clash)
  + at_ 28 1 (b2n s.mgmt.strapped) + at_ 0 5 s.mgmt.nodeId

def State.key (s : State) (slot : Nat) : KeySlot := SMap.get {} s.mgmt.keys slot

/-- An HMAC under a slot's key, whose bytes stand as in the REC of R585. -/
def KeySlot.hmac (k : KeySlot) (bs : List Nat) : List Nat := Sha.hmac (leBytes 32 k.key.toNat) bs

/-- An entry of DF_KEY_INFO (R594). -/
def KeySlot.info (k : KeySlot) : Nat :=
  at_ 128 64 k.highest + at_ 96 32 (leVal ((k.hmac [75, 69, 89, 67, 72, 69, 67, 75]).take 4)) + at_ 48 48 k.mac
  + at_ 3 1 (b2n k.macBound) + at_ 2 1 (b2n k.enable) + at_ 0 2 k.priv

/-- CHECK_LEVEL_IN_FORCE (R466): the highest effective level over the tiles where the context has a current card, or its
latched level. -/
def State.levelInForce (s : State) (c : Nat) : Nat :=
  s.tiles.foldl (fun m e => if (e.2.currentSlot c).isSome then max m (s.effLevel c (e.1 / 288) (e.1 % 288)) else m) (s.latchedOf c).level

/-- CHECK_RAISE_UNTIL (R466): all ones while the end is not known; 0 with no raise; else its end, in fabric time once that
has been acquired. -/
def State.raiseUntil (s : State) (d : Nat) : Nat :=
  let x := s.die d
  if SMap.get false x.raiseOpen 0 || SMap.get false x.raiseOpen 1 then 2 ^ 64 - 1
  else
    let ends := (if x.raise = 0 then [] else [x.raise - 1])
      ++ ((s.cur.holds.filter (fun h => (s.domainDies h.domain).contains d)).map (·.until_))
    match ends with
    | [] => 0
    | e :: es =>
      let t := es.foldl max e
      if s.time.ftc16 = 0 then t else (s.ftc + t - s.pwr.uptime) % 2 ^ 64

/-- SUPPLY_STATE (R482). -/
def State.supplyState (s : State) : Nat :=
  b2n (SMap.get false s.cur.suspect 0) + at_ 1 1 (b2n (SMap.get false s.cur.suspect 1)) + at_ 2 1 (b2n s.pwr.stretch)

/-- An entry of HBM_STATE (R572). -/
def State.hbmState (s : State) (el : Nat) : Nat :=
  let stack := el / 16
  if !s.stackFitted stack then 2
  else if SMap.get false s.hbm.retired el || SMap.get false s.hbm.fenced el then 1
  else if SMap.get false s.hbm.selfRefresh stack then 3 else 0

/-- An entry of CAT_TRANSLATION (R60). -/
def State.translation (s : State) (el : Nat) : Nat :=
  match s.siteOf (el / 288) (el % 288) with
  | none => 0
  | some i => at_ 15 1 1 + at_ 4 5 (siteCol i) + at_ 0 4 (siteRow i)

/-- A record of CTX_GRANTS (R369): the configuration, then each die's bitmap. -/
def State.grantRecord (s : State) (c : Nat) : Nat :=
  let x := s.ctx c
  at_ 0 64 x.slotMask + at_ 64 512 (SMap.get 0 x.tiles 0) + at_ 576 512 (SMap.get 0 x.tiles 1)

/-- PORT_STATUS (R408). -/
def State.portStatus (s : State) (p : Nat) : Nat :=
  if !s.portPresent p then at_ 61 3 5
  else
    let x := s.fport p
    at_ 61 3 x.st.code + at_ 59 2 x.width + at_ 54 5 x.reason + at_ 40 4 x.peerPort + at_ 22 18 x.peerDevice + at_ 8 8 x.fibreM
    + at_ 0 8 x.wlGood

/-- An entry of WARP_PICK_OWNER (R263). -/
def State.pickOwners (s : State) (d : Nat) : Nat := ((List.range 16).map (fun p => at_ (4 * p) 4 (SMap.get 0 (s.die d).pickOwner p))).sum

/-- LIC_PORTS (R64). -/
def State.licPorts (s : State) : Nat := ((List.range 16).map (fun p => at_ p 1 (b2n (s.portPresent p)))).sum

/-- SLICE_OVERDUE_SITES, a bit per site (R525). -/
def State.overdueSites (s : State) : Nat := ((s.test.slices.filter (fun e => e.2.overdue)).map (fun e => 2 ^ e.1)).sum

/-- ANALOGUE_STATE (R518). -/
def State.analogueState (s : State) : Nat := ((s.test.analogue.filter (fun e => e.2 && decide (e.1 < 29))).map (fun e => 2 ^ e.1)).sum

-- ---------------------------------------------------------------- elements

/-- 0x1000 to 0x2FFF. -/
def State.valComm (s : State) (index sub el : Nat) : Nat :=
  match index with
  | 0x1000 => s.factory.vendor
  | 0x1001 => s.factory.serial.getD el 0
  | 0x1002 => s.factory.orderCode.getD el 0
  | 0x1003 => s.factory.grade
  | 0x1004 => s.factory.mac
  | 0x1005 => s.presentUnits
  | 0x1006 => Config.fwVersion 0 (fld s.pwr.copies 1 1)
  | 0x1007 => if s.pwr.romOnly then 0 else Config.fwVersion 1 (fld s.pwr.copies 0 1)
  | 0x1008 => (s.key el).floor
  | 0x1009 => Config.fwVersion 2 (fld s.pwr.copies 2 1)
  | 0x1010 => s.hostPortStatus el
  | 0x1020 => s.t1sState
  | 0x1023 => (s.key el).info
  | 0x1030 => s.mon.state
  | 0x2001 => s.moduleState
  | 0x2010 => if sub = 3 then SMap.get 0 s.pwr.readings (6 + el) else Config.reading (0x2010 * 256 + sub) el s.pwr.uptime
  | 0x2011 => s.railVolts el
  | 0x2020 => if sub = 1 then s.temp el else s.throttleState
  | 0x2030 => if sub = 3 then min 3 (s.site (el / 288) (el % 288)).idle else b2n s.pwr.is4
  | _ => 0

/-- 0x3000 to 0x4FFF. -/
def State.valHealth (s : State) (index sub el : Nat) : Nat :=
  match index with
  | 0x3011 => if sub = 2 then s.levelInForce el else s.raiseUntil el
  | 0x3012 => match sub with
    | 1 => s.score (siteAddr (el / 288) (el % 288))
    | 2 => s.score (linkName (el / 576) (el % 576 / 2) (1 + el % 2))
    | 3 => s.score (portAddr el)
    | _ => s.score (channelAddr (el / 16) (el % 16))
  | 0x3016 => s.supplyState
  | 0x3018 => (s.die el).l2p.length
  | 0x3020 => match sub with
    | 1 => (s.die 0).tilesN
    | 2 => (s.die 1).tilesN
    | 3 => (s.die 0).spares.length
    | 4 => (s.die 1).spares.length
    | _ => s.cat.state
  | 0x3021 => s.translation el
  | 0x3022 => match sub with
    | 1 => s.distRecord (el / 288) (el % 288)
    | 2 => s.cat.distGen.toNat
    | _ => s.tileHops (el / 82944) (el % 82944 / 288) (el % 288)
  | 0x3026 => s.stackCapacity el
  | 0x3027 => s.hbmState el
  | 0x3028 => s.tileIsland (el / 288) (el % 288)
  | 0x3030 => match sub with
    | 2 => s.cat.licStatus
    | 3 => s.cat.userContexts
    | 4 => s.cat.fabricDevices
    | _ => s.licPorts
  | 0x3040 => if sub = 1 then (s.cur.log.getD el 0).toNat else s.cur.seq.toNat
  | 0x4001 => match sub with
    | 1 => s.test.bistMs
    | 2 => s.test.bistKind
    | 3 => s.test.bistFailed
    | 4 => (s.test.coverage.getD el 0).toNat
    | _ => (s.test.fails.getD el 0).toNat
  | 0x4012 => match sub with
    | 1 => (s.sliceAt (el / 288) (el % 288)).last.toNat
    | 2 => (s.test.sliceFails.getD el 0).toNat
    | _ => s.overdueSites
  | 0x4015 => s.analogueState
  | 0x4020 => if sub = 2 then s.test.rehStatus.toNat else (s.test.rehLog.getD el 0).toNat
  | _ => 0

/-- 0x5000 to 0x7FFF. -/
def State.valCtx (s : State) (index sub el : Nat) : Nat :=
  match index with
  | 0x5010 => (s.ctx el).numeric.toNat
  | 0x5011 => SMap.get 0 (s.ctx (el / 32)).windows (el % 32)
  | 0x5012 => s.grantRecord el
  | 0x5013 => s.ctxStatus el
  | 0x5016 => if sub = 2 then SMap.get 0 s.vheaders el else 0
  | 0x5022 => s.pickOwners el
  | 0x5023 => (s.die el).frame
  | 0x5025 => s.seqStatus el
  | 0x5026 => b2n (s.pwr.warm != .none)
  | 0x6010 => s.portStatus el
  | 0x6020 => s.endpoint el
  | 0x6021 => s.partition el
  | 0x6030 => (s.flow el).entry.toNat
  | 0x6040 => s.ftcStatus
  | 0x6042 => s.ftc
  | 0x7004 => s.oppMv (el / 288) (el % 288)
  | 0x7000 | 0x7001 | 0x7002 | 0x7003 | 0x7005 => Config.factoryCal index el
  | _ => 0

/-- 0x8000 to 0x8FFF: the counts that lie with a tile, and all others. -/
def State.valCount (s : State) (index sub el : Nat) : Nat :=
  match index with
  | 0x8010 => SMap.get 0 (s.tile (el / 288) (el % 288)).counters sub
  | 0x8011 =>
    let sl := (s.tile (el / 4 / 288) (el / 4 % 288)).slot (el % 4)
    if sub = 1 then sl.progOps else sl.progTokens
  | 0x80E0 => s.counter index sub el
  | _ => s.counter index sub el

/-- RW and RWP objects whose value lies with the unit that uses it. -/
def keptElsewhere (index : Nat) : Bool := index == 0x5022 || index == 0x6020 || index == 0x6021 || index == 0x6030

/-- The value of an element, absent units reading as zero. -/
def State.elemVal (s : State) (r : ObjRow) (el : Nat) : Nat :=
  if !s.elemPresent r.index r.sub el then 0
  else if r.sub = 0 ∧ highestSub r.index ≠ 0 then highestSub r.index
  else if (r.acc = 2 ∨ r.acc = 4) ∧ !keptElsewhere r.index then s.obj r.index r.sub el
  else if r.index < 0x3000 then s.valComm r.index r.sub el
  else if r.index < 0x5000 then s.valHealth r.index r.sub el
  else if r.index < 0x8000 then s.valCtx r.index r.sub el
  else s.valCount r.index r.sub el

/-- The bytes of elements lo to lo + n − 1. -/
def State.elemBytes (s : State) (r : ObjRow) (lo n : Nat) : List Nat :=
  ((List.range n).map (fun i => leBytes r.bytes (s.elemVal r (lo + i)))).flatten

/-- The whole value. -/
def State.objBytes (s : State) (r : ObjRow) : List Nat := s.elemBytes r 0 (s.rowCount r)

end Sys2Proof.Machine
end

