-- ==== Sys2Proof/Machine/Dielfen.lean ====
section
/-! DEFINITION. The operations on dictionary objects (R580 to R585, R590 to R593, R564): what a write does under the rules of
the object's chapter, and GET, SET, GET_SEG, SET_SEG and DESCRIBE with their results. -/

namespace Sys2Proof.Machine

/-- RESULT (R582). -/
inductive DfResult where
  | ok | noObject | access | privilege | type | range | notApplied | tooBig | segment | busy | malformed
  deriving DecidableEq, Repr

def DfResult.code : DfResult → Nat
  | .ok => 0 | .noObject => 1 | .access => 2 | .privilege => 3 | .type => 4 | .range => 5 | .notApplied => 6 | .tooBig => 7
  | .segment => 8 | .busy => 9 | .malformed => 10

/-- Whether the controller runs its firmware and so serves messages (R535, R620). -/
def State.ctrlRuns (s : State) : Bool := s.pwr.ctrlOn && !s.pwr.romOnly

-- ---------------------------------------------------------------- ranges

/-- F32 bits within a range given as bits; no NaN lies in one. -/
def f32In (lo hi v : Nat) : Bool := decide (f32Order lo ≤ f32Order v) && decide (f32Order v ≤ f32Order hi)

/-- A signed value of `w` bits within ± m. -/
def signedIn (w m v : Nat) : Bool := decide (-(m : Int) ≤ toInt w v) && decide (toInt w v ≤ (m : Int))

/-- Nominal voltage of a rail in mV (R530). -/
def railNominal (n : Nat) : Nat :=
  if n = 0 then 1200 else if n ≤ 4 then 750 else if n ≤ 8 then 900 else if n ≤ 12 then 1800 else if n ≤ 16 then 3300
  else if n ≤ 18 then 850 else if n ≤ 20 then 800 else if n ≤ 22 then 1800 else if n ≤ 24 then 1100 else if n ≤ 26 then 400
  else if n = 27 then 1000 else 3300

/-- The rates of R603. -/
def baudRates : List Nat := [9600, 19200, 57600, 115200, 230400, 460800, 921600, 1000000, 2000000, 3000000]

/-- User calibration within its range (R539): scale 0.95 to 1.05 and offset ± 0.010 V; ± 5.0 °C; 0.80 to 1.20; ± 8 codes;
± 30 mV; ± 2 % of nominal, rails 0, 27 and 28 at 0. -/
def calOk (index el v : Nat) : Bool :=
  match index with
  | 0x7400 => f32In 0x3F733333 0x3F866666 (fld v 0 32) && f32In 0xBC23D70A 0x3C23D70A (fld v 32 32)
  | 0x7401 => f32In 0xC0A00000 0x40A00000 v
  | 0x7402 => f32In 0x3F4CCCCD 0x3F99999A v
  | 0x7403 => (List.range 4).all (fun i => signedIn 8 8 (fld v (8 * i) 8))
  | 0x7404 => signedIn 8 30 v
  | _ => signedIn 16 (if el = 0 ∨ el = 27 ∨ el = 28 then 0 else railNominal el / 50) v

/-- Whether a value lies in an element's range. -/
def elemOk (index sub el v : Nat) : Bool :=
  match index with
  | 0x1024 => v == 0xDEF0
  | 0x3024 => decide (v < 2 ^ 28)
  | 0x6004 => roleOk v
  | _ =>
    if 0x7400 ≤ index ∧ index < 0x7800 then calOk index el v
    else if index = 0x1020 ∧ sub = 1 then decide (v < 32) || v == 0xFF
    else if index = 0x1030 then (if sub = 1 then baudRates.contains v else v == 0 || (decide (30 ≤ v) && decide (v ≤ 3600)))
    else match objDef? index sub with
      | some o => decide (o.lo ≤ v) && decide (v ≤ o.hi)
      | none => true

-- ---------------------------------------------------------------- writes under the rules of each chapter

/-- Whether a base names a store of `n` bytes in one HBM stack's present range, aligned to 2 MiB; `spad` allows a die's
scratchpad. 0 disables the store (R379, R548). -/
def State.storeOk (s : State) (base n : Nat) (spad : Bool) : Bool :=
  base == 0 || (base % 0x200000 == 0 && s.present base n && (match place base with
    | .hbm _ _ => true
    | .spad _ _ => spad
    | _ => false))

/-- R548: an aligned save store in one stack, clear of the vitrine store, while no tile is in IS3. -/
def State.saveBaseOk (s : State) (v : Nat) : Bool :=
  let vb := s.obj 0x5016 1 0
  s.storeOk v 0x48000000 false && !s.sites.any (fun e => decide (3 ≤ e.2.idle))
    && (v == 0 || vb == 0 || decide (vb + 0x2000000 ≤ v) || decide (v + 0x48000000 ≤ vb))

/-- R501: PROBATION above SUSPECT, CC_COUNT at least 2, DEACC_LIMIT not 0. -/
def policyOk (v : Nat) : Bool := decide (fld v 40 8 < fld v 32 8) && decide (2 ≤ fld v 16 8) && fld v 8 8 != 0

/-- Apply a write of one element; false where a rule of the object's chapter refuses it. -/
def State.applyElem (s : State) (index sub el v : Nat) : State × Bool :=
  let put (ok : Bool) : State × Bool := if ok then (s.putObj index sub el v, true) else (s, false)
  match index, sub with
  | 0x1020, 1 =>
    let s1 := s.putObj index sub el v
    ({ s1 with mgmt := { s1.mgmt with newNodeId := some v, newNodeAt := s.pwr.uptime } }, true)
  | 0x1024, _ => ({ s with flash := { s.flash with restore := true } }, true)
  | 0x1030, 1 =>
    let s1 := s.putObj index sub el v
    ({ s1 with mon := { s1.mon with baud := v } }, true)
  | 0x2002, _ => (if v = 1 then s.sleepRequest else s.powerCmd v, true)
  | 0x2030, 1 => (s.writeWakeUs el v, true)
  | 0x2030, _ => put (s.saveBaseOk v)
  | 0x3010, 2 => if policyOk v then (s.putObj index sub el (fld v 8 40 * 2 ^ 8 + fld v 0 1), true) else (s, false)
  | 0x3024, _ => (s.reaccession v, !(decide (2 ^ 28 ≤ v) || decide (6 ≤ unitClass v) || s.defect v))
  | 0x3030, _ => (s.licInstall v, s.licCheck v == 0)
  | 0x4011, _ => (s.writeConsent el v, true)
  | 0x4020, _ =>
    let s1 := s.inject v
    (s1, fld s1.test.rehStatus.toNat 0 8 == 0)
  | 0x5016, _ => put (s.storeOk v 0x2000000 true)
  | 0x5017, _ => if el = 0 then (s, true) else put ((s.ctx el).st == .inactive && s.hostFitted v)
  | 0x5022, _ => s.writePickOwner el v
  | 0x5026, 1 => (s.warmCmd v, true)
  | 0x5026, _ => (s.resetRequest v, true)
  | 0x6001, _ => (s.writeFabricCfg 0 0 v, s.fabricCfgOk 0 0 v)
  | 0x6002, _ => (s.writeFabricCfg 1 0 v, s.fabricCfgOk 1 0 v)
  | 0x6003, _ => (s.writeFabricCfg 2 0 v, s.fabricCfgOk 2 0 v)
  | 0x6004, _ => (s.writeFabricCfg 3 el v, s.fabricCfgOk 3 el v)
  | 0x6020, _ => (s.writeEndpoint el v, s.endpointOk el v)
  | 0x6021, _ => (s.writePartition el v, true)
  | 0x6022, _ => (s.startPartReset (v % 65536) false, true)
  | 0x6030, _ => (s.writeFlow el v, s.flowOk el (flowMask v))
  | _, _ => put true

/-- A key slot is written (R585, R588, R615): a slot enabled starts with its counters at 0 and no cache; a slot disabled loses its
key; the monitor locks if its session used the slot. -/
def State.writeKey (s : State) (slot v : Nat) : State :=
  let en := bitOf v 2
  let k : KeySlot := {
    key := BitVec.ofNat 256 (if en then fld v 64 256 else 0), mac := fld v 16 48, macBound := bitOf v 3, enable := en
    priv := fld v 0 2 }
  let s1 : State := { s with mgmt := { s.mgmt with keys := SMap.set {} s.mgmt.keys slot k } }
  if s.mon.slot = some slot then { s1 with mon := { s1.mon with state := 0, slot := none, challenge := none, trace := 0 } } else s1

/-- A write of DF_KEY_0 to DF_KEY_7 over path 0 segment, 1 mailbox, 2 monitor (R585); PRIV 0b11 is a reserved value. -/
def State.keyWrite (s : State) (path slot v : Nat) : State × DfResult :=
  if path = 0 then (s, .notApplied) else if fld v 0 2 = 3 then (s, .range) else (s.writeKey slot v, .ok)

/-- The sum of an object's 16 elements with those from `first` on replaced. -/
def State.sumWith (s : State) (index sub first : Nat) (vals : List Nat) : Nat :=
  ((List.range 16).map (fun c => if first ≤ c ∧ c < first + vals.length then vals.getD (c - first) 0 else s.obj index sub c)).sum

/-- Conditions on a write as a whole (R357). -/
def State.wholeOk (s : State) (index sub first : Nat) (vals : List Nat) : Bool :=
  if index = 0x5024 ∧ sub = 1 then decide (s.sumWith index sub first vals ≤ 8192)
  else if index = 0x5024 ∧ sub = 2 then decide (s.sumWith index sub first vals ≤ 4096)
  else true

/-- Elements with their numbers. -/
def numbered : Nat → List Nat → List (Nat × Nat)
  | _, [] => []
  | n, v :: vs => (n, v) :: numbered (n + 1) vs

/-- Write elements from `first` on: nothing if one is out of range or the write as a whole is refused; else those that the
chapter's rules apply. Elements of absent units ignore the write (R593). -/
def State.writeElems (s : State) (r : ObjRow) (first : Nat) (vals : List Nat) : State × DfResult :=
  let es := (numbered first vals).filter (fun e => s.elemPresent r.index r.sub e.1)
  if !es.all (fun e => elemOk r.index r.sub e.1 e.2) then (s, .range)
  else if !s.wholeOk r.index r.sub first vals then (s, .notApplied)
  else
    let o := es.foldl (fun (acc : State × Bool) e =>
      let a := acc.1.applyElem r.index r.sub e.1 e.2
      (a.1, acc.2 && a.2)) (s, true)
    (o.1, if o.2 then .ok else .notApplied)

/-- Cut bytes into numbers of `w` bytes. -/
def elemsOf (w : Nat) : Nat → List Nat → List Nat
  | 0, _ => []
  | _, [] => []
  | n + 1, b :: bs => leVal ((b :: bs).take w) :: elemsOf w n ((b :: bs).drop w)

-- ---------------------------------------------------------------- the requester

/-- `who` sends: a key slot 0 to 7, the monitor 8, an unauthenticated frame 9, or 16 + 16 port + function of a mailbox. The
context of a VF. -/
def vfOf (who : Nat) : Option Nat := if 16 ≤ who ∧ who % 16 ≠ 0 then some (who % 16) else none

def pathOf (who : Nat) : Nat := if 16 ≤ who then 1 else if who = 8 then 2 else 0

/-- Bytes of body that a response on the requester's path may hold (R578). -/
def bodyMax (who : Nat) : Nat := if pathOf who = 0 then 1460 else 8168

/-- A VF reads zeros for other contexts' entries (R564). -/
def maskVf (who : Nat) (r : ObjRow) (off : Nat) (bs : List Nat) : List Nat :=
  match vfOf who with
  | none => bs
  | some c => (numbered off bs).map (fun e => match elemCtx r.index r.sub (e.1 / r.bytes) with
    | some k => if k = c then e.2 else 0
    | none => e.2)

/-- Privilege that a read needs (R590). -/
def ObjRow.readPriv (r : ObjRow) : Nat := if r.acc = 2 ∨ r.acc = 4 then 0 else r.priv

def pad4 (n : Nat) : Nat := (n + 3) / 4 * 4

-- ---------------------------------------------------------------- the five operations (R580)

/-- GET, with `room` bytes for the value. -/
def State.dfGet (s : State) (priv who index sub room : Nat) : DfResult × List Nat :=
  match objRow? index sub with
  | none => (.noObject, [])
  | some r =>
    if r.acc = 3 then (.access, [])
    else if priv < r.readPriv then (.privilege, [])
    else if room < pad4 (s.rowSize r) then (.tooBig, [])
    else (.ok, maskVf who r 0 (s.objBytes r))

/-- SET of the whole value. -/
def State.dfSet (s : State) (priv who index sub ty : Nat) (data : List Nat) : State × DfResult :=
  match objRow? index sub with
  | none => (s, .noObject)
  | some r =>
    if r.acc < 2 then (s, .access)
    else if priv < r.priv then (s, .privilege)
    else if ty ≠ r.ty ∨ data.length ≠ s.rowSize r then (s, .type)
    else if r.index = 0x1022 then s.keyWrite (pathOf who) (r.sub - 1) (leVal data)
    else s.writeElems r 0 (elemsOf r.bytes r.count data)

/-- The segment prefix. -/
def segPrefix (total snapId : Nat) (snap : Bool) : List Nat := leBytes 8 (at_ 32 32 total + at_ 16 16 snapId + b2n snap)

/-- Take a snapshot, the newest of at most 4; the least recently read goes (R584). -/
def State.takeSnap (s : State) (who : Nat) (r : ObjRow) : State × Snapshot :=
  let id := s.mgmt.nextSnap + 1
  let n : Snapshot := { id := id.toNat, readAt := s.pwr.uptime, owner := who, index := r.index, sub := r.sub, bytes := s.objBytes r }
  ({ s with mgmt := { s.mgmt with nextSnap := id, snaps := (n :: s.mgmt.snaps).take 4 } }, n)

/-- Ids of snapshots count up modulo 2^16: the newest of two is the one taken fewer steps before the next. -/
def State.snapAge (s : State) (x : Snapshot) : Nat := (s.mgmt.nextSnap.toNat + 65536 - x.id) % 65536

/-- The newest snapshot of an object that a requester took, if it has been read within the last 2 s. -/
def State.snapOf (s : State) (who : Nat) (r : ObjRow) : Option Snapshot :=
  let mine := s.mgmt.snaps.filter (fun x => x.owner == who && x.index == r.index && x.sub == r.sub)
  match mine.foldl (fun (b : Option Snapshot) x => match b with
      | none => some x
      | some y => if s.snapAge x < s.snapAge y then some x else b) none with
  | some x => if s.pwr.uptime ≤ x.readAt + 2000000000 then some x else none
  | none => none

/-- Mark a snapshot read now. -/
def State.touchSnap (s : State) (x : Snapshot) : State :=
  { s with mgmt := { s.mgmt with snaps := { x with readAt := s.pwr.uptime } :: s.mgmt.snaps.filter (fun y => y.id != x.id) } }

/-- GET_SEG: a snapshot at offset 0 of a BLOB of at most 1 MiB, the newest one at another offset, live above 1 MiB. -/
def State.dfGetSeg (s : State) (priv who index sub off len room : Nat) : State × DfResult × List Nat :=
  match objRow? index sub with
  | none => (s, .noObject, [])
  | some r =>
    let total := s.rowSize r
    if r.acc = 3 then (s, .access, [])
    else if priv < r.readPriv then (s, .privilege, [])
    else if r.ty ≠ 9 ∧ r.ty ≠ 10 then (s, .type, [])
    else if room < pad4 (8 + len) then (s, .tooBig, [])
    else if off % r.bytes ≠ 0 ∨ len % r.bytes ≠ 0 then (s, .segment, [])
    else if 2 ^ 20 < total then
      if total < off + len then (s, .segment, [])
      else (s, .ok, segPrefix total 0 false ++ maskVf who r off (s.elemBytes r (off / r.bytes) (len / r.bytes)))
    else
      let cut (s1 : State) (x : Snapshot) : State × DfResult × List Nat :=
        if x.bytes.length < off + len then (s1, .segment, [])
        else (s1, .ok, segPrefix x.bytes.length x.id true ++ maskVf who r off ((x.bytes.drop off).take len))
      if off = 0 ∧ total < len then (s, .segment, [])
      else if off = 0 then
        let t := s.takeSnap who r
        cut t.1 t.2
      else match s.snapOf who r with
        | none => (s, .segment, [])
        | some x => cut (s.touchSnap x) x

/-- SET_SEG of whole elements. A VF writes its own context's entries at OPERATE (R564). -/
def State.dfSetSeg (s : State) (priv who index sub ty off : Nat) (data : List Nat) : State × DfResult :=
  match objRow? index sub with
  | none => (s, .noObject)
  | some r =>
    let first := off / r.bytes
    let n := data.length / r.bytes
    let own := match vfOf who with
      | none => false
      | some c => decide (0 < n) && (List.range n).all (fun i => elemCtx r.index r.sub (first + i) == some c)
    if r.acc < 2 ∨ r.ty ≠ 9 then (s, .access)
    else if (if own then max priv 1 else priv) < r.priv then (s, .privilege)
    else if ty ≠ r.ty then (s, .type)
    else if off % r.bytes ≠ 0 ∨ data.length % r.bytes ≠ 0 ∨ s.rowSize r < off + data.length then (s, .segment)
    else s.writeElems r first (elemsOf r.bytes n data)

/-- DESCRIBE: size, element size, TYPE, access and privilege. -/
def State.dfDescribe (s : State) (index sub : Nat) : DfResult × List Nat :=
  match objRow? index sub with
  | none => (.noObject, [])
  | some r =>
    (.ok, leBytes 8 (at_ 32 32 (s.rowSize r) + at_ 16 16 (if r.ty = 9 ∧ r.count ≠ 1 then r.bytes else 0) + at_ 8 8 r.ty
      + at_ 4 4 r.acc + at_ 0 2 r.priv))

-- ---------------------------------------------------------------- the commands

/-- Answer one operation, where the controller runs. -/
def State.dfAnswer (s : State) (o : State × DfResult × List Nat) : Out :=
  if s.ctrlRuns then .next (o.1.emit (.dfAnswer o.2.1.code o.2.2)) else .next s

/-- R580. -/
def execDfGet (priv who index sub : Nat) (s : State) : Out :=
  s.dfAnswer (s, s.dfGet priv who index sub (bodyMax who - 12))
/-- R580. -/
def execDfSet (priv who index sub ty : Nat) (data : List Nat) (s : State) : Out :=
  let o := s.dfSet priv who index sub ty data
  s.dfAnswer (o.1, o.2, [])
/-- R584. -/
def execDfGetSeg (priv who index sub off len : Nat) (s : State) : Out :=
  s.dfAnswer (s.dfGetSeg priv who index sub off len (bodyMax who - 12))
/-- R584. -/
def execDfSetSeg (priv who index sub ty off : Nat) (data : List Nat) (s : State) : Out :=
  let o := s.dfSetSeg priv who index sub ty off data
  s.dfAnswer (o.1, o.2, [])
/-- R580; DESCRIBE needs VIEW, which every requester has (R590). -/
def execDfDescribe (_priv index sub : Nat) (s : State) : Out := s.dfAnswer (s, s.dfDescribe index sub)

/-- R585. -/
def execDfKeyWrite (path slot : Nat) (data : List Nat) (s : State) : Out :=
  if !s.ctrlRuns ∨ 8 ≤ slot ∨ data.length ≠ 40 then .next s else .next (s.keyWrite path slot (leVal data)).1

/-- R592. -/
def execOdRestoreDefaults (value : Nat) (s : State) : Out :=
  if s.ctrlRuns ∧ elemOk 0x1024 0 0 value then .next (s.applyElem 0x1024 0 0 value).1 else .next s

/-- R592. The RWP writes accepted and not yet stored go to flash. -/
def execPersistStore (s : State) : Out := if s.ctrlRuns then .next s.storeRwp else .next s

end Sys2Proof.Machine
end

