-- ==== Sys2Proof/Machine/Mgmt.lean ====
section
/-! DEFINITION. The tray segment, the Dielfen message and the rules by which one is accepted and executed (R573 to R589, R564). -/

namespace Sys2Proof.Machine

-- ---------------------------------------------------------------- the message (R577 to R579)

/-- An operation record of a request. -/
structure DfRec where
  op : Nat
  result : Nat
  ty : Nat
  index : Nat
  sub : Nat
  len : Nat
  off : Nat
  data : List Nat
  deriving DecidableEq, Repr

/-- A header's fields. -/
def dfMagic (h : Nat) : Nat := fld h 0 16
def dfVersion (h : Nat) : Nat := fld h 16 8
def dfResp (h : Nat) : Bool := bitOf h 24
def dfAuth (h : Nat) : Bool := bitOf h 25
def dfTid (h : Nat) : Nat := fld h 32 16
def dfBodyLen (h : Nat) : Nat := fld h 48 16
def dfNOps (h : Nat) : Nat := fld h 64 8
def dfSlot (h : Nat) : Nat := fld h 72 4
def dfReplay (h : Nat) : Nat := fld h 128 64

/-- The header of a message. -/
def dfHeader (bs : List Nat) : Nat := leVal (bs.take 24)

/-- MAGIC and VERSION as given, and a request (R577, R586 row 1). -/
def dfMarked (bs : List Nat) : Bool :=
  let h := dfHeader bs
  decide (24 ≤ bs.length) && dfMagic h == 0xD1F0 && dfVersion h == 1 && !dfResp h

/-- Split a body into its records, none unless they fill it exactly, padding zero (R578). -/
def parseRecs : Nat → List Nat → Option (List DfRec)
  | 0, [] => some []
  | 0, _ :: _ => none
  | n + 1, bs =>
    let h := leVal (bs.take 12)
    let op := fld h 0 8
    let len := fld h 48 16
    let k := if op = 2 ∨ op = 4 then len else 0
    let rest := bs.drop 12
    if bs.length < 12 ∨ rest.length < pad4 k ∨ (((rest.take (pad4 k)).drop k).any (fun b => b != 0)) then none
    else match parseRecs n (rest.drop (pad4 k)) with
      | none => none
      | some rs => some ({ op := op, result := fld h 8 8, ty := fld h 16 8, index := fld h 24 16, sub := fld h 40 8, len := len
                           off := fld h 64 32, data := rest.take k } :: rs)

/-- The records of a request that keeps R577 and R578, with at most `maxBody` bytes of body. -/
def parseMsg (maxBody : Nat) (bs : List Nat) : Option (List DfRec) :=
  let h := dfHeader bs
  if !dfMarked bs || fld h 26 6 != 0 || fld h 76 4 != 0 || fld h 80 8 != 0 || fld h 88 40 != 0 then none
  else if !(decide (1 ≤ dfNOps h) && decide (dfNOps h ≤ 32) && decide (dfBodyLen h ≤ maxBody)) then none
  else if !dfAuth h && (dfSlot h != 0 || dfReplay h != 0) then none
  else if bs.length < 24 + dfBodyLen h then none
  else parseRecs (dfNOps h) ((bs.drop 24).take (dfBodyLen h))

/-- Whether a record keeps R579: a known OP, and zero in the fields that a request of that OP writes as 0. -/
def DfRec.ok (r : DfRec) : Bool :=
  decide (1 ≤ r.op) && decide (r.op ≤ 5) && r.result == 0 && (r.op == 3 || r.op == 4 || r.off == 0)
    && (r.op == 2 || r.op == 4 || r.ty == 0) && (r.op == 2 || r.op == 3 || r.op == 4 || r.len == 0)

-- ---------------------------------------------------------------- executing a message (R582, R583)

/-- Execute one record, with room for so many bytes of data. -/
def State.execRec (s : State) (priv who room : Nat) (r : DfRec) : State × DfResult × List Nat :=
  if !r.ok then (s, .malformed, [])
  else match r.op with
    | 1 => (s, s.dfGet priv who r.index r.sub room)
    | 2 =>
      let o := s.dfSet priv who r.index r.sub r.ty r.data
      (o.1, o.2, [])
    | 3 => s.dfGetSeg priv who r.index r.sub r.off r.len room
    | 4 =>
      let o := s.dfSetSeg priv who r.index r.sub r.ty r.off r.data
      (o.1, o.2, [])
    | _ =>
      let o := s.dfDescribe r.index r.sub
      if room < pad4 o.2.length then (s, .tooBig, []) else (s, o)

/-- A response record. -/
def respRec (r : DfRec) (res : DfResult) (data : List Nat) : List Nat :=
  let ty := match objRow? r.index r.sub with
    | some o => o.ty
    | none => 0
  leBytes 12 (at_ 64 32 r.off + at_ 48 16 data.length + at_ 40 8 r.sub + at_ 24 16 r.index + at_ 16 8 ty + at_ 8 8 res.code + at_ 0 8 r.op)
  ++ data ++ List.replicate (pad4 data.length - data.length) 0

/-- Execute records in order, and put together the response's body. -/
def State.execRecs (s : State) (priv who : Nat) : Nat → List DfRec → State × List Nat
  | _, [] => (s, [])
  | room, r :: rs =>
    let o := s.execRec priv who room r
    let rest := o.1.execRecs priv who (room - pad4 o.2.2.length) rs
    (rest.1, respRec r o.2.1 o.2.2 ++ rest.2)

/-- A response's header and body; `auth` says that it will carry a tag, which no mailbox response does (R564, R577). -/
def respMsg (h : Nat) (auth : Bool) (res : DfResult) (nOps : Nat) (body : List Nat) : List Nat :=
  leBytes 24 (at_ 0 16 0xD1F0 + at_ 16 8 1 + at_ 24 1 1 + at_ 25 1 (b2n auth) + at_ 32 16 (dfTid h) + at_ 48 16 body.length
    + at_ 64 8 nOps + at_ 72 4 (if auth then dfSlot h else 0) + at_ 80 8 res.code + at_ 128 64 (if auth then dfReplay h else 0)) ++ body

-- ---------------------------------------------------------------- the segment (R576, R585 to R588)

/-- A station address as its six bytes stand in a frame, the most significant first. -/
def macBytes (m : Nat) : List Nat := Sha.beBytes 6 m

/-- The tag of R587. -/
def KeySlot.tag (k : KeySlot) (dest src : Nat) (msg : List Nat) : List Nat := (k.hmac (macBytes dest ++ macBytes src ++ msg)).take 16

def State.updKey (s : State) (slot : Nat) (f : KeySlot → KeySlot) : State :=
  { s with mgmt := { s.mgmt with keys := SMap.set {} s.mgmt.keys slot (f (s.key slot)) } }

/-- Send a frame that answers a request (R576). -/
def State.sendT1s (s : State) (dest : Nat) (payload : List Nat) : State := (s.count 0x8100 2 0 1).emit (.t1s dest payload)

/-- Answer a segment message, tagged if it was authenticated, and keep the response in the slot's cache (R587, R588). -/
def State.answerT1s (s : State) (m : Message) (resp : List Nat) : State :=
  if m.auth then
    let k := s.key m.slot
    let full := resp ++ k.tag m.srcMac s.factory.mac resp
    let h := dfHeader m.bytes
    let c : Cached := {
      replay := dfReplay h, tid := dfTid h, tag := leVal ((m.bytes.drop (24 + dfBodyLen h)).take 16), resp := full, sentAt := s.pwr.uptime }
    (s.updKey m.slot (fun k => { k with cache := (c :: k.cache).take 8 })).sendT1s m.srcMac full
  else s.sendT1s m.srcMac resp

/-- Answer a mailbox request: the response buffer, RESP_LEN, DONE and vector 2 (R563, R564). -/
def State.answerMailbox (s : State) (m : Message) (resp : List Nat) : State :=
  if !(s.fn m.port m.fn).busy then s
  else
    let s1 := s.updFn m.port m.fn (fun g => { g with busy := false, done := true, result := 0, respLen := resp.length, resp := SMap.ofList 0 0 resp })
    s1.signal m.port m.fn 2 0

def State.answerMsg (s : State) (m : Message) (resp : List Nat) : State :=
  if m.path = 0 then s.answerT1s m resp else s.answerMailbox m resp

/-- The requester of a message. -/
def Message.who (m : Message) : Nat := if m.path = 1 then 16 + 16 * m.port + m.fn else if m.auth then m.slot else 9

/-- The privilege at which a message runs (R564, R586, R590). -/
def State.msgPriv (s : State) (m : Message) : Nat :=
  if m.path = 1 then (if m.fn = 0 then s.obj 0x1012 0 0 else 0) else m.priv

/-- Whether a mailbox request is its message alone, without a tag (R564, R590). -/
def mailboxForm (bs : List Nat) : Bool := !dfAuth (dfHeader bs) && bs.length == 24 + dfBodyLen (dfHeader bs)

/-- Execute one message and answer it. -/
def State.runMsg (s : State) (m : Message) : State :=
  let h := dfHeader m.bytes
  let rs := if m.path = 1 ∧ !mailboxForm m.bytes then none else parseMsg (if m.path = 0 then 1460 else 4072) m.bytes
  match rs with
  | none => (s.count 0x8100 0x0B 0 1).answerMsg m (respMsg h m.auth .malformed 0 [])
  | some rs =>
    let max := if m.path = 0 then 1460 else 8168
    let o := s.execRecs (s.msgPriv m) m.who (max - 12 * rs.length) rs
    o.1.answerMsg m (respMsg h m.auth .ok rs.length o.2)

/-- The message to execute next: the oldest, but that an authenticated segment message goes before unauthenticated ones. -/
def pickMsg (q : List Message) : Option Message :=
  match q with
  | [] => none
  | m :: _ =>
    if m.path = 0 ∧ !m.auth then
      match q.find? (fun x => x.path == 0 && x.auth) with
      | some x => some x
      | none => some m
    else some m

/-- R583. The controller executes one queued message. -/
def State.serveMsg (s : State) : State :=
  match pickMsg s.mgmt.queue with
  | none => s
  | some m => ({ s with mgmt := { s.mgmt with queue := s.mgmt.queue.erase m } } : State).runMsg m

def execDielfenMessage (s : State) : Out := if s.ctrlRuns then .next s.serveMsg else .next s

/-- Whether the controller's queue is full (R583). -/
def State.queueFull (s : State) : Bool := decide (8 ≤ s.mgmt.queue.length)

/-- Queue a segment message, or answer it BUSY. -/
def State.acceptMsg (s : State) (m : Message) : State :=
  if s.queueFull then (s.count 0x8100 0x0C 0 1).answerMsg m (respMsg (dfHeader m.bytes) m.auth .busy 0 [])
  else { s with mgmt := { s.mgmt with queue := s.mgmt.queue ++ [m] } }

/-- Public objects (R591). -/
def isPublic (index sub : Nat) : Bool :=
  decide (0x1000 ≤ index) && decide (index ≤ 0x100F) && (match objRow? index sub with
    | some r => decide (r.acc < 2) && r.priv == 0
    | none => false)

/-- Whether a request without a tag asks only for GET or DESCRIBE of public objects. -/
def publicOnly (bs : List Nat) : Bool :=
  match parseMsg 1460 bs with
  | none => false
  | some rs => rs.all (fun r => r.ok && (r.op == 1 || r.op == 5) && isPublic r.index r.sub)

/-- How long a response stays in a slot's cache (R588), in ns. -/
def State.cacheNs (s : State) : Nat := (s.obj 0x1021 1 0 * s.obj 0x1021 2 0 + 20) * 1000000

/-- Unauthenticated frames already executed in this second of controller uptime. -/
def State.unauthNow (s : State) : Nat :=
  if s.pwr.uptime / 1000000000 = s.mgmt.unauthSecond then s.mgmt.unauthCount else 0

/-- REPLAY accepted on a slot: the highest, stored in flash each time it passes the stored value by 32,768 (R588). -/
def KeySlot.accept (k : KeySlot) (replay : Nat) : KeySlot :=
  { k with highest := replay, stored := if k.stored + 32768 ≤ replay then replay else k.stored }

/-- Rows 2 to 8 of R586, for a frame whose header is marked as a request. -/
def State.judgeFrame (s : State) (dest src : Nat) (bs : List Nat) : State :=
  let h := dfHeader bs
  let msg := bs.take (24 + dfBodyLen h)
  let base : Message := { srcMac := src, bytes := bs.take (24 + dfBodyLen h + 16) }
  if !dfAuth h then
    if !publicOnly bs ∨ s.obj 0x1021 3 0 ≤ s.unauthNow then s.count 0x8100 0x0A 0 1
    else
      let s1 : State := { s with mgmt := { s.mgmt with unauthCount := s.unauthNow + 1, unauthSecond := s.pwr.uptime / 1000000000 } }
      s1.acceptMsg { base with bytes := msg }
  else
    let slot := dfSlot h
    let k := s.key slot
    if dest = 2 ^ 48 - 1 ∨ 8 ≤ slot ∨ !k.enable ∨ (k.macBound ∧ k.mac ≠ src) then s.count 0x8100 6 0 1
    else
      let tag := (bs.drop (24 + dfBodyLen h)).take 16
      if tag ≠ k.tag dest src msg then s.count 0x8100 7 0 1
      else match k.cache.find? (fun c => c.replay == dfReplay h && c.tid == dfTid h && c.tag == leVal tag
          && decide (s.pwr.uptime ≤ c.sentAt + s.cacheNs)) with
        | some c => (s.count 0x8100 8 0 1).sendT1s src c.resp
        | none =>
          if dfReplay h ≤ k.highest ∨ dfReplay h < k.floor then s.count 0x8100 9 0 1
          else (s.updKey slot (fun k => k.accept (dfReplay h))).acceptMsg { base with auth := true, slot := slot, priv := k.priv }

/-- What the module's PLCA runs with (R573): its node ID, the node count as coordinator, which only ID 0 is, the burst count and the
transmit-opportunity timer. -/
def State.plcaSetup (s : State) : Nat × Option Nat × Nat × Nat :=
  (s.mgmt.nodeId, if s.mgmt.nodeId = 0 then some (s.obj 0x1020 2 0) else none, s.obj 0x1020 3 0, s.obj 0x1020 4 0)

/-- R576, R586. A frame arrives on the segment; one of more than 1,518 bytes, FCS included, is none. -/
def execT1sFrameRx (dest src etype : Nat) (payload : List Nat) (fcsOk vlan : Bool) (s : State) : Out :=
  if !s.ctrlRuns ∨ 1500 < payload.length ∨ etype ≠ 0x88B5 ∨ vlan ∨ (dest ≠ s.factory.mac ∧ dest ≠ 2 ^ 48 - 1) then .next s
  else if !fcsOk then .next (s.count 0x8100 3 0 1)
  else
    let s1 := s.count 0x8100 1 0 1
    if !dfMarked payload then .next (s1.count 0x8100 0x0B 0 1) else .next (s1.judgeFrame dest src payload)

-- ---------------------------------------------------------------- the mailbox (R564)

/-- A write of MB_CTRL. GO while BUSY is ignored; an empty request is MALFORMED and one over 4,096 bytes TOO_LONG at once. -/
def State.writeMbCtrl (s : State) (port fn v : Nat) : State :=
  let g := s.fn port fn
  let len := fld v 0 13
  if !bitOf v 31 then s.updFn port fn (fun g => { g with reqLen := len })
  else if g.busy then s
  else if len = 0 ∨ 4096 < len then
    (s.updFn port fn (fun g => { g with reqLen := len, done := true, result := if len = 0 then 1 else 2, respLen := 0 })).signal port fn 2 0
  else
    let s1 := s.updFn port fn (fun g => { g with reqLen := len, busy := true })
    let m : Message := { path := 1, port := port, fn := fn, bytes := SMap.toList 0 g.req 0 len }
    { s1 with mgmt := { s1.mgmt with queue := s1.mgmt.queue ++ [m] } }

/-- Whether a function answers at its BARs: fitted, linked up, existing, carrying its context, not in D3hot. -/
def State.barOk (s : State) (port fn : Nat) : Bool :=
  s.hostFitted port && s.hostUp port && decide (fn < 16) && s.fnExists port fn && s.carries port fn && !(s.fn port fn).d3hot

/-- R564. A write of MB_CTRL with GO. -/
def execMailboxGo (port fn value : Nat) (s : State) : Out :=
  if s.ctrlRuns && s.barOk port fn then .next (s.writeMbCtrl port fn value) else .next s

-- ---------------------------------------------------------------- the segment's own events (R574, R575)

/-- R574. A node ID written takes effect, 10 ms after the write. -/
def execT1sNodeIdApply (s : State) : Out :=
  match s.mgmt.newNodeId with
  | none => .next s
  | some v => if s.pwr.uptime < s.mgmt.newNodeAt + 10000000 then .next s else .next { s with mgmt := { s.mgmt with
      newNodeId := none, newNodeAt := 0, nodeId := if v < 32 then v else s.mgmt.straps, strapped := decide (32 ≤ v) } }

/-- Whether the port uses PLCA now. -/
def State.plca (s : State) : Bool := s.obj 0x1020 5 0 == 0 && !s.mgmt.csma

/-- R575. -/
def execPlcaFallback (s : State) : Out :=
  if s.ctrlRuns && s.plca then .next (({ s with mgmt := { s.mgmt with csma := true } } : State).count 0x8100 5 0 1) else .next s
/-- R575. -/
def execPlcaResume (s : State) : Out :=
  if s.ctrlRuns && s.obj 0x1020 5 0 == 0 then .next { s with mgmt := { s.mgmt with csma := false } } else .next s

/-- R575. A collision: counted under CSMA/CD, or in the module's own opportunity; 16 of the latter within 1 s are a clash. -/
def execT1sCollision (own : Bool) (s : State) : Out :=
  if !s.ctrlRuns ∨ (s.plca ∧ !own) then .next s
  else
    let s1 := s.count 0x8100 4 0 1
    if !s.plca then .next s1
    else
      let cs := s.pwr.uptime :: s.mgmt.collisions.filter (fun t => decide (s.pwr.uptime < t + 1000000000))
      .next { s1 with mgmt := { s1.mgmt with collisions := cs.take 16, clash := s1.mgmt.clash || decide (16 ≤ cs.length) } }

/-- R575. 10 s have passed without a collision in the module's own opportunity. -/
def execNodeClashClear (s : State) : Out :=
  if s.mgmt.collisions.any (fun t => decide (s.pwr.uptime < t + 10000000000)) then .next s
  else .next { s with mgmt := { s.mgmt with clash := false, collisions := [] } }

end Sys2Proof.Machine
end

