-- ==== Sys2Proof/Machine/Monitor.lean ====
section
/-! DEFINITION. The serial monitor (chapter Serial monitor, R607 to R620). A command is a whole line; what it prints is one
output of the console, its last lines the status and the prompt. -/

namespace Sys2Proof.Machine

-- ---------------------------------------------------------------- printing (R10, R611, R617)

/-- Upper-case hexadecimal digits of a number, least significant first, `n` of them. -/
def hexDigits : Nat → Nat → List Char
  | 0, _ => []
  | n + 1, v => Char.ofNat (if v % 16 < 10 then 48 + v % 16 else 55 + v % 16) :: hexDigits n (v / 16)

/-- An underscore after every four digits, counted from the right. -/
def grouped : Nat → List Char → List Char
  | _, [] => []
  | 0, c :: cs => c :: grouped 1 cs
  | n + 1, c :: cs => if (n + 1) % 4 = 0 then '_' :: c :: grouped (n + 2) cs else c :: grouped (n + 2) cs

/-- A number as `n` hexadecimal digits (R10). -/
def hexN (n v : Nat) : String := "0x" ++ String.ofList (grouped 0 (hexDigits n v)).reverse

/-- Digits without prefix or separators. -/
def hexRaw (n v : Nat) : String := String.ofList (hexDigits n v).reverse

/-- Bytes of a dump. -/
def dumpBytes (bs : List Nat) : String := String.intercalate " " (bs.map (hexRaw 2))

/-- Lines of 16 bytes headed by their offset; `mark` says which lines end with P. -/
def dumpLines (off : Nat) (mark : Nat → Bool) : Nat → List Nat → List String
  | 0, _ => []
  | _, [] => []
  | n + 1, b :: bs =>
    (hexN 8 off ++ "  " ++ dumpBytes ((b :: bs).take 16) ++ (if mark off then "  P" else "")) :: dumpLines (off + 16) mark n ((b :: bs).drop 16)

/-- An F32 value in decimal, six digits after the point, from its bits. -/
def f32Dec (v : Nat) : String :=
  let e := fld v 23 8
  let m := fld v 0 23 + (if e = 0 then 0 else 2 ^ 23)
  let sign := if bitOf v 31 then "-" else ""
  if e = 255 then (if fld v 0 23 = 0 then sign ++ "inf" else "nan")
  else
    let k := if e = 0 then 1 else e
    let micro := if 150 ≤ k then m * 2 ^ (k - 150) * 1000000 else (m * 1000000 + 2 ^ (149 - k)) / 2 ^ (150 - k)
    let f := dec (micro % 1000000)
    sign ++ dec (micro / 1000000) ++ "." ++ String.ofList (List.replicate (6 - f.length) '0') ++ f

/-- A text of bytes. -/
def textOf (bs : List Nat) : String := String.ofList (bs.map Char.ofNat)

def typeName (ty : Nat) : String :=
  match ty with
  | 1 => "BOOL" | 2 => "U8" | 3 => "U16" | 4 => "U32" | 5 => "U64" | 6 => "I32" | 7 => "F32" | 8 => "STR" | 9 => "BLOB" | _ => "REC"

def accName (a : Nat) : String := match a with | 0 => "CONST" | 1 => "RO" | 2 => "RW" | 3 => "WO" | _ => "RWP"
def privName (p : Nat) : String := match p with | 0 => "VIEW" | 1 => "OPERATE" | _ => "ADMIN"

/-- An object as it is cited (R19). -/
def objCite (index sub : Nat) : String :=
  "0x" ++ hexRaw 4 index ++ ":" ++ hexRaw 2 sub ++ (match objRow? index sub with | some r => " " ++ r.name | none => "")

/-- Results of R582 and the monitor's own (R610). -/
inductive MonErr where
  | df (r : DfResult)
  | badForm | unknown | locked | overrun | denied
  | refused (word : String)
  deriving DecidableEq, Repr

def DfResult.name : DfResult → String
  | .ok => "OK" | .noObject => "NO_OBJECT" | .access => "ACCESS" | .privilege => "PRIVILEGE" | .type => "TYPE" | .range => "RANGE"
  | .notApplied => "NOT_APPLIED" | .tooBig => "TOO_BIG" | .segment => "SEGMENT" | .busy => "BUSY" | .malformed => "MALFORMED"

def MonErr.text : MonErr → String
  | .df r => r.name | .badForm => "SYNTAX" | .unknown => "UNKNOWN" | .locked => "LOCKED" | .overrun => "OVERRUN" | .denied => "DENIED"
  | .refused w => "REFUSED " ++ w

/-- The prompt (R610). -/
def State.prompt (s : State) : String :=
  match s.mon.state with
  | 0 => "lmx-L>" | 1 => "lmx-V>" | 2 => "lmx-O>" | _ => "lmx-A>"

/-- End a command: its lines, the status line, the prompt. -/
def State.monDone (s : State) (lines : List String) (err : Option MonErr) : Out :=
  .next (s.emit (.console (lines ++ [match err with | none => "ok" | some e => "err " ++ e.text, s.prompt])))

def State.monOk (s : State) (lines : List String) : Out := s.monDone lines none
def State.monErr (s : State) (e : MonErr) : Out := s.monDone [] (some e)

-- ---------------------------------------------------------------- locking and login (R612 to R615)

/-- Lock: the session and its trace end. -/
def State.lock (s : State) : State :=
  { s with mon := { s.mon with state := 0, slot := none, challenge := none, trace := 0 } }

/-- A failed login: counted; five within 60 s stop challenges for 60 s (R612, R614). -/
def State.loginFailed (s : State) : State :=
  let now := s.pwr.uptime
  let fs := now :: s.mon.fails.filter (fun t => decide (now < t + 60000000000))
  let s1 := s.count 0x8100 0x0E 0 1
  { s1 with mon := { s1.mon with
      challenge := none, fails := fs.take 5
      blockedUntil := if 5 ≤ fs.length then now + 60000000000 else s1.mon.blockedUntil } }

def State.loginDenied (s : State) : Out := s.loginFailed.monErr .denied

/-- Read a line: nothing while no controller runs; after a challenge any line is the response (R612), and one that no login
response spells is denied; else the command. -/
def State.monLine (s : State) (f : State → Out) : Out :=
  if !s.pwr.ctrlOn then .next s else if s.mon.challenge.isSome then s.loginDenied else f s

/-- Run a command that needs a privilege (0 VIEW, 1 OPERATE, 2 ADMIN): LOCKED while locked, PRIVILEGE below it (R616).
`rom` says that the boot ROM's monitor accepts it too (R620). -/
def State.monPriv (s : State) (least : Nat) (rom : Bool) (f : State → Out) : Out :=
  s.monLine (fun s =>
    if s.mon.state = 0 then s.monErr .locked
    else if s.mon.state < least + 1 ∨ (s.pwr.romOnly ∧ !rom) then s.monErr (.df .privilege)
    else f s)

/-- Execute the queued messages ahead of the monitor's own (R583). -/
def State.drainQueue : Nat → State → State
  | 0, s => s
  | n + 1, s => State.drainQueue n s.serveMsg

/-- Run a command that reads objects in a form of its own: at a privilege, through the controller's queue (R617). -/
def State.monObj (s : State) (least : Nat) (f : State → Out) : Out :=
  s.monPriv least false (fun s =>
    if s.queueFull then (s.count 0x8100 0x0C 0 1).monErr (.df .busy) else f (s.drainQueue s.mgmt.queue.length))

/-- Send a Dielfen message for the session (R617): BUSY while the queue is full, else in its turn. -/
def State.monMsg (s : State) (f : State → Nat → Out) : Out :=
  s.monLine (fun s =>
    if s.mon.state = 0 then s.monErr .locked
    else if s.pwr.romOnly then s.monErr (.df .privilege)
    else if s.queueFull then (s.count 0x8100 0x0C 0 1).monErr (.df .busy)
    else f (s.drainQueue s.mgmt.queue.length) (s.mon.state - 1))

def State.anyKey (s : State) : Bool := s.mgmt.keys.any (fun e => e.2.enable)

/-- R612 to R614. login. -/
def execMonLogin (slot : Option Nat) (s : State) : Out :=
  s.monLine (fun s =>
    if s.pwr.uptime < s.mon.blockedUntil then s.loginDenied
    else match slot with
      | none =>
        if s.anyKey then s.monErr .badForm
        else ({ s with mon := { s.mon with state := 3, slot := none } } : State).monOk ["no keys: setup login"]
      | some k =>
        if 8 ≤ k then s.monErr .badForm
        else
          let c := Config.challenge s.free % 2 ^ 64
          .next (({ s.takeFree 1 with mon := { s.mon with challenge := some (c, k), challengeAt := s.pwr.uptime } } : State).emit
            (.console [hexRaw 4 (fld c 48 16) ++ " " ++ hexRaw 4 (fld c 32 16) ++ " " ++ hexRaw 4 (fld c 16 16) ++ " " ++ hexRaw 4 (fld c 0 16)])))

/-- The response that a challenge asks for (R612). -/
def State.loginAnswer (s : State) (challenge slot : Nat) : List Nat :=
  ((s.key slot).hmac ([77, 79, 78, 76, 79, 71, 73, 78] ++ Sha.beBytes 8 challenge ++ s.factory.serial)).take 8

/-- R612. The line after a challenge, as its 16 hexadecimal digits read. -/
def execMonLoginResponse (response : Nat) (s : State) : Out :=
  match s.mon.challenge with
  | none => .next s
  | some (c, k) =>
    if s.pwr.uptime ≤ s.mon.challengeAt + 60000000000 ∧ (s.key k).enable ∧ Sha.beBytes 8 response = s.loginAnswer c k ∧ response < 2 ^ 64 then
      ({ s with mon := { s.mon with state := (s.key k).priv + 1, slot := some k, challenge := none } } : State).monOk []
    else s.loginDenied

/-- R615. lock. -/
def execMonLock (s : State) : Out := s.monLine (fun s => s.lock.monOk [])

/-- R615. MON_LOCK_S seconds have passed without a received character. -/
def execMonLockTimeout (s : State) : Out :=
  if s.obj 0x1030 2 0 = 0 ∨ !s.pwr.ctrlOn then .next s else .next s.lock

/-- R608. A break. -/
def execMonBreak (s : State) : Out :=
  if !s.pwr.ctrlOn then .next s else .next { s.lock with mon := { s.lock.mon with baud := 115200 } }

/-- R609, R610. A line that no command's form admits (0), that names no command (1), or that overran (2). -/
def execMonLineError (kind : Nat) (s : State) : Out :=
  if kind = 2 then (if s.pwr.ctrlOn then s.monErr .overrun else .next s)
  else s.monLine (fun s => s.monErr (if kind = 0 then .badForm else .unknown))

/-- R609. Ctrl-C discards what has been typed of a line, which is no command yet: every command reaches the model as a whole
line and its listing is one output (log entry 33). -/
def execMonCtrlC (s : State) : Out := .next s

-- ---------------------------------------------------------------- help and identity (R616, R620)

/-- Commands with the least privilege (0 locked, then VIEW, OPERATE, ADMIN) and whether the boot ROM's monitor has them. -/
def monCommands : List (String × Nat × Bool) := [
  ("help", 0, true), ("id", 0, true), ("login", 0, true), ("lock", 0, true), ("log boot", 1, true), ("od get", 1, false),
  ("od set", 1, false), ("od desc", 1, false), ("bist", 1, false), ("ctx", 1, false), ("tile", 1, false), ("log", 2, false),
  ("bist fails", 2, false), ("trace", 2, false), ("ctx activate", 3, false), ("ctx reset", 3, false), ("ctx reset_keep", 3, false),
  ("peek", 3, false), ("poke", 3, false), ("reset warm", 3, false), ("reset module", 3, true)]

/-- The form of each command, by its row in the table of R616. -/
def monForms : List String := [
  "help [command]", "id", "login [slot]", "lock", "od get index:sub [offset length]", "od set index:sub value, or od set index:sub @offset hex-bytes",
  "od desc index:sub", "log [count], or log boot", "bist [fails]", "ctx [c], or ctx c activate, reset or reset_keep", "tile die.tile",
  "peek address [length]", "poke address value, or poke address hex-bytes",
  "reset warm keep, reset warm clear or reset module, each followed by the word now", "trace acc, trace ctx c, or trace off"]

/-- R616. help: the commands usable now, or the form of the command in a row of the table. -/
def execMonHelp (row : Option Nat) (s : State) : Out :=
  s.monLine (fun s => match row with
    | none => s.monOk ((monCommands.filter (fun c => decide (c.2.1 ≤ s.mon.state) && (!s.pwr.romOnly || c.2.2))).map (·.1))
    | some k => match monForms[k]? with
      | some form => s.monOk [form]
      | none => s.monErr .badForm)

/-- A name of MODULE_STATE (R533). -/
def ModSt.name : ModSt → String
  | .standby => "STANDBY" | .booting => "BOOTING" | .ready => "READY" | .warmReset => "WARM_RESET" | .sleep => "SLEEP" | .held => "HELD"
  | .thermalOff => "THERMAL_OFF"

/-- R616. id. -/
def execMonId (s : State) : Out :=
  s.monLine (fun s => s.monOk [
    "SERIAL_NUMBER \"" ++ textOf s.factory.serial ++ "\"",
    "ORDER_CODE \"" ++ textOf s.factory.orderCode ++ "\"",
    "GRADE " ++ textOf [s.factory.grade],
    "TILE_FW_VERSION " ++ hexN 8 (s.valComm 0x1006 0 0),
    "CTRL_FW_VERSION " ++ hexN 8 (s.valComm 0x1007 0 0),
    "IO_FW_VERSION " ++ hexN 8 (s.valComm 0x1009 0 0),
    "MGMT_MAC " ++ hexN 12 s.factory.mac,
    "MODULE_STATE " ++ s.pwr.st.name ++ " phase " ++ dec s.pwr.phase ++ " last fault " ++ hexN 2 s.flash.lastFault])

-- ---------------------------------------------------------------- objects (R617)

/-- The lines that print a value. -/
def valueLines (r : ObjRow) (off : Nat) (bs : List Nat) : List String :=
  let head := objCite r.index r.sub ++ " " ++ typeName r.ty
  match r.ty with
  | 7 => [head ++ " = " ++ f32Dec (leVal bs)]
  | 8 => [head ++ " = \"" ++ textOf bs ++ "\""]
  | 9 => head :: dumpLines off (fun _ => false) bs.length bs
  | 10 => head :: dumpLines off (fun _ => false) bs.length bs
  | 6 => [head ++ " = " ++ hexN 8 (leVal bs) ++ " (" ++ (if bitOf (leVal bs) 31 then "-" ++ dec (2 ^ 32 - leVal bs) else dec (leVal bs)) ++ ")"]
  | _ => [head ++ " = " ++ hexN (2 * r.bytes) (leVal bs) ++ " (" ++ dec (leVal bs) ++ ")"]

/-- R617. od get: a whole value, a BLOB or REC from one snapshot, or a range of one. -/
def execMonOdGet (index sub : Nat) (range : Option (Nat × Nat)) (s : State) : Out :=
  s.monMsg (fun s priv =>
    match objRow? index sub with
    | none => s.monErr (.df .noObject)
    | some r =>
      let big := s.rowSize r + 12
      match range with
      | some (off, len) =>
        let o := s.dfGetSeg priv 8 index sub off len (pad4 (8 + len))
        if o.2.1 = .ok then o.1.monOk (valueLines r off (o.2.2.drop 8)) else o.1.monErr (.df o.2.1)
      | none =>
        if r.ty = 9 ∨ r.ty = 10 then
          let o := s.dfGetSeg priv 8 index sub 0 (s.rowSize r) big
          if o.2.1 = .ok then o.1.monOk (valueLines r 0 (o.2.2.drop 8)) else o.1.monErr (.df o.2.1)
        else
          let o := s.dfGet priv 8 index sub big
          if o.1 = .ok then s.monOk (valueLines r 0 o.2) else s.monErr (.df o.1))

/-- R617. od set: a whole value, or bytes at an offset. -/
def execMonOdSet (index sub : Nat) (off : Option Nat) (data : List Nat) (s : State) : Out :=
  s.monMsg (fun s priv =>
    let ty := match objRow? index sub with
      | some r => r.ty
      | none => 0
    let o := match off with
      | none => s.dfSet priv 8 index sub ty data
      | some n => s.dfSetSeg priv 8 index sub ty n data
    if o.2 = .ok then o.1.monOk [] else o.1.monErr (.df o.2))

/-- R616. od desc. -/
def execMonOdDesc (index sub : Nat) (s : State) : Out :=
  s.monMsg (fun s _ =>
    match objRow? index sub with
    | none => s.monErr (.df .noObject)
    | some r => s.monOk [objCite index sub ++ " " ++ typeName r.ty ++ " size " ++ dec (s.rowSize r)
        ++ " element " ++ dec (if r.ty = 9 ∧ r.count ≠ 1 then r.bytes else 0) ++ " " ++ accName r.acc ++ " " ++ privName r.priv])

-- ---------------------------------------------------------------- logs (R616)

/-- A name of KIND (R500). -/
def accKindName (k : Nat) : String :=
  ["", "FLAG", "MARGIN_V", "MARGIN_F", "RETRAIN", "DEACCESSION", "REPLACEMENT", "NO_SPARE", "DEFERRED", "COMMON_CAUSE", "COMMON_CAUSE_END", "DIP",
   "SUPPLY_SUSPECT", "SUPPLY_CLEAR", "CONTAIN", "RETEST_PASS", "REACCESSION"].getD k ""

/-- A packed site as it is printed. -/
def siteText (p : Nat) : String := "(" ++ dec (fld p 8 8) ++ "," ++ dec (fld p 0 8) ++ ")"

/-- The unit of an accession record: a site or router by its place, another by its class and number. -/
def accUnit (r : Nat) : String :=
  let cls := fld r 83 4
  let p := fld r 63 16
  (if cls = 8 then "supply " ++ (if p = 0 then "VIN_CORE" else "VIN_IO") else "die " ++ dec (fld r 79 4)
    ++ (if cls = 9 then "" else if cls < 4 then " " ++ siteText p else " unit " ++ hexN 4 p))
  ++ (if cls = 0 ∨ cls = 8 ∨ cls = 9 then "" else "  class " ++ dec cls ++ "  subunit " ++ dec (fld r 59 4))

/-- An accession record decoded (R500, R616), in the layout of the chapter's example; a record of another kind than REPLACEMENT
with its time, ARG and scores besides (log entry 33). -/
def accLine (r : Nat) : String :=
  let kind := fld r 96 8
  "acc " ++ dec (fld r 224 32) ++ "  " ++ accKindName kind ++ "  " ++ accUnit r
  ++ (if kind = 6 then " -> " ++ siteText (fld r 144 16) else "")
  ++ (if fld r 87 9 = 0x1FF then "" else "  tile " ++ dec (fld r 87 9)) ++ "  cause " ++ hexN 2 (fld r 104 8)
  ++ (if kind = 6 then "" else "  arg " ++ hexN 4 (fld r 128 16) ++ "  score " ++ dec (fld r 112 8) ++ " -> " ++ dec (fld r 120 8)
    ++ "  time " ++ dec (fld r 160 64))
  ++ "  " ++ dec (fld r 16 16) ++ " us  ctx " ++ hexN 4 (fld r 32 16)
  ++ (if bitOf r 2 then "  hard" else "") ++ (if bitOf r 1 then "  rehearsal" else "")

/-- R616. log. -/
def execMonLog (count : Nat) (s : State) : Out :=
  s.monObj 1 (fun s => s.monOk ((s.cur.log.drop (s.cur.log.length - count)).map (fun r => accLine r.toNat)))

/-- A name of LAST_FAULT (R533). -/
def faultName (f : Nat) : String :=
  match f with
  | 0 => "none" | 1 => "SEQUENCE" | 2 => "OVERVOLTAGE" | 3 => "BROWNOUT_CORE" | 4 => "BROWNOUT_IO" | 5 => "ANA_LOSS" | 6 => "REG_FAIL"
  | 7 => "FIRMWARE" | 8 => "CATALOGUE" | _ => "THERMAL"

/-- R616. log boot: the phases of the last start-up, their times, and LAST_FAULT. -/
def execMonLogBoot (s : State) : Out :=
  s.monPriv 0 true (fun s => s.monOk (
    ((s.pwr.bootTimes.filter (fun e => e.1 != 0)).map (fun e =>
      "phase " ++ dec e.1 ++ "  " ++ dec (e.2 - SMap.get 0 s.pwr.bootTimes 0) ++ " ns")) ++ ["last fault " ++ faultName s.flash.lastFault]))

/-- R616. bist. -/
def execMonBist (s : State) : Out :=
  s.monObj 0 (fun s => s.monOk [
    "BIST_KIND " ++ dec s.test.bistKind, "BIST_DURATION_MS " ++ dec s.test.bistMs, "BIST_FAILED_UNITS " ++ dec s.test.bistFailed])

/-- R616. bist fails. -/
def execMonBistFails (s : State) : Out := s.monObj 1 (fun s => s.monOk (s.test.fails.map (fun f => hexN 32 f.toNat)))

-- ---------------------------------------------------------------- contexts and tiles (R616)

/-- A name of a context's STATE (R360). -/
def CtxSt.name : CtxSt → String
  | .inactive => "INACTIVE" | .active => "ACTIVE" | .fencing => "FENCING" | .draining => "DRAINING" | .sampling => "SAMPLING"
  | .clearing => "CLEARING" | .quiet => "QUIET"

def State.ctxLine (s : State) (c : Nat) : String :=
  let x := s.ctx c
  "ctx " ++ dec c ++ "  " ++ x.st.name ++ "  gen " ++ hexN 2 x.gen.toNat ++ "  cause " ++ dec x.lastCause.code ++ "  resets " ++ dec x.resets.toNat
  ++ "  level " ++ dec (s.levelInForce c) ++ "  seq " ++ hexN 16 (s.seqStatus c)

/-- R616. ctx. -/
def execMonCtx (c : Option Nat) (s : State) : Out :=
  s.monObj 0 (fun s =>
    match c with
    | none => s.monOk ((List.range 16).map s.ctxLine)
    | some k => if 16 ≤ k then s.monErr .badForm else s.monOk [s.ctxLine k])

/-- A command that writes CTX_CTRL of a context and prints CMD_STATUS (R367). -/
def State.monCtrl (s : State) (c cmd : Nat) : Out :=
  s.monPriv 2 false (fun s =>
    if 16 ≤ c then s.monErr .badForm
    else
      let s1 := s.writeCtrl c cmd
      s1.monOk ["CMD_STATUS " ++ dec (s1.ctx c).cmdStatus])

/-- R616. ctx c activate. -/
def execMonCtxActivate (c : Nat) (s : State) : Out := s.monCtrl c 1
/-- R616. ctx c reset. -/
def execMonCtxReset (c : Nat) (s : State) : Out := s.monCtrl c 2
/-- R616. ctx c reset_keep. -/
def execMonCtxResetKeep (c : Nat) (s : State) : Out := s.monCtrl c 3

def SlotSt.name : SlotSt → String
  | .empty => "EMPTY" | .loading => "LOADING" | .loaded => "LOADED" | .current => "CURRENT" | .finished => "FINISHED" | .halted => "HALTED"

/-- A frequency code as printed: 1.50 GHz and 50 MHz for each step (R86). -/
def freqText (code : Nat) : String :=
  let h := 150 + 5 * code
  dec (h / 100) ++ "." ++ dec (h / 10 % 10) ++ dec (h % 10) ++ " GHz"

def powerText (p : Nat) : String := match p with | 0 => "run" | 1 => "clock-gated" | 2 => "power-gated" | _ => "test"

/-- R616. tile: translation and site, ring class and exit stop, island, score, idle state, slots, last slice. -/
def execMonTile (die tile : Nat) (s : State) : Out :=
  s.monObj 0 (fun s =>
    if 2 ≤ die ∨ 288 ≤ tile then s.monErr .badForm
    else
      let t := s.tile die tile
      let slots := (List.range 4).map (fun k => "slot " ++ dec k ++ " " ++ (t.slot k).st.name
        ++ (if (t.slot k).st = .empty then "" else " ctx " ++ dec (t.slot k).ctx))
      let name := "tile " ++ dec die ++ "." ++ dec tile
      match s.siteOf die tile with
      | none => s.monOk [name ++ "  unmapped", String.intercalate "  " slots]
      | some i =>
        let x := s.site die i
        s.monOk [
          name ++ "  site (" ++ dec (siteCol i) ++ "," ++ dec (siteRow i) ++ ") mapped  ring " ++ dec (edgeDist i / 2) ++ "  exit stop " ++ dec (exitStop i),
          "island " ++ powerText (s.islandPower die i) ++ "  freq " ++ freqText (s.freqCode die i) ++ "  vstep " ++ dec x.vstep ++ "  fstep " ++ dec x.fstep
            ++ "  health " ++ dec (s.score (siteAddr die i)) ++ "  idle IS" ++ dec x.idle,
          String.intercalate "  " slots,
          "slice " ++ hexN 32 (s.sliceAt die i).last.toNat])

-- ---------------------------------------------------------------- peek and poke (R617)

/-- Why a peek or poke is refused: steps 1, 2 and 5 of R558. A tile under test answers as one in an idle state (log entry 33). -/
def State.peekRefused (s : State) (a n : Nat) : Option String :=
  if s.pwr.st ≠ .ready ∨ s.pwr.warm ≠ .none then some "NOT_READY"
  else if !s.present a n then some "ABSENT"
  else match place a with
    | .tileWin d t off => if s.idleOf d t = 3 ∨ (s.isolated d t ∧ off < 0x180000) then some "IDLE" else none
    | _ => none

/-- Refuse a peek or poke: one that a tile refuses counts as an access of the host path does, and asks a tile in IS3 for its wake
(R511, R549, R558). -/
def State.peekTurnAway (s : State) (a : Nat) (word : String) : Out :=
  let s1 := if word ≠ "IDLE" then s else match place a with
    | .tileWin d t _ => if s.idleOf d t = 3 then (s.count 0x80E0 9 0 1).askWake a else s.count 0x80D0 5 0 1
    | _ => s
  s1.monErr (.refused word)

/-- Whether a peek or poke waits at its target: a bank being zeroed (R203), HBM in an interval or pause (R568, R570). The command is
then the moment at which it reaches the target, and it is sent again (log entry 1). -/
def State.peekWaits (s : State) (a n : Nat) : Bool := s.zeroingAt a n || s.hbmPaused a n

/-- R617. peek, as context 0, on the host path through I/O die 0; what is lost on the weft reads poisoned (R246). -/
def execMonPeek (addr len : Nat) (s : State) : Out :=
  s.monPriv 2 false (fun s =>
    if len = 0 ∨ 256 < len then s.monErr .badForm
    else match s.peekRefused addr len with
      | some w => s.peekTurnAway addr w
      | none =>
        if s.peekWaits addr len then .next (s.hbmDelay 0 addr len)
        else
          let s1 := (s.wakeFor addr).gbWeftRange addr len false
          if s.wayLost (s.hostNode 0) addr then
            ((s1.count 0x8050 3 0 1).takeFree len).monOk (dumpLines addr (fun _ => true) len
              ((List.range len).map (fun i => (Config.freeByte (s.free + i)).toNat)))
          else s1.monOk (dumpLines addr (fun a => (s1.readAny 0 a (min 16 (addr + len - a))).2) len (s1.readAny 0 addr len).1))

/-- R617. poke, as context 0: up to 64 bytes; whether one that is lost on the weft has been performed is a free value (R246). -/
def execMonPoke (addr : Nat) (bytes : List Nat) (s : State) : Out :=
  s.monPriv 2 false (fun s =>
    if bytes.length = 0 ∨ 64 < bytes.length then s.monErr .badForm
    else match s.peekRefused addr bytes.length with
      | some w => s.peekTurnAway addr w
      | none =>
        if s.peekWaits addr bytes.length then .next (s.hbmDelay 0 addr bytes.length)
        else
          let lost := s.wayLost (s.hostNode 0) addr
          let s0 := s.wakeFor addr
          let s1 := if !lost || (Config.freeByte s.free).toNat % 2 == 1 then
              (s0.writeAny 0 addr (bytes.map (· % 256)) false).gbWeftRange addr bytes.length true
            else s0
          (if lost then (s1.count 0x8050 3 0 1).takeFree 1 else s1).monOk [])

-- ---------------------------------------------------------------- resets and trace (R618, R619)

/-- A reset command: SYNTAX without the word now; the status line goes out before the reset begins. -/
def State.monReset (s : State) (now rom : Bool) (f : State → State) : Out :=
  s.monPriv 2 rom (fun s =>
    if !now then s.monErr .badForm else .next (f (s.emit (.console ["ok", s.prompt]))))

/-- R619. reset warm keep. -/
def execMonResetWarmKeep (now : Bool) (s : State) : Out := s.monReset now false (fun s => s.warmCmd 1)
/-- R619. reset warm clear. -/
def execMonResetWarmClear (now : Bool) (s : State) : Out := s.monReset now false (fun s => s.warmCmd 2)
/-- R619. reset module. -/
def execMonResetModule (now : Bool) (s : State) : Out := s.monReset now true (fun s => s.resetRequest 0x52B7)

/-- A trace command: it replaces the trace before it. -/
def State.monTrace (s : State) (v : Nat) : Out :=
  s.monPriv 1 false (fun s => ({ s with mon := { s.mon with trace := v } } : State).monOk [])

/-- R618. trace acc. -/
def execMonTraceAcc (s : State) : Out := s.monTrace 1
/-- R618. trace ctx c. -/
def execMonTraceCtx (c : Nat) (s : State) : Out :=
  if 16 ≤ c then s.monPriv 1 false (fun s => s.monErr .badForm) else s.monTrace (2 + c)
/-- R618. trace off. -/
def execMonTraceOff (s : State) : Out := s.monTrace 0

end Sys2Proof.Machine
end

