-- ==== Sys2Proof/Machine/RegisterWrite.lean ====
section
/-! DEFINITION. REGISTER_WRITE: a write to a register or object that has no command of its own, applied under its rules (R13).
Spaces: 0 a context's page, 1 BAR2 of a function, 2 a tile's registers, 3 a dictionary object, 4 PCIe configuration (log entry 29). -/

namespace Sys2Proof.Machine

/-- After a change of its mask or of the function's enables, a pending vector is sent (PCIe's rule for MSI-X, R563). -/
def State.retrySignal (s : State) (p f v : Nat) : State :=
  if (SMap.get {} (s.fn p f).vectors v).pending && (s.fn p f).msixOn && s.mayWriteHost p f
      && !(SMap.get {} (s.fn p f).vectors v).ctrl.getLsbD 0 then
    (s.updFn p f (fun g => { g with vectors := SMap.upd {} g.vectors v (fun x => { x with pending := false }) })).signal p f v 0
  else s

/-- A 64-bit word of BAR2 (R563, R564): MB_CTRL, DONE of MB_STATUS, the MSI-X table (8 entries on the PF, 4 on a VF), the request
buffer byte by byte. -/
def State.writeBar2Word (s : State) (p f a b : Nat) (bs : List Nat) : State :=
  if a = 0 then s.writeMbCtrl p f (putBytes (s.fn p f).reqLen b bs)
  else if a = 8 then
    if bitOf (putBytes 0 b bs) 30 then s.updFn p f (fun g => { g with done := false }) else s
  else if 0x800 ≤ a ∧ a < 0x800 + 16 * vectorsOf f then
    let v := (a - 0x800) / 16
    let x := SMap.get {} (s.fn p f).vectors v
    let y : Vector_ :=
      if a % 16 = 0 then { x with addr := BitVec.ofNat 64 (putBytes x.addr.toNat b bs) }
      else
        let w := putBytes (x.data.toNat + 2 ^ 32 * x.ctrl.toNat) b bs
        { x with data := BitVec.ofNat 32 w, ctrl := BitVec.ofNat 32 (fld w 32 1) }
    (s.updFn p f (fun g => { g with vectors := SMap.set {} g.vectors v y })).retrySignal p f v
  else if 0x1000 ≤ a ∧ a < 0x2000 then
    s.updFn p f (fun g => { g with req := (numbered (a - 0x1000 + b) bs).foldl (fun m e => SMap.set 0 m e.1 (e.2 % 256)) g.req })
  else s

/-- Every vector of a function whose enables have changed. -/
def State.retryAll (s : State) (p f : Nat) : State := (List.range 8).foldl (fun s v => s.retrySignal p f v) s

/-- A field of a function's configuration space: 0 Bus Master Enable, 1 MSI-X Enable, 2 NumVFs, 3 power state D0, 4 VF Enable. -/
def State.writeConfig (s : State) (p f off v : Nat) : State :=
  match off with
  | 0 => (s.updFn p f (fun g => { g with busMaster := bitOf v 0 })).retryAll p f
  | 1 => (s.updFn p f (fun g => { g with msixOn := bitOf v 0 })).retryAll p f
  | 2 => if f = 0 ∧ !(s.port p).vfEnable ∧ v ≤ 15 then s.updPort p (fun h => { h with numVfs := v }) else s
  | 3 => if v % 4 = 0 then s.updFn p f (fun g => { g with d3hot := false }) else s
  | 4 => if f ≠ 0 then s else if bitOf v 0 then s.updPort p (fun h => { h with vfEnable := true }) else s.clearVfEnable p
  | _ => s

/-- R13. Context pages and tile registers answer once the host ports run and while the compute dies do; BAR2 and the dictionary
while the controller runs. Space 0 is written from inside the module by context `b`, or, from b = 16 on, through BAR0 of function
(b − 16) % 16 of host port (b − 16) / 16. -/
def execRegisterWrite (space a b off : Nat) (bytes : List Nat) (s : State) : Out :=
  match space with
  | 0 => .next (if !s.hostsRun ∨ 16 ≤ a ∨ 0x10000 < off + bytes.length then s
      else if b < 16 then s.writeAny b (0x300000000000 + a * 0x10000 + off) bytes false
      else if (b - 16) % 16 = a then s.bar0Write ((b - 16) / 16) a off bytes else s)
  | 1 => .next (if s.ctrlRuns && s.barOk a b then
      (cutWords bytes.length off bytes).foldl (fun s w => s.writeBar2Word a b w.1 w.2.1 w.2.2) s else s)
  | 2 => .next (if (s.pwr.st = .ready ∨ s.pwr.st = .warmReset) ∧ a < 576 ∧ off + bytes.length ≤ 0x8000 then
      s.writeAny b (tileAddr (a / 288) (a % 288) (0x1C0000 + off)) bytes false else s)
  | 3 => .next (match objRow? a b with
      | some r =>
        if !s.ctrlRuns ∨ r.acc < 2 ∨ bytes.length % r.bytes ≠ 0 ∨ s.rowSize r < off * r.bytes + bytes.length then s
        else if r.index = 0x1022 then (s.keyWrite 2 (r.sub - 1) (leVal bytes)).1
        else (s.writeElems r off (elemsOf r.bytes (bytes.length / r.bytes) bytes)).1
      | none => s)
  | 4 => .next (if s.hostFitted a ∧ s.hostUp a ∧ b < 16 ∧ (off = 3 ∨ s.fnExists a b) then s.writeConfig a b off (leVal bytes) else s)
  | _ => .next s

end Sys2Proof.Machine
end

