-- ==== Sys2Proof/Machine/Dispatch.lean ====
section
/-! DEFINITION. What each command does to everything but the queue: one arm per constructor of Instr, one
direct call of its meaning. -/

namespace Sys2Proof.Machine

def exec (i : Instr) (s : State) : Host.Outcome State Fault Refusal :=
  match i with
  | .nop die tile => Sys2Proof.Machine.execNop die tile s
  | .syncLocal die tile => Sys2Proof.Machine.execSyncLocal die tile s
  | .syncGroup die tile => Sys2Proof.Machine.execSyncGroup die tile s
  | .fenceLocal die tile => Sys2Proof.Machine.execFenceLocal die tile s
  | .cardDrain die tile => Sys2Proof.Machine.execCardDrain die tile s
  | .cardCut die tile => Sys2Proof.Machine.execCardCut die tile s
  | .selectSetpQ die tile => Sys2Proof.Machine.execSelectSetpQ die tile s
  | .selectSetpM die tile => Sys2Proof.Machine.execSelectSetpM die tile s
  | .selectChooseQ die tile => Sys2Proof.Machine.execSelectChooseQ die tile s
  | .selectChooseM die tile => Sys2Proof.Machine.execSelectChooseM die tile s
  | .mma die tile => Sys2Proof.Machine.execMma die tile s
  | .mmaT die tile => Sys2Proof.Machine.execMmaT die tile s
  | .accLoadReplace die tile => Sys2Proof.Machine.execAccLoadReplace die tile s
  | .accLoadAdd die tile => Sys2Proof.Machine.execAccLoadAdd die tile s
  | .accStore die tile => Sys2Proof.Machine.execAccStore die tile s
  | .ancInit die tile => Sys2Proof.Machine.execAncInit die tile s
  | .ancScanAll die tile => Sys2Proof.Machine.execAncScanAll die tile s
  | .ancScanRows die tile => Sys2Proof.Machine.execAncScanRows die tile s
  | .ancFold die tile => Sys2Proof.Machine.execAncFold die tile s
  | .vecEwAdd die tile => Sys2Proof.Machine.execVecEwAdd die tile s
  | .vecEwSub die tile => Sys2Proof.Machine.execVecEwSub die tile s
  | .vecEwMul die tile => Sys2Proof.Machine.execVecEwMul die tile s
  | .vecEwFma die tile => Sys2Proof.Machine.execVecEwFma die tile s
  | .vecEwDiv die tile => Sys2Proof.Machine.execVecEwDiv die tile s
  | .vecEwSqrt die tile => Sys2Proof.Machine.execVecEwSqrt die tile s
  | .vecEwMin die tile => Sys2Proof.Machine.execVecEwMin die tile s
  | .vecEwMax die tile => Sys2Proof.Machine.execVecEwMax die tile s
  | .vecEwAbs die tile => Sys2Proof.Machine.execVecEwAbs die tile s
  | .vecEwNeg die tile => Sys2Proof.Machine.execVecEwNeg die tile s
  | .vecEwCmpEq die tile => Sys2Proof.Machine.execVecEwCmpEq die tile s
  | .vecEwCmpLt die tile => Sys2Proof.Machine.execVecEwCmpLt die tile s
  | .vecEwCmpLe die tile => Sys2Proof.Machine.execVecEwCmpLe die tile s
  | .vecEwCmpUnord die tile => Sys2Proof.Machine.execVecEwCmpUnord die tile s
  | .vecActRelu die tile => Sys2Proof.Machine.execVecActRelu die tile s
  | .vecActExp die tile => Sys2Proof.Machine.execVecActExp die tile s
  | .vecActExp2 die tile => Sys2Proof.Machine.execVecActExp2 die tile s
  | .vecActLog die tile => Sys2Proof.Machine.execVecActLog die tile s
  | .vecActLog2 die tile => Sys2Proof.Machine.execVecActLog2 die tile s
  | .vecActRecip die tile => Sys2Proof.Machine.execVecActRecip die tile s
  | .vecActRsqrt die tile => Sys2Proof.Machine.execVecActRsqrt die tile s
  | .vecActTanh die tile => Sys2Proof.Machine.execVecActTanh die tile s
  | .vecActSigmoid die tile => Sys2Proof.Machine.execVecActSigmoid die tile s
  | .vecActSilu die tile => Sys2Proof.Machine.execVecActSilu die tile s
  | .vecActGeluTanh die tile => Sys2Proof.Machine.execVecActGeluTanh die tile s
  | .vecActErf die tile => Sys2Proof.Machine.execVecActErf die tile s
  | .vecActSoftplus die tile => Sys2Proof.Machine.execVecActSoftplus die tile s
  | .vecActSin die tile => Sys2Proof.Machine.execVecActSin die tile s
  | .vecActCos die tile => Sys2Proof.Machine.execVecActCos die tile s
  | .vecRedSum die tile => Sys2Proof.Machine.execVecRedSum die tile s
  | .vecRedMax die tile => Sys2Proof.Machine.execVecRedMax die tile s
  | .vecRedMin die tile => Sys2Proof.Machine.execVecRedMin die tile s
  | .vecRedAmax die tile => Sys2Proof.Machine.execVecRedAmax die tile s
  | .cast die tile => Sys2Proof.Machine.execCast die tile s
  | .xpose die tile => Sys2Proof.Machine.execXpose die tile s
  | .gather die tile => Sys2Proof.Machine.execGather die tile s
  | .scatter die tile => Sys2Proof.Machine.execScatter die tile s
  | .sendRef die tile => Sys2Proof.Machine.execSendRef die tile s
  | .sendInline die tile => Sys2Proof.Machine.execSendInline die tile s
  | .sendVoid die tile => Sys2Proof.Machine.execSendVoid die tile s
  | .sendPred die tile => Sys2Proof.Machine.execSendPred die tile s
  | .recv die tile => Sys2Proof.Machine.execRecv die tile s
  | .tileopEngineDone die tile engine => Sys2Proof.Machine.execTileopEngineDone die tile engine s
  | .checkCompare die tile faults => Sys2Proof.Machine.execCheckCompare die tile faults s
  | .reexecDone die tile faults => Sys2Proof.Machine.execReexecDone die tile faults s
  | .replayExecute die tile flip => Sys2Proof.Machine.execReplayExecute die tile flip s
  | .replayDigest die tile reexec => Sys2Proof.Machine.execReplayDigest die tile reexec s
  | .tileopRetire die tile cycle stalls => Sys2Proof.Machine.execTileopRetire die tile cycle stalls s
  | .beatTick die tile slot => Sys2Proof.Machine.execBeatTick die tile slot s
  | .tileIslandWrite die tile value => Sys2Proof.Machine.execTileIslandWrite die tile value s
  | .freqStepApply die tile => Sys2Proof.Machine.execFreqStepApply die tile s
  | .bankOwnerWrite die tile off bytes => Sys2Proof.Machine.execBankOwnerWrite die tile off bytes s
  | .bankZeroDone die tile bank => Sys2Proof.Machine.execBankZeroDone die tile bank s
  | .scrubRead addr err store => Sys2Proof.Machine.execScrubRead addr err store s
  | .ctxWindowWrite ctx entry off bytes => Sys2Proof.Machine.execCtxWindowWrite ctx entry off bytes s
  | .weftRead id => Sys2Proof.Machine.execWeftRead id s
  | .weftWrite id => Sys2Proof.Machine.execWeftWrite id s
  | .weftWriteMasked id => Sys2Proof.Machine.execWeftWriteMasked id s
  | .weftAtomic ctx fn addr size op a b => Sys2Proof.Machine.execWeftAtomic ctx fn addr size op a b s
  | .weftRdData id => Sys2Proof.Machine.execWeftRdData id s
  | .weftWrAck id => Sys2Proof.Machine.execWeftWrAck id s
  | .weftError id => Sys2Proof.Machine.execWeftError id s
  | .weftCtrlCmd die tile cmd ctx arg => Sys2Proof.Machine.execWeftCtrlCmd die tile cmd ctx arg s
  | .weftLinkCrcError die site dir retries => Sys2Proof.Machine.execWeftLinkCrcError die site dir retries s
  | .weftTimeout id => Sys2Proof.Machine.execWeftTimeout id s
  | .tableWriteDone die entries => Sys2Proof.Machine.execTableWriteDone die entries s
  | .tableOldBankFree die => Sys2Proof.Machine.execTableOldBankFree die s
  | .translationForwardEnd die site => Sys2Proof.Machine.execTranslationForwardEnd die site s
  | .streamerFetch die streamer => Sys2Proof.Machine.execStreamerFetch die streamer s
  | .streamerAdmit die streamer pick => Sys2Proof.Machine.execStreamerAdmit die streamer pick s
  | .warpPickOwnerWrite die value => Sys2Proof.Machine.execWarpPickOwnerWrite die value s
  | .warpAdmit die tile slot chan pick => Sys2Proof.Machine.execWarpAdmit die tile slot chan pick s
  | .queueArrival die tile queue bad => Sys2Proof.Machine.execQueueArrival die tile queue bad s
  | .ringRefill die tile queue => Sys2Proof.Machine.execRingRefill die tile queue s
  | .streamLineArrival die tile port bad => Sys2Proof.Machine.execStreamLineArrival die tile port bad s
  | .creditReturn die idx => Sys2Proof.Machine.execCreditReturn die idx s
  | .sendWaitExpire die tile => Sys2Proof.Machine.execSendWaitExpire die tile s
  | .joinStall die tile qe qf => Sys2Proof.Machine.execJoinStall die tile qe qf s
  | .selvedge ctx => Sys2Proof.Machine.execSelvedge ctx s
  | .cardSwitchArrive die tile ctx => Sys2Proof.Machine.execCardSwitchArrive die tile ctx s
  | .cardSwitchCommit die ctx group => Sys2Proof.Machine.execCardSwitchCommit die ctx group s
  | .cardSwitchCancel die ctx => Sys2Proof.Machine.execCardSwitchCancel die ctx s
  | .syncArrive die tile => Sys2Proof.Machine.execSyncArrive die tile s
  | .syncRelease die tile => Sys2Proof.Machine.execSyncRelease die tile s
  | .chanPause die tile => Sys2Proof.Machine.execChanPause die tile s
  | .chanResume die tile => Sys2Proof.Machine.execChanResume die tile s
  | .cardLoadDone die tile slot => Sys2Proof.Machine.execCardLoadDone die tile slot s
  | .cardSwitchReady die tile slot => Sys2Proof.Machine.execCardSwitchReady die tile slot s
  | .switchQuietStart die ctx group => Sys2Proof.Machine.execSwitchQuietStart die ctx group s
  | .switchTakeEffect die ctx group => Sys2Proof.Machine.execSwitchTakeEffect die ctx group s
  | .creditGraceEnd die ctx => Sys2Proof.Machine.execCreditGraceEnd die ctx s
  | .seqDoorbell ctx value via => Sys2Proof.Machine.execSeqDoorbell ctx value via s
  | .graphChecked ctx => Sys2Proof.Machine.execGraphChecked ctx s
  | .nodeRead ctx die => Sys2Proof.Machine.execNodeRead ctx die s
  | .seqRelease ctx value => Sys2Proof.Machine.execSeqRelease ctx value s
  | .nodeDoneNotice ctx node die => Sys2Proof.Machine.execNodeDoneNotice ctx node die s
  | .nodeLaunch ctx die => Sys2Proof.Machine.execNodeLaunch ctx die s
  | .sectionSwitchStart ctx die => Sys2Proof.Machine.execSectionSwitchStart ctx die s
  | .gateOpen ctx die gate => Sys2Proof.Machine.execGateOpen ctx die gate s
  | .nodeDrainDone ctx node => Sys2Proof.Machine.execNodeDrainDone ctx node s
  | .graphFinish ctx => Sys2Proof.Machine.execGraphFinish ctx s
  | .graphDone ctx => Sys2Proof.Machine.execGraphDone ctx s
  | .cqEntryWrite ctx => Sys2Proof.Machine.execCqEntryWrite ctx s
  | .cqCfgWrite ctx value => Sys2Proof.Machine.execCqCfgWrite ctx value s
  | .eqCfgWrite ctx value => Sys2Proof.Machine.execEqCfgWrite ctx value s
  | .ledgerCfgWrite ctx value => Sys2Proof.Machine.execLedgerCfgWrite ctx value s
  | .ftcLaunchAtWrite ctx value => Sys2Proof.Machine.execFtcLaunchAtWrite ctx value s
  | .sliceDue die site => Sys2Proof.Machine.execSliceDue die site s
  | .sliceGrant die site => Sys2Proof.Machine.execSliceGrant die site s
  | .sliceRelief die site => Sys2Proof.Machine.execSliceRelief die site s
  | .sliceEnd die site result durationUs fails => Sys2Proof.Machine.execSliceEnd die site result durationUs fails s
  | .sliceReinitDone die site => Sys2Proof.Machine.execSliceReinitDone die site s
  | .sliceOverdue die site => Sys2Proof.Machine.execSliceOverdue die site s
  | .ctxActivate ctx => Sys2Proof.Machine.execCtxActivate ctx s
  | .ctxReset ctx => Sys2Proof.Machine.execCtxReset ctx s
  | .ctxResetKeep ctx => Sys2Proof.Machine.execCtxResetKeep ctx s
  | .ctxFenceReset ctx byContext0 => Sys2Proof.Machine.execCtxFenceReset ctx byContext0 s
  | .resetDrainEnd ctx => Sys2Proof.Machine.execResetDrainEnd ctx s
  | .resetDrainTimeout ctx => Sys2Proof.Machine.execResetDrainTimeout ctx s
  | .vitrineSampleDone ctx late => Sys2Proof.Machine.execVitrineSampleDone ctx late s
  | .resetClearing ctx => Sys2Proof.Machine.execResetClearing ctx s
  | .quietPeriodEnd ctx => Sys2Proof.Machine.execQuietPeriodEnd ctx s
  | .grantWrite ctx which value => Sys2Proof.Machine.execGrantWrite ctx which value s
  | .hangSample ctx => Sys2Proof.Machine.execHangSample ctx s
  | .containmentStart ctx => Sys2Proof.Machine.execContainmentStart ctx s
  | .warmResetKeepHbm => Sys2Proof.Machine.execWarmResetKeepHbm s
  | .warmResetClearHbm => Sys2Proof.Machine.execWarmResetClearHbm s
  | .warmResetSampled => Sys2Proof.Machine.execWarmResetSampled s
  | .warmBist durationMs failed retested coverage fails => Sys2Proof.Machine.execWarmBist durationMs failed retested coverage fails s
  | .warmResetDone => Sys2Proof.Machine.execWarmResetDone s
  | .moduleResetRequest value => Sys2Proof.Machine.execModuleResetRequest value s
  | .moduleResetBegin => Sys2Proof.Machine.execModuleResetBegin s
  | .varoaFrameRx port header crc corrected uncorrectable slots => Sys2Proof.Machine.execVaroaFrameRx port header crc corrected uncorrectable slots s
  | .varoaLinkDown port cause => Sys2Proof.Machine.execVaroaLinkDown port cause s
  | .portRetrainDone port wlGood => Sys2Proof.Machine.execPortRetrainDone port wlGood s
  | .helloTimer port => Sys2Proof.Machine.execHelloTimer port s
  | .hello port fields => Sys2Proof.Machine.execHello port fields s
  | .fabricConfigWrite object elem value => Sys2Proof.Machine.execFabricConfigWrite object elem value s
  | .fabricRoute inPort header data => Sys2Proof.Machine.execFabricRoute inPort header data s
  | .failoverApply links => Sys2Proof.Machine.execFailoverApply links s
  | .fabricRead header => Sys2Proof.Machine.execFabricRead header s
  | .fabricWrite header data => Sys2Proof.Machine.execFabricWrite header data s
  | .fabricWriteMasked header data => Sys2Proof.Machine.execFabricWriteMasked header data s
  | .fabricRdData header data => Sys2Proof.Machine.execFabricRdData header data s
  | .fabricWrAck header => Sys2Proof.Machine.execFabricWrAck header s
  | .fabricError header => Sys2Proof.Machine.execFabricError header s
  | .fabricAccessTimeout tag => Sys2Proof.Machine.execFabricAccessTimeout tag s
  | .fabricEndpointWrite ctx value => Sys2Proof.Machine.execFabricEndpointWrite ctx value s
  | .fabricFlowWrite flow value => Sys2Proof.Machine.execFabricFlowWrite flow value s
  | .guaranteedAdmit flow len collId => Sys2Proof.Machine.execGuaranteedAdmit flow len collId s
  | .lateNotice header => Sys2Proof.Machine.execLateNotice header s
  | .delivered header => Sys2Proof.Machine.execDelivered header s
  | .deliveredTimer src flow => Sys2Proof.Machine.execDeliveredTimer src flow s
  | .unconfirmedTimeout flow seq => Sys2Proof.Machine.execUnconfirmedTimeout flow seq s
  | .partResetRequest value => Sys2Proof.Machine.execPartResetRequest value s
  | .partReset header => Sys2Proof.Machine.execPartReset header s
  | .collectiveStart ctx node => Sys2Proof.Machine.execCollectiveStart ctx node s
  | .collReady header => Sys2Proof.Machine.execCollReady header s
  | .collData rank chunk part headers data => Sys2Proof.Machine.execCollData rank chunk part headers data s
  | .collAbort header => Sys2Proof.Machine.execCollAbort header s
  | .collectiveTimeout collId ctx => Sys2Proof.Machine.execCollectiveTimeout collId ctx s
  | .timeSyncTimer => Sys2Proof.Machine.execTimeSyncTimer s
  | .timeSync port arg => Sys2Proof.Machine.execTimeSync port arg s
  | .timeEcho port arg t4 => Sys2Proof.Machine.execTimeEcho port arg t4 s
  | .timeRootTimeout => Sys2Proof.Machine.execTimeRootTimeout s
  | .ftcSteer => Sys2Proof.Machine.execFtcSteer s
  | .vinCoreWarning => Sys2Proof.Machine.execVinCoreWarning s
  | .dipStretchEnd => Sys2Proof.Machine.execDipStretchEnd s
  | .checkRaiseEnd die => Sys2Proof.Machine.execCheckRaiseEnd die s
  | .vinIoWarning => Sys2Proof.Machine.execVinIoWarning s
  | .supplySuspectClear supply => Sys2Proof.Machine.execSupplySuspectClear supply s
  | .scoreRecover unit => Sys2Proof.Machine.execScoreRecover unit s
  | .scoreSave => Sys2Proof.Machine.execScoreSave s
  | .deaccession unit => Sys2Proof.Machine.execDeaccession unit s
  | .commonCauseEnd domain => Sys2Proof.Machine.execCommonCauseEnd domain s
  | .fieldCatalogueAppend => Sys2Proof.Machine.execFieldCatalogueAppend s
  | .replacementDrained die tile => Sys2Proof.Machine.execReplacementDrained die tile s
  | .replacementRoutesWritten die tile => Sys2Proof.Machine.execReplacementRoutesWritten die tile s
  | .replacementAbandon die tile => Sys2Proof.Machine.execReplacementAbandon die tile s
  | .catReaccession value => Sys2Proof.Machine.execCatReaccession value s
  | .licInstall record => Sys2Proof.Machine.execLicInstall record s
  | .opticalLoopbackCheck port pass => Sys2Proof.Machine.execOpticalLoopbackCheck port pass s
  | .rxPowerCheck port failed => Sys2Proof.Machine.execRxPowerCheck port failed s
  | .laserPowerCheck ioDie pass => Sys2Proof.Machine.execLaserPowerCheck ioDie pass s
  | .pllLockLoss kind unit => Sys2Proof.Machine.execPllLockLoss kind unit s
  | .pllJitterCheck kind unit pass => Sys2Proof.Machine.execPllJitterCheck kind unit pass s
  | .hbmEyeCheck stack channel pass => Sys2Proof.Machine.execHbmEyeCheck stack channel pass s
  | .vsenseCrossCheck rail pass => Sys2Proof.Machine.execVsenseCrossCheck rail pass s
  | .analogueRetry check unit pass => Sys2Proof.Machine.execAnalogueRetry check unit pass s
  | .rehearsalConsentWrite ctx value => Sys2Proof.Machine.execRehearsalConsentWrite ctx value s
  | .rehCancel record => Sys2Proof.Machine.execRehCancel record s
  | .rehTileFault record => Sys2Proof.Machine.execRehTileFault record s
  | .rehCheckMismatch record => Sys2Proof.Machine.execRehCheckMismatch record s
  | .rehPoison record => Sys2Proof.Machine.execRehPoison record s
  | .rehLinkDrop record => Sys2Proof.Machine.execRehLinkDrop record s
  | .rehQueueStall record => Sys2Proof.Machine.execRehQueueStall record s
  | .rehHang record => Sys2Proof.Machine.execRehHang record s
  | .rehBrownoutWarn record => Sys2Proof.Machine.execRehBrownoutWarn record s
  | .rehearsalAtFtc ident => Sys2Proof.Machine.execRehearsalAtFtc ident s
  | .rehearsalEnd ident => Sys2Proof.Machine.execRehearsalEnd ident s
  | .vinAnaPresent => Sys2Proof.Machine.execVinAnaPresent s
  | .vinIoPresent => Sys2Proof.Machine.execVinIoPresent s
  | .vinCorePresent => Sys2Proof.Machine.execVinCorePresent s
  | .supplyAbsent supply => Sys2Proof.Machine.execSupplyAbsent supply s
  | .heldRelease => Sys2Proof.Machine.execHeldRelease s
  | .overvoltage supply => Sys2Proof.Machine.execOvervoltage supply s
  | .vinAnaLoss => Sys2Proof.Machine.execVinAnaLoss s
  | .brownoutReset supply => Sys2Proof.Machine.execBrownoutReset supply s
  | .regulatorsUp ok => Sys2Proof.Machine.execRegulatorsUp ok s
  | .controllerBoot ctrlCopy tileCopy ioCopy => Sys2Proof.Machine.execControllerBoot ctrlCopy tileCopy ioCopy s
  | .catalogueLoad => Sys2Proof.Machine.execCatalogueLoad s
  | .powerupBist durationMs failed retested coverage fails => Sys2Proof.Machine.execPowerupBist durationMs failed retested coverage fails s
  | .hbmTraining failed => Sys2Proof.Machine.execHbmTraining failed s
  | .opticalCalibration wlGood => Sys2Proof.Machine.execOpticalCalibration wlGood s
  | .ready => Sys2Proof.Machine.execReady s
  | .powerSleep => Sys2Proof.Machine.execPowerSleep s
  | .powerWake => Sys2Proof.Machine.execPowerWake s
  | .thermalSample sensor reading => Sys2Proof.Machine.execThermalSample sensor reading s
  | .powerSample supply watts => Sys2Proof.Machine.execPowerSample supply watts s
  | .dutyStep die => Sys2Proof.Machine.execDutyStep die s
  | .thermalShutdown => Sys2Proof.Machine.execThermalShutdown s
  | .idleEnter die site => Sys2Proof.Machine.execIdleEnter die site s
  | .is4Enter => Sys2Proof.Machine.execIs4Enter s
  | .idleWakeDone die site => Sys2Proof.Machine.execIdleWakeDone die site s
  | .idleWakeUsWrite ctx value => Sys2Proof.Machine.execIdleWakeUsWrite ctx value s
  | .hostBar4Read port fn off len => Sys2Proof.Machine.execHostBar4Read port fn off len s
  | .hostBar4Write port fn off bytes ep => Sys2Proof.Machine.execHostBar4Write port fn off bytes ep s
  | .hostFetchAdd port fn off size a => Sys2Proof.Machine.execHostFetchAdd port fn off size a s
  | .hostSwap port fn off size a => Sys2Proof.Machine.execHostSwap port fn off size a s
  | .hostCas port fn off size cmp a => Sys2Proof.Machine.execHostCas port fn off size cmp a s
  | .mailboxGo port fn value => Sys2Proof.Machine.execMailboxGo port fn value s
  | .perstAssert port => Sys2Proof.Machine.execPerstAssert port s
  | .perstDeassert port speed lanes flit => Sys2Proof.Machine.execPerstDeassert port speed lanes flit s
  | .hostHotReset port => Sys2Proof.Machine.execHostHotReset port s
  | .pfFlr port => Sys2Proof.Machine.execPfFlr port s
  | .vfEnableClear port => Sys2Proof.Machine.execVfEnableClear port s
  | .vfFlr port vf => Sys2Proof.Machine.execVfFlr port vf s
  | .d3hotEnter port fn => Sys2Proof.Machine.execD3hotEnter port fn s
  | .refreshInterval stack pc => Sys2Proof.Machine.execRefreshInterval stack pc s
  | .hbmRetrainPause stack channel => Sys2Proof.Machine.execHbmRetrainPause stack channel s
  | .t1sFrameRx dest src etype payload fcsOk vlan => Sys2Proof.Machine.execT1sFrameRx dest src etype payload fcsOk vlan s
  | .dielfenMessage => Sys2Proof.Machine.execDielfenMessage s
  | .dfGet priv who index sub => Sys2Proof.Machine.execDfGet priv who index sub s
  | .dfSet priv who index sub ty data => Sys2Proof.Machine.execDfSet priv who index sub ty data s
  | .dfGetSeg priv who index sub off len => Sys2Proof.Machine.execDfGetSeg priv who index sub off len s
  | .dfSetSeg priv who index sub ty off data => Sys2Proof.Machine.execDfSetSeg priv who index sub ty off data s
  | .dfDescribe priv index sub => Sys2Proof.Machine.execDfDescribe priv index sub s
  | .dfKeyWrite path slot data => Sys2Proof.Machine.execDfKeyWrite path slot data s
  | .odRestoreDefaults value => Sys2Proof.Machine.execOdRestoreDefaults value s
  | .persistStore => Sys2Proof.Machine.execPersistStore s
  | .t1sNodeIdApply => Sys2Proof.Machine.execT1sNodeIdApply s
  | .plcaFallback => Sys2Proof.Machine.execPlcaFallback s
  | .plcaResume => Sys2Proof.Machine.execPlcaResume s
  | .nodeClashClear => Sys2Proof.Machine.execNodeClashClear s
  | .monHelp row => Sys2Proof.Machine.execMonHelp row s
  | .monId => Sys2Proof.Machine.execMonId s
  | .monLogin slot => Sys2Proof.Machine.execMonLogin slot s
  | .monLoginResponse response => Sys2Proof.Machine.execMonLoginResponse response s
  | .monLock => Sys2Proof.Machine.execMonLock s
  | .monOdGet index sub range => Sys2Proof.Machine.execMonOdGet index sub range s
  | .monOdSet index sub off data => Sys2Proof.Machine.execMonOdSet index sub off data s
  | .monOdDesc index sub => Sys2Proof.Machine.execMonOdDesc index sub s
  | .monLog count => Sys2Proof.Machine.execMonLog count s
  | .monLogBoot => Sys2Proof.Machine.execMonLogBoot s
  | .monBist => Sys2Proof.Machine.execMonBist s
  | .monBistFails => Sys2Proof.Machine.execMonBistFails s
  | .monCtx c => Sys2Proof.Machine.execMonCtx c s
  | .monCtxActivate c => Sys2Proof.Machine.execMonCtxActivate c s
  | .monCtxReset c => Sys2Proof.Machine.execMonCtxReset c s
  | .monCtxResetKeep c => Sys2Proof.Machine.execMonCtxResetKeep c s
  | .monTile die tile => Sys2Proof.Machine.execMonTile die tile s
  | .monPeek addr len => Sys2Proof.Machine.execMonPeek addr len s
  | .monPoke addr bytes => Sys2Proof.Machine.execMonPoke addr bytes s
  | .monResetWarmKeep now => Sys2Proof.Machine.execMonResetWarmKeep now s
  | .monResetWarmClear now => Sys2Proof.Machine.execMonResetWarmClear now s
  | .monResetModule now => Sys2Proof.Machine.execMonResetModule now s
  | .monTraceAcc => Sys2Proof.Machine.execMonTraceAcc s
  | .monTraceCtx c => Sys2Proof.Machine.execMonTraceCtx c s
  | .monTraceOff => Sys2Proof.Machine.execMonTraceOff s
  | .monBreak => Sys2Proof.Machine.execMonBreak s
  | .monLockTimeout => Sys2Proof.Machine.execMonLockTimeout s
  | .registerWrite space a b off bytes => Sys2Proof.Machine.execRegisterWrite space a b off bytes s
  | .normalRouteReturn links => Sys2Proof.Machine.execNormalRouteReturn links s
  | .msixHoldoffEnd port fn vector => Sys2Proof.Machine.execMsixHoldoffEnd port fn vector s
  | .t1sCollision own => Sys2Proof.Machine.execT1sCollision own s
  | .hostLinkRetrain port speed lanes flit => Sys2Proof.Machine.execHostLinkRetrain port speed lanes flit s
  | .refreshIntervalEnd stack pc => Sys2Proof.Machine.execRefreshIntervalEnd stack pc s
  | .hbmRetrainPauseEnd stack channel => Sys2Proof.Machine.execHbmRetrainPauseEnd stack channel s
  | .monLineError kind => Sys2Proof.Machine.execMonLineError kind s
  | .monCtrlC => Sys2Proof.Machine.execMonCtrlC s

end Sys2Proof.Machine
end

