-- ==== Sys2Proof/Machine/Tick.lean ====
section
/-! DEFINITION. What one nanosecond changes by itself, as a step on an empty queue (log entry 2): controller uptime, fabric time
(R441 to R443), the token buckets of the flows (R424), each die's frame count (R260, R299), and the two counters of milliseconds
(R541, R543). -/

namespace Sys2Proof.Machine

/-- Tokens of a flow: RATE is in MB/s, so thousandths of a byte each nanosecond, up to BURST. -/
def Flow.fill (f : Flow) : Flow :=
  let e := f.entry.toNat
  if flowValid e then { f with bucket := min (1000 * flowBurst e) (f.bucket + flowRate e) } else f

/-- A nanosecond of a die's network clock: 1.80 picks, or 1.50 while a dip stretches it (R32, R33), sixteen to a frame. -/
def Die.tick (d : Die) (stretch : Bool) : Die :=
  let a := d.pickAcc + (if stretch then 15 else 18)
  if 160 ≤ a then { d with pickAcc := a - 160, frame := (d.frame + 1) % 2 ^ 64 } else { d with pickAcc := a }

/-- A present die's tick. -/
def State.tickDie (s : State) (d : Nat) : State := s.updDie d (fun x => x.tick s.pwr.stretch)

/-- At each millisecond boundary of uptime: SUPPLY_LOW_MS (R532), THROTTLE_POWER_MS and THROTTLE_THERMAL_MS. -/
def State.tickMs (s : State) : State :=
  if s.pwr.uptime % 1000000 ≠ 0 then s
  else
    let s0 := [0, 1].foldl (fun s v => if (if v = 0 then s.pwr.core else s.pwr.io) && s.supplyLow v then s.count 0x80E0 4 v 1 else s) s
    let s1 := if s.pwr.powCore || s.pwr.powIo then s0.count 0x80E0 5 0 1 else s0
    if s.pwr.hot.isEmpty then s1 else s1.count 0x80E0 6 0 1

/-- Since when the conditions of IS4 have held (R550). -/
def State.noteCalm (s : State) : State :=
  let calm := s.pwr.st == .ready && !s.pwr.is4 && s.mayIs4
  { s with pwr := { s.pwr with calmSince := if !calm then 0 else if s.pwr.calmSince = 0 then s.pwr.uptime + 1 else s.pwr.calmSince } }

/-- One nanosecond passes: nothing without a controller; the dies and the fabric only while their rails are on. -/
def State.tick (s : State) : State :=
  if !s.pwr.ctrlOn then s
  else
    let s1 := ({ s with pwr := { s.pwr with uptime := s.pwr.uptime + 1 } } : State).tickMs
    if !s1.pwr.st.railsOn then s1
    else
      let s2 : State := { s1.noteCalm with
        time := s1.time.tick
        fab := { s1.fab with flows := s1.fab.flows.map (fun e => (e.1, e.2.fill)) } }
      (List.range s2.factory.computeDies).foldl State.tickDie s2

end Sys2Proof.Machine
end

