-- ==== Sys2Proof/Safety.lean ====
section
/-! DEFINITION. What counts as a sound state and a sound step of the block: the canonical form of memory and what a
command may never touch. -/

namespace Sys2Proof.Machine

/-- The canonical form of memory: addresses strictly rising, no byte listed that equals what an unlisted address reads as (0,
R230). -/
def Memory.wf (m : List Host.Cell) : Bool := SMap.wf (0 : Byte) m

/-- What every command keeps from the state `s` it starts in to the state `t` it ends in: the factory catalogue and the facts of
the fitted module (R46), the queue of waiting commands, and the canonical form of memory. -/
abbrev State.Keeps (s t : State) : Prop :=
  t.factory = s.factory ∧ t.pending = s.pending ∧ (Memory.wf s.mem = true → Memory.wf t.mem = true)

-- ---------------------------------------------------------------- when a tile-op issues

/-- The slot and the descriptor that a tile-op command of this opcode and form issues now: the next descriptor of the tile's
active card is that form, no hazard with a tile-op in flight or with a comparison still to be made holds it (R78, R471), the
checks find nothing (R158), its engine and the rollback store have room (R77, R470) and no bank it touches is being zeroed
(R203). -/
def State.readyOp (s : State) (die tile opcode form : Nat) : Option (Nat × Desc) :=
  match s.issuer die tile with
  | none => none
  | some k =>
    let t := s.tile die tile
    let sl := t.slot k
    let d := sl.next
    let o := s.newOp die tile k d (sl.voids d)
    if !sl.prog.isEmpty && d.isForm opcode form && !t.ops.any (fun e => hazardWith e o.reads o.writes.tail)
        && !t.checks.any (fun c => c.hazard o.reads o.writes.tail) && (s.opCheck sl.ctx die tile (s.effLevel sl.ctx die tile) (s.latchedOf sl.ctx).strict sl d).isNone
        && t.engineFree d.engine && !t.rollbackFull d && !t.zeroWait d
    then some (k, d) else none

/-- The tile-op in flight that a descriptor makes, the predicate of R159 applied. -/
def State.issued (s : State) (die tile k : Nat) (d : Desc) : InFlight :=
  s.newOp die tile k d (((s.tile die tile).slot k).voids d)

/-- Whether it begins at once: its engine executes no other (R77). -/
def State.beginsNow (s : State) (die tile k : Nat) (d : Desc) : Bool := (s.issued die tile k d).phase == .executing

/-- The tile-op as it stands in flight when it has issued, before it acts. -/
def State.entered (s : State) (die tile k : Nat) (d : Desc) : InFlight :=
  if s.beginsNow die tile k d then (s.issued die tile k d).begin s.pwr.stretch else s.issued die tile k d

/-- A row of the tile-op commands: the command, its opcode and its form. -/
abbrev TileOpRow := (Nat → Nat → Instr) × Nat × Nat

/-- The tile-ops of the arrays and the vector engine, and SELECT in CHOOSE_M form. -/
def dataOps : List TileOpRow := [
  (.mma, 0x10, 0), (.mmaT, 0x11, 0), (.accLoadReplace, 0x12, 0), (.accLoadAdd, 0x12, 1), (.accStore, 0x13, 0),
  (.ancInit, 0x18, 0), (.ancScanAll, 0x19, 0), (.ancScanRows, 0x19, 1), (.ancFold, 0x1A, 0),
  (.vecEwAdd, 0x20, 0), (.vecEwSub, 0x20, 1), (.vecEwMul, 0x20, 2), (.vecEwFma, 0x20, 3), (.vecEwDiv, 0x20, 4),
  (.vecEwSqrt, 0x20, 5), (.vecEwMin, 0x20, 6), (.vecEwMax, 0x20, 7), (.vecEwAbs, 0x20, 8), (.vecEwNeg, 0x20, 9),
  (.vecEwCmpEq, 0x20, 10), (.vecEwCmpLt, 0x20, 11), (.vecEwCmpLe, 0x20, 12), (.vecEwCmpUnord, 0x20, 13),
  (.vecActRelu, 0x21, 0), (.vecActExp, 0x21, 1), (.vecActExp2, 0x21, 2), (.vecActLog, 0x21, 3), (.vecActLog2, 0x21, 4),
  (.vecActRecip, 0x21, 5), (.vecActRsqrt, 0x21, 6), (.vecActTanh, 0x21, 7), (.vecActSigmoid, 0x21, 8),
  (.vecActSilu, 0x21, 9), (.vecActGeluTanh, 0x21, 10), (.vecActErf, 0x21, 11), (.vecActSoftplus, 0x21, 12),
  (.vecActSin, 0x21, 13), (.vecActCos, 0x21, 14),
  (.vecRedSum, 0x22, 0), (.vecRedMax, 0x22, 1), (.vecRedMin, 0x22, 2), (.vecRedAmax, 0x22, 3),
  (.cast, 0x23, 0), (.xpose, 0x24, 0), (.gather, 0x25, 0), (.scatter, 0x26, 0), (.selectChooseM, 0x04, 3)]

/-- The tile-ops that order, switch, select, send and receive. -/
def controlOps : List TileOpRow := [
  (.nop, 0x00, 0), (.syncLocal, 0x01, 0), (.syncGroup, 0x01, 1), (.fenceLocal, 0x02, 0), (.cardDrain, 0x03, 0),
  (.cardCut, 0x03, 1), (.selectSetpQ, 0x04, 0), (.selectSetpM, 0x04, 1), (.selectChooseQ, 0x04, 2),
  (.sendRef, 0x30, 0), (.sendInline, 0x30, 1), (.sendVoid, 0x30, 2), (.sendPred, 0x30, 3), (.recv, 0x31, 0)]

/-- Every tile-op command. -/
def tileOps : List TileOpRow := dataOps ++ controlOps

end Sys2Proof.Machine
end

