-- ==== Sys2Proof/Certificates/Slice0/Obligations.lean ====
section
/-! DEFINITION. The statements about the block: for each, its title and the rules it rests on. -/

open Sys2Proof Sys2Proof.Machine

/-- A data tile-op whose operands are there takes its effect when it issues (R76, R77, R166, R169, R170, R171, R172, R173, R174, R178, R179, R180). -/
def Obligations.ReadyDataTileopTakesEffect : Prop :=
  ∀ row ∈ dataOps, ∀ (s : State) (die tile k : Nat) (d : Desc),
    s.readyOp die tile row.2.1 row.2.2 = some (k, d) → ((s.tile die tile).slot k).voids d = false →
    locKind d.locA ≠ .stream → locKind d.locB ≠ .stream → s.globalReads die tile (s.issued die tile k d) = [] →
    let o : InFlight := { s.entered die tile k d with
      applied := false
      streamPort := locSel d.locA
      streamPortB := locSel d.locB }
    let s1 := s.putOp die tile o
    let r := s1.effect die tile o (s1.latchedOf ((s.tile die tile).slot k).ctx)
    ∃ t o', exec (row.1 die tile) s = .next t
      ∧ (t.tile die tile).ops.getLast? = some o' ∧ o'.id = o.id ∧ o'.desc = o.desc ∧ o'.applied = true
      ∧ o'.status = r.2.status ∧ (t.tile die tile).arrays = ((r.1.tile die tile).mirror o).arrays
      ∧ (locKind d.locD ≠ .global → t.mem = ((if r.2.rows = [] then [r.2.out] else r.2.rows).foldl State.writeOut s).mem)

/-- NOP, SYNC, FENCE and CARD enter flight with their descriptor, CARD requesting its switch (R77, R185, R186, R187, R188, R304, R307). -/
def Obligations.OrderingTileopsEnterInOrder : Prop :=
  (∀ row ∈ ([(.nop, 0x00, 0), (.syncLocal, 0x01, 0), (.syncGroup, 0x01, 1), (.fenceLocal, 0x02, 0)] : List TileOpRow),
      ∀ (s : State) (die tile k : Nat) (d : Desc), s.readyOp die tile row.2.1 row.2.2 = some (k, d) →
      ∃ t, exec (row.1 die tile) s = .next t ∧ (t.tile die tile).ops = (s.tile die tile).ops ++ [s.entered die tile k d]
        ∧ (s.beginsNow die tile k d = true → (s.entered die tile k d).phase = .done
          ∧ (s.entered die tile k d).syncWait = (row.2 == (0x01, 1) && !((s.tile die tile).slot k).voids d))
        ∧ ((t.tile die tile).slot k).pc = ((s.tile die tile).slot k).pc + 1 ∧ t.mem = s.mem ∧ t.poison = s.poison)
    ∧ (∀ row ∈ ([(.cardDrain, 0x03, 0), (.cardCut, 0x03, 1)] : List TileOpRow),
      ∀ (s : State) (die tile k : Nat) (d : Desc), s.readyOp die tile row.2.1 row.2.2 = some (k, d) →
      s.beginsNow die tile k d = true → ((s.tile die tile).slot k).voids d = false →
      let x := (s.tile die tile).slot (fld d.aux 0 2)
      ∃ t o', exec (row.1 die tile) s = .next t ∧ t.mem = s.mem
        ∧ ((t.tile die tile).slot k).pc = ((s.tile die tile).slot k).pc + 1
        ∧ (t.tile die tile).ops.length = (s.tile die tile).ops.length + 1 ∧ (t.tile die tile).ops.getLast? = some o'
        ∧ o'.id = (s.issued die tile k d).id ∧ o'.desc = (s.issued die tile k d).desc
        ∧ (if fld d.aux 0 2 = k ∨ (x.st ≠ .empty ∧ x.st ≠ .loading ∧ x.ctx ≠ ((s.tile die tile).slot k).ctx) then
            o'.status = .cardSlot ∧ o'.detail = fld d.aux 0 2 ∧ o'.syncWait = false
          else
            o'.syncWait = true
            ∧ ((t.tile die tile).slot k).swPhase = .waiting ∧ ((t.tile die tile).slot k).swTarget = fld d.aux 0 2
            ∧ ((t.tile die tile).slot k).swCut = (d.func == 1)))
    ∧ (∀ row ∈ controlOps, ∀ (s : State) (die tile k : Nat) (d : Desc),
      s.readyOp die tile row.2.1 row.2.2 = some (k, d) → s.beginsNow die tile k d = false →
      (s.issued die tile k d).phase = .waiting
      ∧ exec (row.1 die tile) s = .next (s.putOp die tile (s.issued die tile k d)))

/-- SEND on an open channel stamps a descriptor and takes a credit; on a closed or fenced one it carries that status (R79, R182, R275, R276, R278, R290). -/
def Obligations.SendTakesCreditAndStampsDescriptor : Prop :=
  ∀ row ∈ ([(.sendRef, 0x30, 0), (.sendInline, 0x30, 1), (.sendVoid, 0x30, 2), (.sendPred, 0x30, 3)] : List TileOpRow),
    ∀ (s : State) (die tile k : Nat) (d : Desc), s.readyOp die tile row.2.1 row.2.2 = some (k, d) →
    s.beginsNow die tile k d = true →
    let sl := (s.tile die tile).slot k
    let n := locSel d.locD
    let ch := sl.chan n
    let reply := scKind ch.cfg.toNat = 3
    let held := s.refHeld die tile (s.issued die tile k d)
    (held = false → (s.tile die tile).sendSt k n = .go →
      ∃ t, exec (row.1 die tile) s = .next t ∧ t.mem = s.mem
        ∧ (((t.tile die tile).slot k).chan n).tx = ch.tx ++ [stamp (d.payload s.device die tile (sl.voids d))
            (!decide reply && decide (scDestDepth ch.cfg.toNat ≤ ch.out)) sl.epoch (s.ctx sl.ctx).gen.toNat sl.ctx tile n (ch.seq.toNat + 1)]
        ∧ (((t.tile die tile).slot k).chan n).seq = ch.seq + 1
        ∧ (((t.tile die tile).slot k).chan n).credits = (if reply then ch.credits else ch.credits - 1)
        ∧ (((t.tile die tile).slot k).chan n).out = (if reply then ch.out else ch.out + 1)
        ∧ ((t.tile die tile).slot k).sent = sl.sent + 1
        ∧ ∃ o', (t.tile die tile).ops.getLast? = some o' ∧ o'.desc = (s.issued die tile k d).desc ∧ o'.todo = false)
    ∧ (held = false → (s.tile die tile).sendSt k n = .closed →
      ∃ t o', exec (row.1 die tile) s = .next t ∧ t.counter 0x8060 2 sl.ctx = min (2 ^ 64 - 1) (s.counter 0x8060 2 sl.ctx + 1)
        ∧ (t.tile die tile).ops.getLast? = some o' ∧ o'.desc = (s.issued die tile k d).desc ∧ o'.todo = false
        ∧ o'.status = .closed ∧ o'.detail = n)
    ∧ (held = false → (s.tile die tile).sendSt k n = .fenced →
      ∃ t o', exec (row.1 die tile) s = .next t ∧ t.counter 0x8060 3 sl.ctx = min (2 ^ 64 - 1) (s.counter 0x8060 3 sl.ctx + 1)
        ∧ (t.tile die tile).ops.getLast? = some o' ∧ o'.desc = (s.issued die tile k d).desc ∧ o'.todo = false
        ∧ o'.status = .fenced ∧ o'.detail = n)
    ∧ (held = true ∨ (s.tile die tile).sendSt k n = .blocked →
      ∃ t o', exec (row.1 die tile) s = .next t ∧ t.mem = s.mem ∧ ((t.tile die tile).slot k).chan n = ch
        ∧ (t.tile die tile).ops.getLast? = some o' ∧ o'.desc = (s.issued die tile k d).desc ∧ o'.todo = true
        ∧ o'.phase = .executing)

/-- RECV, SELECT SETP_Q and CHOOSE_Q take the token at the head of their queue (R183, R184, R280, R283, R651). -/
def Obligations.TokenTileopsConsumeTheHead : Prop :=
  ∀ (s : State) (die tile k : Nat) (d : Desc), s.beginsNow die tile k d = true →
    let sl := (s.tile die tile).slot k
    let o := s.issued die tile k d
    let q := locSel d.locA
    let q2 := locSel d.locB
    let waits := s.putOp die tile (s.entered die tile k d)
    (s.readyOp die tile 0x31 0 = some (k, d) → (s.tile die tile).headToken q sl.epoch = none →
      exec (.recv die tile) s = .next waits)
    ∧ (s.readyOp die tile 0x31 0 = some (k, d) → ∀ tok, (s.tile die tile).headToken q sl.epoch = some tok →
      ∃ t o', exec (.recv die tile) s = .next t
        ∧ (t.tile die tile).queues = ((s.takeToken die tile q k).tile die tile).queues
        ∧ t.mem = (if locKind d.locD = .tmem then
            (s.writeOut (rowsOut (tileAddr die tile (locSel d.locD)) 0 [withPoison tok.poison (leBytes 32 tok.word.toNat)])).mem
          else s.mem)
        ∧ (t.tile die tile).ops.getLast? = some o' ∧ o'.desc = o.desc ∧ o'.todo = false
        ∧ o'.voidToken = (tok.kind == 2) ∧ o'.poisonOut = tok.poison)
    ∧ (s.readyOp die tile 0x04 0 = some (k, d) → (s.tile die tile).headToken q sl.epoch = none →
      exec (.selectSetpQ die tile) s = .next waits)
    ∧ (s.readyOp die tile 0x04 0 = some (k, d) → sl.voids d = false → d.func = 0 → ∀ tok,
      (s.tile die tile).headToken q sl.epoch = some tok → tok.poison = false → (tok.kind = 2 ∨ tok.kind = 3) →
      ∃ t, exec (.selectSetpQ die tile) s = .next t ∧ t.mem = s.mem
        ∧ (t.tile die tile).queues = ((s.takeToken die tile q k).tile die tile).queues
        ∧ ((t.tile die tile).slot k).preds = sl.preds.set (locSel d.locD)
            (if tok.kind = 2 then .void else if tok.predVal then .true_ else .false_))
    ∧ (s.readyOp die tile 0x04 1 = some (k, d) → sl.voids d = false →
      s.linePoison (tileAddr die tile q / 64) = false →
      ∃ t, exec (.selectSetpM die tile) s = .next t ∧ t.mem = s.mem
        ∧ ((t.tile die tile).slot k).preds = sl.preds.set (locSel d.locD)
            (if s.memByte (tileAddr die tile q) = 0 then .false_ else .true_))
    ∧ (s.readyOp die tile 0x04 2 = some (k, d) → q2 ≠ q →
      ((s.tile die tile).headToken q sl.epoch = none ∨ (s.tile die tile).headToken q2 sl.epoch = none) →
      exec (.selectChooseQ die tile) s = .next waits)
    ∧ (s.readyOp die tile 0x04 2 = some (k, d) → sl.voids d = false → q2 ≠ q → ∀ a b,
      (s.tile die tile).headToken q sl.epoch = some a → (s.tile die tile).headToken q2 sl.epoch = some b →
      (s.tile die tile).sendSt k (locSel d.locD) = .go →
      let ch := sl.chan (locSel d.locD)
      let fwd (x : QDesc) : Payload := { kind := x.kind, payload := fld x.word.toNat 192 64, len := fld x.word.toNat 160 32,
                                         tag := fld x.word.toNat 144 16, predVal := x.predVal, poison := x.poison }
      ∃ t, exec (.selectChooseQ die tile) s = .next t ∧ t.mem = s.mem
        ∧ (∀ x ∈ [q, q2], ((t.tile die tile).queue x).items = (((s.takeToken die tile x k).tile die tile).queue x).items)
        ∧ (((t.tile die tile).slot k).chan (locSel d.locD)).tx = ch.tx ++ [stamp (match sl.preds.getD (fld d.aux 0 3) .true_ with
              | .true_ => fwd a
              | .false_ => fwd b
              | .void => { kind := 2, tag := d.tag })
            (scKind ch.cfg.toNat != 3 && decide (scDestDepth ch.cfg.toNat ≤ ch.out)) sl.epoch (s.ctx sl.ctx).gen.toNat sl.ctx tile
            (locSel d.locD) (ch.seq.toNat + 1)]
        ∧ (((t.tile die tile).slot k).chan (locSel d.locD)).seq = ch.seq + 1)

/-- A tile-op command touches its own tile, its die's returning credits, memory and accesses, and nothing else (R76, R166, R182, R183, R184). -/
def Obligations.TileopsTouchOnlyTheirTile : Prop :=
  ∀ row ∈ tileOps, ∀ (s t : State) (die tile : Nat), exec (row.1 die tile) s = .next t →
    (∀ d k, tkey d k ≠ tkey die tile → t.tile d k = s.tile d k)
    ∧ (∀ d, d ≠ die → t.die d = s.die d) ∧ t.die die = { s.die die with credits := (t.die die).credits }
    ∧ (∀ c, t.ctx c = { s.ctx c with graph := (t.ctx c).graph })
    ∧ t.mgmt = { s.mgmt with counts := t.mgmt.counts }
    ∧ t.factory = s.factory ∧ t.flash = s.flash ∧ t.cat = s.cat ∧ t.pwr = s.pwr ∧ t.sites = s.sites ∧ t.fab = s.fab
    ∧ t.time = s.time ∧ t.cur = s.cur ∧ t.test = s.test ∧ t.host = s.host ∧ t.hbm = s.hbm ∧ t.mon = s.mon
    ∧ t.atomics = s.atomics ∧ t.vheaders = s.vheaders ∧ t.free = s.free ∧ t.out = s.out ∧ t.pending = s.pending

/-- A tile-op that executes at issue stores to the bytes of its destination and to no other byte (R166, R169, R171, R174, R178, R179, R180). -/
def Obligations.TileopStoresOnlyItsDestination : Prop :=
  ∀ row ∈ dataOps, ∀ (s t : State) (die tile k : Nat) (d : Desc),
    s.readyOp die tile row.2.1 row.2.2 = some (k, d) → ((s.tile die tile).slot k).voids d = false →
    locKind d.locA ≠ .stream → locKind d.locB ≠ .stream → s.globalReads die tile (s.issued die tile k d) = [] →
    exec (row.1 die tile) s = .next t →
    let o : InFlight := { s.entered die tile k d with
      applied := false
      streamPort := locSel d.locA
      streamPortB := locSel d.locB }
    let s1 := s.putOp die tile o
    let r := s1.effect die tile o (s1.latchedOf ((s.tile die tile).slot k).ctx)
    (∀ a, (∀ e ∈ r.2.out, e.1 ≠ a) → t.memByte a = s.memByte a)
    ∧ (row.2.1 ∈ [0x10, 0x11, 0x12, 0x18] → ∀ a, t.memByte a = s.memByte a)

/-- A tile-op that fails a check changes nothing but its place among those in flight (R157, R158, R164). -/
def Obligations.FailedCheckRetiresWithoutIssuing : Prop :=
  ∀ row ∈ tileOps, ∀ (s : State) (die tile k : Nat) (st : Status) (det : Nat), s.issuer die tile = some k →
    let tl := s.tile die tile
    let sl := tl.slot k
    let d := sl.next
    let o := s.issued die tile k d
    sl.prog.isEmpty = false → d.isForm row.2.1 row.2.2 = true → tl.ops.any (fun e => hazardWith e o.reads o.writes.tail) = false →
    tl.checks.any (fun c => c.hazard o.reads o.writes.tail) = false →
    s.opCheck sl.ctx die tile (s.effLevel sl.ctx die tile) (s.latchedOf sl.ctx).strict sl d = some (st, det) →
    ∃ t o', exec (row.1 die tile) s = .next t ∧ t = s.setTile die tile (t.tile die tile)
      ∧ (t.tile die tile).ops = tl.ops ++ [o'] ∧ o'.rejected = true ∧ o'.status = st ∧ o'.detail = det
      ∧ ((t.tile die tile).slot k).pc = sl.pc + 1 ∧ ((t.tile die tile).slot k).preds = sl.preds
      ∧ (t.tile die tile).arrays = tl.arrays ∧ (t.tile die tile).queues = tl.queues ∧ (t.tile die tile).counters = tl.counters

/-- Engine completion, beats, island writes and frequency steps change the tile or its site as the rules say (R77, R85, R86, R88). -/
def Obligations.EngineAndIslandEventsTakeEffect : Prop :=
  (∀ (s : State) (die tile e : Nat) (o : InFlight),
      (s.tile die tile).underTest = false → (s.tile die tile).executing (Engine.ofCode e) = some o →
      (s.tile die tile).op? o.id = some o → s.opReady die tile o = true →
      let w? := ((s.tile die tile).ops.filter (fun x => x.id != o.id)).find? (fun x => x.engine == Engine.ofCode e && x.phase == .waiting)
      let s1 := s.updOp die tile o.id (fun x => { x with phase := .done })
      ∃ t, exec (.tileopEngineDone die tile e) s = .next t
        ∧ (∀ x ∈ (t.tile die tile).ops, x.id = o.id → x.phase = .done)
        ∧ (w? = none → t = s1)
        ∧ (∀ w, w? = some w → (s.tile die tile).op? w.id = some w → t = s1.beginOp die tile w.id
          ∧ ∃ w', (t.tile die tile).op? w.id = some w' ∧ w'.desc = w.desc
            ∧ w'.phase = (if w.d.opc.instant then .done else .executing)))
    ∧ (∀ (s : State) (die tile k : Nat), (s.tile die tile).underTest = false →
      (s.tile die tile).ops.any (fun o => o.slot == k && o.phase == .executing && !o.todo) = true →
      ∃ t, exec (.beatTick die tile k) s = .next t ∧ t = s.setTile die tile (t.tile die tile)
        ∧ (t.tile die tile).slot k = { (s.tile die tile).slot k with beat := ((s.tile die tile).slot k).beat + 1 })
    ∧ (∀ (s : State) (die tile value site : Nat), s.siteOf die tile = some site →
      ∃ t, exec (.tileIslandWrite die tile value) s = .next t ∧ t.mem = s.mem ∧ t.tiles = s.tiles
        ∧ t.site die site = { s.site die site with
            vstep := min 4 (fld value 16 4)
            fstep := fld value 20 4
            ccSteps := if min 4 (fld value 16 4) = (s.site die site).vstep then (s.site die site).ccSteps else 0 }
        ∧ (∀ d k, tkey d k ≠ tkey die site → t.site d k = s.site d k))
    ∧ (∀ (s : State) (die tile site : Nat), s.siteOf die tile = some site →
      (s.site die site).fstep ≠ (s.site die site).fapplied →
      (s.tile die tile).ops.any (fun o => o.phase == .executing) = false →
      ∃ t, exec (.freqStepApply die tile) s = .next t ∧ t.mem = s.mem ∧ t.tiles = s.tiles
        ∧ t.site die site = { s.site die site with fapplied := (s.site die site).fstep }
        ∧ (∀ d k, tkey d k ≠ tkey die site → t.site d k = s.site d k))

/-- CHECK_COMPARE, REEXEC_DONE, REPLAY_EXECUTE and REPLAY_DIGEST give a tile-op its check result (R70, R472, R473, R474, R475, R477). -/
def Obligations.ComparisonOutcomesFollowTheTable : Prop :=
  (∀ (s : State) (die tile : Nat) (o : InFlight) (faults : List Nat),
      (s.tile die tile).underTest = false → (s.tile die tile).checks = [] →
      (s.tile die tile).ops.find? (fun o => o.cmp == .pending && o.phase == .done && o.applied) = some o →
      (s.tile die tile).rehMismatch = 0 →
      let r := s.compareOp die tile o faults
      (r = ([], false) → ∃ t, exec (.checkCompare die tile faults) s = .next t ∧ t.mem = s.mem
        ∧ ∀ x ∈ (t.tile die tile).ops, x.id = o.id → x.cmp = .passed ∧ x.checkResult = 1)
      ∧ (r ≠ ([], false) → o.released = true → ∃ t, exec (.checkCompare die tile faults) s = .next t ∧ t.mem = s.mem
        ∧ ∀ x ∈ (t.tile die tile).ops, x.id = o.id → x.cmp = .failed ∧ x.checkResult = 2 ∧ x.status = .checkFail
          ∧ x.mismatches = r.1.length)
      ∧ (r ≠ ([], false) → o.released = false → o.reexecutable = true →
        ∃ t, exec (.checkCompare die tile faults) s = .next t ∧ t.mem = s.mem
        ∧ ∀ x ∈ (t.tile die tile).ops, x.id = o.id → x.cmp = .failed ∧ x.checkResult = 0))
    ∧ (∀ (s : State) (die tile : Nat) (c : Check) (rest : List Check) (faults : List Nat),
      (s.tile die tile).underTest = false → (s.tile die tile).checks = c :: rest → (s.tile die tile).rehMismatch = 0 →
      let r := s.compareOp die tile c.op faults
      let sl := (s.tile die tile).slot c.op.slot
      ∃ t, exec (.checkCompare die tile faults) s = .next t ∧ (∀ x ∈ (t.tile die tile).checks, x.op.id ≠ c.op.id)
        ∧ (r.1 = [] → c.written = true → s.hbm.fenced = [] → s.recordFault die tile sl.ctx c.op.d = none →
          ∀ i, i < 32 → t.memByte (tileAddr die tile (c.op.d.crOffset * 32) + i)
            = (leBytes 32 (({ c.op with cmp := .passed, checkResult := 1 } : InFlight).record c.seq c.cycle c.epoch c.stalls)).getD i 0)
        ∧ (r.1 ≠ [] → sl.st = .current → ((t.tile die tile).slot c.op.slot).st = .halted
          ∧ ((t.tile die tile).slot c.op.slot).haltStatus = .checkFail)
        ∧ (r.1 ≠ [] → ∀ x ∈ (t.tile die tile).ops, x.derived.contains c.op.id = true → x.poisonOut = true ∧ x.status ≠ .ok))
    ∧ (∀ (s : State) (die tile : Nat) (o : InFlight) (faults : List Nat), (s.tile die tile).underTest = false →
      (s.tile die tile).ops.find? (fun o => o.cmp == .failed && o.checkResult == 0) = some o →
      let c := ((s.tile die tile).slot o.slot).ctx
      ∃ t, exec (.reexecDone die tile faults) s = .next t
        ∧ t.counter 0x80C0 2 c = min (2 ^ 64 - 1) (s.counter 0x80C0 2 c + 1)
        ∧ ∀ x ∈ (t.tile die tile).ops, x.id = o.id →
          (if s.compareOp die tile o faults = ([], false) then x.cmp = .passed ∧ x.checkResult = 3 ∧ x.reexec = true
           else x.checkResult = 4 ∧ x.status = .checkFail ∧ x.poisonOut = true))
    ∧ (∀ (s : State) (die tile flip : Nat) (o : InFlight),
      (s.tile die tile).ops.find? (fun o => o.replay && !o.replayDone && o.replayDigest.isNone) = some o →
      o.applied = true → o.todo = false → (s.tile die tile).underTest = false → (s.sliceAt die (o.replayAt - 1)).st.testing = false →
      ∃ t, exec (.replayExecute die tile flip) s = .next t ∧ t = s.setTile die tile (t.tile die tile)
        ∧ ∀ x ∈ (t.tile die tile).ops, x.id = o.id → x.replayDigest = some (o.outDigest.getD 0 ^^^ (flip % 2 ^ 64)))
    ∧ (∀ (s : State) (die tile reexec : Nat) (o : InFlight), (s.tile die tile).underTest = false →
      (s.tile die tile).ops.find? (fun o => o.replay && !o.replayDone && o.replayDigest.isSome && o.phase == .done) = some o →
      o.outDigest = o.replayDigest →
      ∃ t, exec (.replayDigest die tile reexec) s = .next t ∧ t.mem = s.mem
        ∧ ∀ x ∈ (t.tile die tile).ops, x.id = o.id → x.replayDone = true ∧ 1 ≤ x.checkResult)

/-- TILEOP_RETIRE retires the oldest tile-op, counts it and writes its 32-byte completion record (R77, R79, R85, R107, R162). -/
def Obligations.RetirementWritesTheRecord : Prop :=
  ∀ (s : State) (die tile cycle : Nat) (stalls : List (Nat × Nat)) (o : InFlight) (rest : List InFlight),
    (s.tile die tile).ops = o :: rest → s.retirable die tile o = true → o.status = .ok → o.voided = false → o.checkResult ≠ 4 →
    o.d.crErrOnly = false → s.hbm.fenced = [] →
    let sl := (s.tile die tile).slot o.slot
    s.recordFault die tile sl.ctx o.d = none → (s.tile die tile).zeroingIn (o.d.crOffset * 32) 32 = false →
    ∃ t, exec (.tileopRetire die tile cycle stalls) s = .next t
      ∧ (t.tile die tile).ops = rest
      ∧ (o.cmp ≠ .pending → (t.tile die tile).checks = (s.tile die tile).checks)
      ∧ (o.cmp = .pending → ∃ c, (t.tile die tile).checks = (s.tile die tile).checks ++ [c] ∧ c.op = o
          ∧ c.seq = (sl.retired + 1).toNat ∧ c.written = true)
      ∧ ((t.tile die tile).slot o.slot).retired = sl.retired + 1
      ∧ (o.checkResult ≠ 2 → ∀ i, i < 32 → t.memByte (tileAddr die tile (o.d.crOffset * 32) + i)
          = (leBytes 32 (o.record (sl.retired + 1).toNat cycle sl.epoch stalls)).getD i 0)
      ∧ (t.ctx sl.ctx).numeric = (s.ctx sl.ctx).numeric ||| BitVec.ofNat 32 o.ieee
      ∧ t.counter 0x8020 1 sl.ctx = min (2 ^ 64 - 1) (s.counter 0x8020 1 sl.ctx + o.sat)
      ∧ t.counter 0x8020 2 sl.ctx = min (2 ^ 64 - 1) (s.counter 0x8020 2 sl.ctx + o.flush)

/-- A write of WARP_PICK_OWNER moves the picks that no loaded card of the old owner claims, and no other (R3, R263, R264). -/
def Obligations.PickOwnerMovesOnlyFreePicks : Prop :=
  ∀ (s : State) (die value : Nat), (s.diePresent die = false → exec (.warpPickOwnerWrite die value) s = .next s)
    ∧ (s.diePresent die = true → ∃ t, exec (.warpPickOwnerWrite die value) s = .next t
    ∧ (∀ p, 1 ≤ p → p ≤ 15 → SMap.get 0 (t.die die).pickOwner p =
        (if s.pickClaimed die (SMap.get 0 (s.die die).pickOwner p) p then SMap.get 0 (s.die die).pickOwner p else fld value (4 * p) 4))
    ∧ (∀ p, p = 0 ∨ 15 < p → SMap.get 0 (t.die die).pickOwner p = SMap.get 0 (s.die die).pickOwner p)
    ∧ t.die die = { s.die die with pickOwner := (t.die die).pickOwner } ∧ (∀ d, d ≠ die → t.die d = s.die d)
    ∧ t = { s with dies := t.dies })

/-- WARP_ADMIT puts the head of the transmit buffer in transit, due at its path's end after as many frames as links (R262, R274, R276, R277). -/
def Obligations.AdmittedTransferArrivesAtItsFrame : Prop :=
  ∀ (s : State) (die tile k n pick site st sink h dt : Nat) (d : QDesc) (rest : List QDesc) (f : Nat × Nat),
    let sl := (s.tile die tile).slot k
    let c := sl.chan n
    c.tx = d :: rest → s.siteOf die tile = some site → (s.feeds die site sl.ctx n).find? (fun f => f.2 == pick) = some f →
    sl.st.isCurrent = true → c.peer ≠ .paused → s.quiet die sl.ctx = false → (s.tile die tile).heldHead n d = false →
    (s.die die).flits.any (fun x => !x.stream && x.srcTile == tile && x.srcChan == n && x.ctx == sl.ctx && x.pick == pick
      && x.frame == (s.die die).frame + x.hops) = false →
    s.pathFrom die sl.ctx pick site f.1 = some (st, sink, h) → s.tileAt die st = some dt →
    ∃ t, exec (.warpAdmit die tile k n pick) s = .next t
      ∧ t = { s with tiles := t.tiles, dies := t.dies }
      ∧ (t.die die).flits = (s.die die).flits ++ [{
          ctx := sl.ctx, tile := dt, sink := sink, word := d, frame := (s.die die).frame + h, pick := pick
          srcTile := tile, srcChan := n, srcSlot := k, hops := h }]
      ∧ ((t.tile die tile).slot k).chan n = { c with
          tx := rest
          sent := c.sent + 1
          spilled := c.spilled + (if d.spill then 1 else 0) }
      ∧ (∀ e q, tkey e q ≠ tkey die tile → t.tile e q = s.tile e q)

/-- A descriptor that reaches a queue is taken, discarded or spilled by the queue's state, context and generation (R203, R273, R281, R282, R289). -/
def Obligations.DescriptorArrivalGoesByQueueState : Prop :=
  (∀ (s : State) (die tile q bad : Nat) (f : Flit), (s.die die).flits.find? (fun f => !f.stream && f.tile == tile && f.sink == q) = some f →
      let x := (s.tile die tile).queue q
      let d : QDesc := { f.word with poison := f.word.poison || bad != 0 }
      (s.ringWaits die tile q d = true → exec (.queueArrival die tile q bad) s = .next s)
      ∧ (s.ringWaits die tile q d = false → ∃ t, exec (.queueArrival die tile q bad) s = .next t ∧ (t.die die).flits = (s.die die).flits.erase f
        ∧ f.frame ≤ (t.die die).frame
        ∧ (x.st = .open_ → x.stale d = false → ((t.tile die tile).queue q).arrived = x.arrived + 1
            ∧ ((t.tile die tile).queue q).discarded = x.discarded)
        ∧ (x.st = .open_ → x.stale d = false → d.spill = false → x.ringCount = 0 → (s.tile die tile).currentSlot (qCtx x.cfg.toNat) = none →
            ((t.tile die tile).queue q).items = x.items ++ [d])
        ∧ (((x.st = .open_ ∧ x.stale d = true) ∨ x.st = .closed ∨ x.st = .fenced) → x.rehStall = false →
            ((t.tile die tile).queue q).discarded = x.discarded + 1 ∧ ((t.tile die tile).queue q).items = x.items
            ∧ (t.die die).credits.length = (s.die die).credits.length + 1)
        ∧ (x.st = .idle → ((t.tile die tile).queue q).discarded = x.discarded + 1 ∧ (t.die die).credits = (s.die die).credits)))
    ∧ (∀ (s : State) (die tile q : Nat), (∀ a n, s.zeroingAt a n = false) → ∃ t, exec (.ringRefill die tile q) s = .next t ∧ t.mem = s.mem
        ∧ (((t.tile die tile).queue q).ringCount = 0
          ∨ qDepth ((t.tile die tile).queue q).cfg.toNat ≤ ((t.tile die tile).queue q).items.length))

/-- Streamers fetch ahead and admit a line only under a credit; a line lands at a valid port of its context (R251, R253, R284). -/
def Obligations.StreamLinesFlowUnderCredit : Prop :=
  (∀ (s : State) (die n i : Nat), nextStream (Config.freeByte s.free).toNat ((s.die die).streamsOf n) = some i →
      let ss := (s.die die).streamsOf n
      let x := ss.getD i {}
      let k := fetchLines x (ss.map (·.buffer.length)).sum
      let a := sdAddr x.desc.toNat x.fetched
      k ≠ 0 → (s.ctx x.ctx).st.running = true → s.hbmBusy a (64 * k) = false →
      let p := s.fetchAccess die n x a k
      p.lost = false → (s.answerPacket p).lost = false →
      ∃ t, exec (.streamerFetch die n) s = .next t ∧ t = { s with dies := t.dies, free := t.free }
        ∧ ((t.die die).streamsOf n).getD i {} = { x with
            fetched := x.fetched + k
            buffer := x.buffer ++ (List.range k).map (fun j => s.memLine (a + 64 * j)) })
    ∧ (∀ (s : State) (die n pick i : Nat), (List.range ((s.die die).streamsOf n).length).find? (fun i =>
        let x := ((s.die die).streamsOf n).getD i {}
        decide (x.delivered < sdLines x.desc.toNat) && ((s.tile die x.tile).slot x.slot).st.isCurrent
          && (s.injection die pick x).isSome) = some i →
      let x := ((s.die die).streamsOf n).getD i {}
      s.quiet die x.ctx = false →
      (s.die die).flits.any (fun f => f.stream && f.srcTile == x.tile && f.srcChan == n && f.ctx == x.ctx && f.pick == pick
        && f.frame == (s.die die).frame + f.hops) = false →
      ∀ site p st sink h dt, s.injection die pick x = some (site, p) → s.walk die x.ctx pick 64 site p 0 = some (st, sink, h) →
      s.tileAt die st = some dt → ((s.tile die dt).stream (sink - 8)).paused = false →
      let port := (s.tile die x.tile).portOf x.ctx (sdCircuit x.desc.toNat) n
      (x.buffer = [] → ∃ t, exec (.streamerAdmit die n pick) s = .next t ∧ t.dies = s.dies
        ∧ t.counter 0x8050 6 (die * 12 + n) = min (2 ^ 64 - 1) (s.counter 0x8050 6 (die * 12 + n) + 1))
      ∧ ((s.tile die x.tile).streamCredits port = 0 → x.buffer ≠ [] → exec (.streamerAdmit die n pick) s = .next s)
      ∧ (∀ l rest q, x.buffer = l :: rest → port = some q → 0 < ((s.tile die x.tile).stream q).credits → ∃ t, exec (.streamerAdmit die n pick) s = .next t
        ∧ t = { s with tiles := t.tiles, dies := t.dies }
        ∧ t.tile die x.tile = (s.tile die x.tile).updStream q (fun y => { y with credits := y.credits - 1 })
        ∧ (∀ e k, tkey e k ≠ tkey die x.tile → t.tile e k = s.tile e k)
        ∧ ((t.die die).streamsOf n).getD i {} = { x with
            buffer := rest
            delivered := x.delivered + 1 }
        ∧ (t.die die).flits = (s.die die).flits ++ [{
            ctx := x.ctx, stream := true, tile := dt, sink := sink, line := l, frame := (s.die die).frame + h, pick := pick
            srcTile := x.tile, srcChan := n, srcSlot := x.slot, hops := h }]))
    ∧ (∀ (s : State) (die tile p : Nat) (f : Flit), (s.die die).flits.find? (fun f => f.stream && f.tile == tile && f.sink == 8 + p) = some f →
      let x := (s.tile die tile).stream p
      ∃ t, exec (.streamLineArrival die tile p 0) s = .next t ∧ (t.die die).flits = (s.die die).flits.erase f
        ∧ (x.valid = false → t.tiles = s.tiles)
        ∧ (x.valid = true → x.ctx = f.ctx → (s.ctx f.ctx).st.running = true →
          (s.tile die tile).ops.find? (fun o => (decide (0 < o.streamNeed) && o.streamPort == p)
            || (decide (0 < o.streamNeedB) && o.streamPortB == p)) = none →
          (t.tile die tile).stream p = { x with lines := x.lines ++ [f.line] }))

/-- A credit or notice of the card in force changes its channel; one of another epoch changes nothing there; credit grace ends (R271, R274, R278, R312). -/
def Obligations.CreditsAndNoticesReachTheirSource : Prop :=
  (∀ (s : State) (die idx : Nat) (e : Credit), (s.die die).credits[idx]? = some e →
    (((s.die die).credits.take idx).any e.sameCircuit = true → exec (.creditReturn die idx) s = .next s)
    ∧ (((s.die die).credits.take idx).any e.sameCircuit = false →
    (∀ k, e.stream = false → (s.tile die e.tile).currentSlot e.ctx = some k →
      let sl := (s.tile die e.tile).slot k
      let ch := sl.chan e.chan
      (e.epoch = sl.epoch → ch.peer ≠ .paused → ∃ t, exec (.creditReturn die idx) s = .next t
        ∧ t = { s with tiles := t.tiles, dies := t.dies } ∧ (t.die die).credits = (s.die die).credits.eraseIdx idx
        ∧ (((t.tile die e.tile).slot k).chan e.chan).peer
            = (if e.notice = 0 then ch.peer else if e.notice = 1 then .closed else if e.notice = 2 then .fenced else .open_)
        ∧ (scKind ch.cfg.toNat ≠ 3 → (((t.tile die e.tile).slot k).chan e.chan).credits = ch.credits + min e.count ch.out
          ∧ (((t.tile die e.tile).slot k).chan e.chan).out = ch.out - min e.count ch.out))
      ∧ (e.epoch ≠ sl.epoch → ch.graceUntil = 0 → ∃ t, exec (.creditReturn die idx) s = .next t ∧ t.tiles = s.tiles
        ∧ (t.die die).credits = (s.die die).credits.eraseIdx idx))
    ∧ (e.stream = true → ∃ t, exec (.creditReturn die idx) s = .next t ∧ t = { s with tiles := t.tiles, dies := t.dies }
      ∧ (t.die die).credits = (s.die die).credits.eraseIdx idx
      ∧ (∀ k p, (s.tile die e.tile).currentSlot e.ctx = some k → (s.tile die e.tile).portOf e.ctx e.circuit e.chan = some p →
        t.tile die e.tile = (if ((s.tile die e.tile).slot k).epoch = e.epoch then
            (s.tile die e.tile).updStream p (fun x => { x with credits := min 512 (x.credits + e.count) })
          else s.tile die e.tile))
      ∧ (((s.tile die e.tile).currentSlot e.ctx = none ∨ (s.tile die e.tile).portOf e.ctx e.circuit e.chan = none) → t.tiles = s.tiles))))
    ∧ (∀ (s : State) (die ctx : Nat), ∃ t, exec (.creditGraceEnd die ctx) s = .next t ∧ t = { s with tiles := t.tiles, dies := t.dies }
      ∧ (t.die die).frame = max (s.die die).frame (s.graceEnd die ctx) ∧ ∀ tile k, tile < 288 → k < 4 →
        (((s.tile die tile).slot k).ctx ≠ ctx → (t.tile die tile).slot k = (s.tile die tile).slot k)
        ∧ (((s.tile die tile).slot k).ctx = ctx → ∀ c, c < 8 → (((t.tile die tile).slot k).chan c).graceUntil = 0
          ∧ (((t.tile die tile).slot k).chan c).credits = (((s.tile die tile).slot k).chan c).credits))

/-- SEND_WAIT_EXPIRE and JOIN_STALL raise their stall once, count it and keep it for the hang detector (R287, R288, R388). -/
def Obligations.StallReportsCountAndMark : Prop :=
  (∀ (s : State) (die tile : Nat) (o : InFlight), (s.tile die tile).blocked.find? (s.tile die tile).sendStalls = some o →
      (s.tile die tile).underTest = false →
      let sl := (s.tile die tile).slot o.slot
      let n := o.d.sendChan.getD 0
      let w := (sl.chan n).cfg.toNat
      (((s.tile die (scDestTile w)).queue (scDestQ w)).joinNamed = true →
        exec (.sendWaitExpire die tile) s = .next (s.updOp die tile o.id (fun x => { x with stallRaised := true })))
      ∧ (((s.tile die (scDestTile w)).queue (scDestQ w)).joinNamed = false →
      ∃ t, exec (.sendWaitExpire die tile) s = .next t ∧ (∀ x ∈ (t.tile die tile).ops, x.id = o.id → x.stallRaised = true)
        ∧ t.counter 0x8060 5 sl.ctx = min (2 ^ 64 - 1) (s.counter 0x8060 5 sl.ctx + 1)
        ∧ (t.ctx sl.ctx).stallKind = 1 ∧ (t.ctx sl.ctx).stallEnd = packEnd die tile n))
    ∧ (∀ (s : State) (die tile qe qf : Nat) (o : InFlight),
      (s.tile die tile).blocked.find? (fun o => o.d.recvQueues.contains qe) = some o → (s.tile die tile).underTest = false →
      let sl := (s.tile die tile).slot o.slot
      let e := (s.tile die tile).queue qe
      let f := (s.tile die tile).queue qf
      e.items = [] → e.ringCount = 0 → f.full = true → qe ≠ qf →
      SMap.get 0 sl.queueImgs qf ≠ 0 → qCtx f.cfg.toNat = sl.ctx → f.joinNamed = false → o.stallRaised = false →
      ∃ t, exec (.joinStall die tile qe qf) s = .next t ∧ (∀ x ∈ (t.tile die tile).ops, x.id = o.id → x.stallRaised = true)
        ∧ ((t.tile die tile).queue qf).joinNamed = true
        ∧ t.counter 0x8060 6 sl.ctx = min (2 ^ 64 - 1) (s.counter 0x8060 6 sl.ctx + 1)
        ∧ (t.ctx sl.ctx).stallKind = 2 ∧ (t.ctx sl.ctx).stallEnd = packEnd die tile qe)
    ∧ (∀ (s : State) (die tile qe qf : Nat), (s.tile die tile).blocked = [] →
      exec (.sendWaitExpire die tile) s = .next s ∧ exec (.joinStall die tile qe qf) s = .next s)

/-- CHAN_PAUSE stops a moving tile, CHAN_RESUME frees it; a barrier releases when its last member arrives (R186, R291, R492). -/
def Obligations.PausesAndBarriersHoldTheirTiles : Prop :=
  (∀ (s : State) (die tile : Nat), s.cur.replacements.any (fun r => r.die == die && r.tile == tile && r.spareOk) = true →
      ∃ t, exec (.chanPause die tile) s = .next t ∧ t.mem = s.mem ∧ (t.tile die tile).paused = true ∧ (t.tile die tile).stopped = true
        ∧ ∀ p, p < 4 → ((t.tile die tile).stream p).paused = ((s.tile die tile).stream p).valid)
    ∧ (∀ (s : State) (die tile : Nat), (s.tile die tile).paused = true →
      s.cur.replacements.any (fun r => r.die == die && r.tile == tile) = false →
      ∃ t, exec (.chanResume die tile) s = .next t ∧ t.mem = s.mem ∧ (t.tile die tile).paused = false
        ∧ ∀ p, p < 4 → ((t.tile die tile).stream p).paused = false)
    ∧ (∀ (s : State) (die tile c g : Nat) (o : InFlight), tile < 288 → (s.tile die tile).syncHead = some (o, c, g) → o.arrived = false →
      let s1 := s.updOp die tile o.id (fun o => { o with arrived := true })
      let ts := s1.syncArrived die c g
      let n := fld (SMap.get 0 ((s.tile die tile).slot o.slot).syncs g) 0 9
      ∃ t, exec (.syncArrive die tile) s = .next t ∧ t.mem = s.mem
        ∧ (∀ x ∈ (t.tile die tile).ops, x.id = o.id → x.arrived = true)
        ∧ (n ≤ ts.length → ∀ k ∈ ts, ∀ o' c' g', (s1.tile die k).syncHead = some (o', c', g') →
            ∀ x ∈ (t.tile die k).ops, x.id = o'.id → x.syncGo = true)
        ∧ (ts.length < n → t = s1))
    ∧ (∀ (s : State) (die tile c g : Nat) (o : InFlight), (s.tile die tile).syncHead = some (o, c, g) → o.syncGo = true →
      ∃ t, exec (.syncRelease die tile) s = .next t ∧ t.mem = s.mem ∧ t = s.setTile die tile (t.tile die tile)
        ∧ ∀ x ∈ (t.tile die tile).ops, x.id = o.id → x.syncWait = false)

/-- A card load that passes its checks fills its slot from the image; one that fails empties it with its status (R295, R300, R301, R341, R343). -/
def Obligations.LoadedCardHoldsItsImage : Prop :=
  (∀ (s : State) (die tile slot : Nat) (im : Image) (g : Graph),
      let sl := (s.tile die tile).slot slot
      sl.st = .loading → (s.ctx sl.ctx).st.running = true → (s.tile die tile).underTest = false →
      s.zeroingAt sl.image (s.imageSpan sl.image) = false → s.weftBroken = false →
      s.loadCheck sl.ctx die tile sl.image = (.ok, im) →
      (s.ctx sl.ctx).graph = some g → (g.nodes.map (·.idx)).Nodup → g.ended sl.node = false → g.wrongSection sl.node im.header = false →
      (∀ n ∈ g.nodes, n.idx = sl.node → ∀ e ∈ n.cards, SMap.get 0 n.slots e.1 ≠ 0) →
      ∃ t, exec (.cardLoadDone die tile slot) s = .next t
        ∧ (t.tile die tile).slot slot = { sl.load im sl.ctx (s.ctx sl.ctx).gen.toNat with
            cardMatch := ((t.tile die tile).slot slot).cardMatch }
        ∧ t.counter 0x8070 2 sl.ctx = min (2 ^ 64 - 1) (s.counter 0x8070 2 sl.ctx + 1))
    ∧ (∀ (s : State) (die tile slot : Nat) (im : Image) (st : Status) (g : Graph),
      let sl := (s.tile die tile).slot slot
      sl.st = .loading → (s.ctx sl.ctx).st.running = true → (s.tile die tile).underTest = false →
      s.zeroingAt sl.image (s.imageSpan sl.image) = false → s.weftBroken = false →
      s.loadCheck sl.ctx die tile sl.image = (st, im) → st ≠ .ok →
      (s.ctx sl.ctx).graph = some g → g.ended sl.node = false →
      ∃ t, exec (.cardLoadDone die tile slot) s = .next t ∧ (t.tile die tile).slot slot = { loadStatus := st }
        ∧ t.counter 0x8070 3 sl.ctx = min (2 ^ 64 - 1) (s.counter 0x8070 3 sl.ctx + 1)
        ∧ ∃ g', (t.ctx sl.ctx).graph = some g' ∧ SMap.get false g'.done sl.node = true ∧ g'.failed = true)

/-- A card ready to switch switches at once within one wiring, else becomes arrived; one not ready records what it waits for (R185, R307, R308, R309, R316). -/
def Obligations.ReadyCardsSwitchLocallyOrArrive : Prop :=
  (∀ (s : State) (die tile slot : Nat),
      let sl := (s.tile die tile).slot slot
      (s.tile die tile).underTest = false → (s.tile die tile).stopped = false → sl.st.isCurrent = true → sl.swPhase = .waiting →
      sl.swSection = false →
      let x := (s.tile die tile).slot sl.swTarget
      let lost := x.st ≠ .empty ∧ x.st ≠ .loading ∧ x.ctx ≠ sl.ctx
      (lost → ∃ t, exec (.cardSwitchReady die tile slot) s = .next t ∧ t = { s with tiles := t.tiles }
        ∧ (t.tile die tile).slot slot = { sl with
            swPhase := .none
            swWait := 0 }
        ∧ (t.tile die tile).ops = (s.tile die tile).ops.map (fun o => if o.slot = slot ∧ o.syncWait = true ∧ o.d.opc = .card then
            { o with
              syncWait := false
              status := .cardSlot
              detail := sl.swTarget } else o))
      ∧ (s.cardWait die tile slot ≠ 0 → ¬ lost → ∃ t, exec (.cardSwitchReady die tile slot) s = .next t ∧ t = { s with tiles := t.tiles }
        ∧ (t.tile die tile).slot slot = { sl with swWait := s.cardWait die tile slot })
      ∧ (s.cardWait die tile slot = 0 → ¬ (sl.cardMatch.testBit sl.swTarget = true ∧ hdrGroup sl.header.toNat = 0) →
        ∃ t, exec (.cardSwitchReady die tile slot) s = .next t ∧ t = { s with tiles := t.tiles }
          ∧ (t.tile die tile).slot slot = { sl with
              swPhase := .arrived
              swWait := 4 })
      ∧ (s.cardWait die tile slot = 0 → sl.cardMatch.testBit sl.swTarget = true → hdrGroup sl.header.toNat = 0 → sl.swTarget ≠ slot →
        ∃ t, exec (.cardSwitchReady die tile slot) s = .next t
          ∧ t = { s with tiles := t.tiles, dies := t.dies, mgmt := t.mgmt }
          ∧ ((t.tile die tile).slot sl.swTarget).st = .current ∧ ((t.tile die tile).slot sl.swTarget).pc = 0
          ∧ ((t.tile die tile).slot slot).st = .loaded
          ∧ (∀ q, ((t.tile die tile).queue q).st = ((s.tile die tile).queue q).st
            ∧ ((t.tile die tile).queue q).cfg = ((s.tile die tile).queue q).cfg)
          ∧ t.counter 0x8070 4 sl.ctx = min (2 ^ 64 - 1) (s.counter 0x8070 4 sl.ctx + 1)))
    ∧ (∀ (s : State) (die tile ctx k : Nat), (s.tile die tile).arrivedSlot ctx = some k →
      (s.die die).groups.any (fun g => g.ctx == ctx && g.arrivals.any (fun a => a.tile == tile)) = false →
      let sl := (s.tile die tile).slot k
      sl.st.isCurrent = true → sl.swSection = false →
      ∃ t, exec (.cardSwitchArrive die tile ctx) s = .next t ∧ t = { s with tiles := t.tiles, dies := t.dies }
        ∧ ∃ g ∈ (t.die die).groups, g.ctx = ctx ∧ g.group = hdrGroup sl.header.toNat ∧ g.isSection = false
          ∧ { tile := tile, slot := some k, target := some sl.swTarget } ∈ g.arrivals
          ∧ (hdrGroup sl.header.toNat = 0 → s.anyPaused die ctx = false → g.commit = some ((s.die die).frame + 321)))

/-- A committed group switch quiets its die, then makes every arrived tile's target card current in one step (R309, R311, R315, R319). -/
def Obligations.GroupSwitchTakesEffectTogether : Prop :=
  ∀ (s : State) (die ctx group : Nat),
    (∀ g, (s.die die).group? ctx group (fun g => g.commit.isSome && !g.quiet) = some g →
      (∃ t, exec (.cardSwitchCommit die ctx group) s = .next t ∧ t = { s with tiles := t.tiles }
        ∧ ∀ a ∈ g.arrivals, ∀ k, a.slot = some k → ((t.tile die a.tile).slot k).swWait = 5)
      ∧ (∃ t, exec (.switchQuietStart die ctx group) s = .next t ∧ t = { s with dies := t.dies }
        ∧ { g with quiet := true } ∈ (t.die die).groups ∧ g.commit.getD 0 - 64 ≤ (t.die die).frame
        ∧ (s.die die).frame ≤ (t.die die).frame))
    ∧ (∀ g, (s.die die).group? ctx group (fun g => g.commit.isSome && g.quiet) = some g →
      (s.die die).flits.any (fun f => f.ctx == ctx) = false → (g.arrivals.map (·.tile)).Nodup →
      ∃ t, exec (.switchTakeEffect die ctx group) s = .next t ∧ t.mem = s.mem ∧ (t.die die).groups = (s.die die).groups.erase g
        ∧ g.commit.getD 0 ≤ (t.die die).frame
        ∧ ∀ a ∈ g.arrivals, ∀ k, a.target = some k →
          ((t.tile die a.tile).slot k).st = .current ∧ ((t.tile die a.tile).slot k).pc = 0)
    ∧ ((s.ctx ctx).st.running = false → ∃ t, exec (.cardSwitchCancel die ctx) s = .next t ∧ t = { s with dies := t.dies }
      ∧ (t.die die).groups = (s.die die).groups.filter (fun g => g.ctx != ctx))

/-- A doorbell queues a graph of an ACTIVE context or is refused; the check and the node reads bring the running graph in (R330, R332, R334, R335, R354, R451, R452). -/
def Obligations.SubmissionsQueueAndStartInOrder : Prop :=
  (∀ (s : State) (ctx v : Nat),
      let x := s.ctx ctx
      let bad := x.st ≠ .active ∨ fld v 46 2 ≠ 0 ∨ fld v 0 6 ≠ 0 ∨ 8 ≤ x.subs.length
      (bad → ∃ t, exec (.seqDoorbell ctx v 0) s = .next t ∧ (t.ctx ctx).submitRefused = true ∧ (t.ctx ctx).subs = x.subs
        ∧ (t.ctx ctx).graph = x.graph ∧ t.counter 0x8080 4 ctx = min (2 ^ 64 - 1) (s.counter 0x8080 4 ctx + 1))
      ∧ (¬ bad → ∃ t, exec (.seqDoorbell ctx v 0) s = .next t ∧ t = { s with ctxs := t.ctxs, ctx0 := t.ctx0 }
        ∧ (∀ g, x.graph = some g → (t.ctx ctx).graph = some g ∧ (t.ctx ctx).subs = x.subs ++ [{
            tag := fld v 48 16, addr := fld v 6 40 * 64, latched := s.latch ctx, ftc := s.ftc }])
        ∧ (x.graph = none → x.subs = [] → (t.ctx ctx).subs = [] ∧ ∃ g, (t.ctx ctx).graph = some g ∧ g.tag = fld v 48 16
            ∧ g.addr = fld v 6 40 * 64 ∧ g.latched = s.latch ctx ∧ g.checked = false))
      ∧ (∀ p, v < 2 ^ 64 → s.hostGate p ctx none = none → s.hostBehind p ctx = false →
        exec (.seqDoorbell ctx v (p + 1)) s = exec (.seqDoorbell ctx v 0) s))
    ∧ (∀ (s : State) (ctx : Nat) (g : Graph), (s.ctx ctx).graph = some g → g.checked = false → s.weftBroken = false →
      (s.ctx ctx).st.running = true → (∀ a n, s.zeroingAt a n = false) →
      (∀ h ss, s.graphCheck ctx g.addr = .inr (h, ss) → ∃ t g', exec (.graphChecked ctx) s = .next t ∧ (t.ctx ctx).graph = some g'
        ∧ g'.checked = true ∧ g'.header = BitVec.ofNat 512 h ∧ g'.sections = ss ∧ g'.failed = g.failed
        ∧ t.mem = (s.zeroOut (ghState h) (2 * bitmapBytes (ghNodes h))).mem)
      ∧ (∀ st a, s.graphCheck ctx g.addr = .inl (st, a) → ∃ t, exec (.graphChecked ctx) s = .next t ∧ (t.ctx ctx).lastStatus = st
        ∧ t.counter 0x8080 1 ctx = min (2 ^ 64 - 1) (s.counter 0x8080 1 ctx + 1)))
    ∧ (∀ (s : State) (ctx die : Nat) (g : Graph), (s.ctx ctx).graph = some g → g.checked = true → g.failed = false →
      (s.ctx ctx).st.running = true → s.diePresent die = true → s.weftBroken = false → (∀ a n, s.zeroingAt a n = false) →
      let i := SMap.get 0 g.nextRead die
      i < ghNodes g.header.toNat → neDie (s.memNat (ghNode g.header.toNat + 32 * i) 32) = die →
      (s.ctx ctx).nodesOn die false < (s.ctx ctx).residentQuota → s.nodesOn die false < 8192 →
      (∀ n, s.readNode ctx g.header.toNat i = .inr n → ∃ t g', exec (.nodeRead ctx die) s = .next t ∧ (t.ctx ctx).graph = some g'
          ∧ g'.nextRead = SMap.set 0 g.nextRead die (i + 1) ∧ g'.failed = false
          ∧ (g.concerned n = false → g'.nodes = g.nodes ++ [n])
          ∧ (g.concerned n = true → ∃ m ∈ g'.nodes, m = { n with relieved := true })
          ∧ t = { s with ctxs := t.ctxs, ctx0 := t.ctx0, hbm := t.hbm, mgmt := t.mgmt, tiles := t.tiles, sites := t.sites })
      ∧ (∀ b, s.readNode ctx g.header.toNat i = .inl b → ∃ t g', exec (.nodeRead ctx die) s = .next t ∧ (t.ctx ctx).graph = some g'
          ∧ g'.failed = true ∧ g'.failStatus = b.1 ∧ g'.nodes = g.nodes ∧ SMap.get 0 g'.nextRead die = i + 1))
    ∧ (∀ (s : State) (ctx v : Nat), ∃ t, exec (.ftcLaunchAtWrite ctx v) s = .next t ∧ t = { s with ctxs := t.ctxs, ctx0 := t.ctx0 }
      ∧ t.ctx ctx = { s.ctx ctx with
          launchAt := BitVec.ofNat 64 v
          gateNext := 0
          gatesPassed := 0 })

/-- Ready nodes launch in order, HOST_WAIT nodes are released, drained CARDS nodes complete, notices make their readers ready (R321, R337, R338, R341, R347, R356). -/
def Obligations.NodesLaunchReleaseAndComplete : Prop :=
  (∀ (s : State) (ctx die : Nat) (g : Graph) (n : Node), (s.ctx ctx).graph = some g → g.checked = true → g.failed = false →
      (s.ctx ctx).st.running = true → g.gateOpen 0 die = true → s.grantAwake ctx = true →
      g.nodes.find? (fun n => n.die == die && !n.launched && n.st != .posting && g.ready n) = some n →
      ((n.inFlight || s.flightRoom ctx die) = false → exec (.nodeLaunch ctx die) s = .next (s.requestLoads ctx die))
      ∧ ((n.inFlight || s.flightRoom ctx die) = true → ∃ t g', exec (.nodeLaunch ctx die) s = .next t ∧ (t.ctx ctx).graph = some g'
        ∧ (SMap.get false g'.done n.idx = true ∨ ∃ m ∈ g'.nodes, m.idx = n.idx ∧ m.launched = true ∧ m.inFlight = true)
        ∧ (n.kind = 0 → SMap.get false g'.done n.idx = true)))
    ∧ (∀ (s : State) (ctx v : Nat),
      let i := fld v 0 24
      (∀ g, (s.ctx ctx).graph = some g → (s.ctx ctx).st.running = true → g.checked = true → g.tag = fld v 48 16 → i < ghNodes g.header.toNat →
        neKind (s.memNat (ghNode g.header.toNat + 32 * i) 32) = 3 →
        ∃ t g', exec (.seqRelease ctx v) s = .next t ∧ (t.ctx ctx).graph = some g' ∧ SMap.get false g'.released i = true
          ∧ (∀ n, g.node? i = some n → n.launched = true → n.st = .inFlight → SMap.get false g'.done i = true))
      ∧ ((s.ctx ctx).graph = none → ∃ t, exec (.seqRelease ctx v) s = .next t ∧ (t.ctx ctx).graph = none
        ∧ t.counter 0x8080 6 ctx = min (2 ^ 64 - 1) (s.counter 0x8080 6 ctx + 1)))
    ∧ (∀ (s : State) (ctx node die : Nat) (g : Graph), (s.ctx ctx).graph = some g → SMap.get false g.done node = true →
      ∃ t g', exec (.nodeDoneNotice ctx node die) s = .next t ∧ (t.ctx ctx).graph = some g'
        ∧ SMap.get false g'.noticed (2 * node + die) = true ∧ g'.done = g.done
        ∧ (die = 0 → g'.untold = g.untold.drop (g.toldWith node).length)
        ∧ (die ≠ 0 → g'.untold = g.untold ∧ g'.noticed = SMap.set false g.noticed (2 * node + die) true)
        ∧ (die ≠ 0 ∨ g.untold = [] → t = { s with ctxs := t.ctxs, ctx0 := t.ctx0 }))
    ∧ (∀ (s : State) (ctx node : Nat) (g : Graph) (n : Node), (s.ctx ctx).graph = some g → g.node? node = some n →
      (s.ctx ctx).st.running = true → n.kind = 1 → n.st = .inFlight → (∀ e ∈ n.cards, s.cardEnded ctx n e.1 = true) →
      s.accs.any (fun a => a.die == n.die && a.ctx == ctx && a.st == .sent && (a.kind == 1 || a.kind == 2)
        && !a.orphan && n.cards.any (fun e => e.1 == a.tile)) = false →
      ∃ t g', exec (.nodeDrainDone ctx node) s = .next t ∧ (t.ctx ctx).graph = some g' ∧ SMap.get false g'.done node = true
        ∧ (n.haltStatus ≠ .ok → g'.failed = true)
        ∧ t.counter 0x8080 2 ctx = min (2 ^ 64 - 1) (s.counter 0x8080 2 ctx + 1))

/-- A section switch starts when its section is loaded, a gate opens at its launch time, a finished graph closes its dies and releases its cards (R340, R342, R452, R453). -/
def Obligations.SectionsGatesAndGraphsClose : Prop :=
  (∀ (s : State) (ctx die k : Nat) (g : Graph), (s.ctx ctx).graph = some g → g.checked = true → g.failed = false →
      (s.ctx ctx).st.running = true → SMap.get 0 g.switching die = 0 → g.overfull die = none → g.nextSect die = some k →
      s.mayswitch g die k = true →
      ∃ t, exec (.sectionSwitchStart ctx die) s = .next t ∧ t.mem = s.mem
        ∧ (t.ctx ctx).graph = some { g with switching := SMap.set 0 g.switching die (k + 1) }
        ∧ (t.die die).groups = (s.die die).groups ++ [{
            ctx := ctx, isSection := true, sect := k, cut := seCut (g.sect k), size := seSwitch (g.sect k) die }]
        ∧ ∀ tile j, tile < 288 → (s.tile die tile).currentSlot ctx = some j → ((s.tile die tile).slot j).swPhase = .none →
          ((t.tile die tile).slot j).swPhase = .waiting ∧ ((t.tile die tile).slot j).swSection = true)
    ∧ (∀ (s : State) (ctx die gate : Nat) (g : Graph), (s.ctx ctx).graph = some g → g.checked = true → g.isGate gate = true →
      SMap.get 0 g.gateReached (2 * gate + die) ≠ 0 → SMap.get false g.gatesOpen (2 * gate + die) = false →
      s.launchValue ctx g gate ≤ s.ftc →
      ∃ t g', exec (.gateOpen ctx die gate) s = .next t ∧ t = { s with ctxs := t.ctxs, ctx0 := t.ctx0, mgmt := t.mgmt }
        ∧ (t.ctx ctx).graph = some g' ∧ g'.gatesOpen = SMap.set false g.gatesOpen (2 * gate + die) true
        ∧ (t.ctx ctx).gatesPassed = (s.ctx ctx).gatesPassed
            + (if SMap.get false g.gatesOpen (2 * gate + (1 - die)) = true then 0 else 1))
    ∧ (∀ (s : State) (ctx : Nat) (g : Graph), (s.ctx ctx).graph = some g → g.checked = true → g.finished = false →
      (s.ctx ctx).st.running = true → (g.nodesDone = ghNodes g.header.toNat ∨ (g.failed = true ∧ g.nodes.any (·.inFlight) = false)) →
      SMap.get 0 g.switching 0 = 0 → SMap.get 0 g.switching 1 = 0 →
      ∃ t g', exec (.graphFinish ctx) s = .next t ∧ (t.ctx ctx).graph = some g' ∧ g'.finished = true ∧ t.mem = s.mem
        ∧ ∀ d, d < s.factory.computeDies → SMap.get false g'.closed d = true ∨ SMap.get false g'.closing d = true)
    ∧ (∀ (s : State) (ctx : Nat) (g : Graph), (s.ctx ctx).graph = some g → g.finished = true → (s.ctx ctx).st.running = true →
      (∀ d, d < s.factory.computeDies → SMap.get false g.closed d = true) → g.untold = [] →
      (∀ d tile k, ((s.tile d tile).slot k).st = .loading → ((s.tile d tile).slot k).ctx ≠ ctx) →
      ∃ t, exec (.graphDone ctx) s = .next t ∧ (t.ctx ctx).lastStatus = (if g.failed = true then g.failStatus else .ok)
        ∧ t.counter 0x8080 1 ctx = min (2 ^ 64 - 1) (s.counter 0x8080 1 ctx + 1)
        ∧ ∀ d tile k, d < 2 → tile < 288 → k < 4 → ((t.tile d tile).slot k).st = .empty ∨ ((t.tile d tile).slot k).ctx ≠ ctx)

/-- A completion waits for room, then takes the ring's tail slot; ring configuration writes enable, empty or disable the ring (R345, R346, R347, R351, R462). -/
def Obligations.RingsFillInOrderAndConfigureWhenOff : Prop :=
  (∀ (s : State) (ctx : Nat) (w : CqWait) (rest : List CqWait), (s.ctx ctx).cqWait = w :: rest →
      let r := (s.ctx ctx).cq
      (s.ringRoom ctx .cq = .full → exec (.cqEntryWrite ctx) s = .next s)
      ∧ (s.ringRoom ctx .cq = .room → ∃ t, exec (.cqEntryWrite ctx) s = .next t ∧ (t.ctx ctx).cqWait = rest
        ∧ (t.ctx ctx).cq = { r with tail := r.tail + 1 }
        ∧ (w.ledger = 0 → r.host = false → s.weftBroken = false → (∀ a n, s.zeroingAt a n = false) → t.mem = (s.memWrite (r.addr 32) (leBytes 32 (w.entry + r.phase)) false).mem)
        ∧ (w.ledger = 0 → r.host = true → t.mem = s.mem
          ∧ .hostWrite (s.portOf ctx) ctx (r.addr 32) 32 (w.entry + r.phase) ∈ t.out))
      ∧ (s.ringRoom ctx .cq = .disabled ∨ s.ringRoom ctx .cq = .badTarget → ∃ t, exec (.cqEntryWrite ctx) s = .next t
        ∧ (t.ctx ctx).cqWait = rest ∧ (t.ctx ctx).cq = r
        ∧ t.counter 0x8080 8 ctx = min (2 ^ 64 - 1) (s.counter 0x8080 8 ctx + 1)))
    ∧ (∀ (s : State) (ctx v : Nat) (c : Nat → Nat → Instr) (k : RingKind),
      (c, k) ∈ [(Instr.cqCfgWrite, RingKind.cq), (.eqCfgWrite, .eq), (.ledgerCfgWrite, .ledger)] →
      let r := (s.ctx ctx).ring k
      ∃ t, exec (c ctx v) s = .next t
        ∧ ((fld v 0 5 < 4 ∨ 16 < fld v 0 5) → (t.ctx ctx).ring k = r)
        ∧ (4 ≤ fld v 0 5 → fld v 0 5 ≤ 16 → r.enable = true → (t.ctx ctx).ring k = { r with enable := bitOf v 31 })
        ∧ (4 ≤ fld v 0 5 → fld v 0 5 ≤ 16 → r.enable = false → bitOf v 31 = true → (t.ctx ctx).ring k = {
            base := r.base, enable := true, host := bitOf v 30, irq := bitOf v 29, holdoff := fld v 16 8, log2 := fld v 0 5 })
        ∧ (k = .cq → r.enable = true → ((t.ctx ctx).ring k).enable = false → (t.ctx ctx).cqWait = []))

/-- Bank owners, windows and grants are written as their rules say; what would narrow a running context is held (R3, R201, R203, R220, R221, R223, R369). -/
def Obligations.BanksWindowsAndGrantsTakeEffect : Prop :=
  (∀ (s : State) (die tile off : Nat) (bytes : List Nat), ¬ (s.tilePresent die tile = true ∧ s.diesRun = true) →
        exec (.bankOwnerWrite die tile off bytes) s = .next s)
    ∧ (∀ (s : State) (die tile off : Nat) (bytes : List Nat), s.tilePresent die tile = true → s.diesRun = true →
      ∃ t, exec (.bankOwnerWrite die tile off bytes) s = .next t
      ∧ t = { s with tiles := t.tiles }
      ∧ (∀ i v, bytes[i]? = some v → off + i < 24 → (t.tile die tile).bank (off + i) = ((s.tile die tile).bank (off + i)).write v)
      ∧ (∀ b, b < off ∨ off + bytes.length ≤ b → (t.tile die tile).bank b = (s.tile die tile).bank b))
    ∧ (∀ (s : State) (die tile bank : Nat), ((s.tile die tile).bank bank).zeroing = true →
      let a := tileAddr die tile (bank * 0x10000)
      exec (.bankZeroDone die tile bank) s = .next (s.bankZeroed die tile bank).hostDrainAll
      ∧ ((s.port 0).held = [] → (s.port 1).held = [] → ∃ t, exec (.bankZeroDone die tile bank) s = .next t ∧ ((t.tile die tile).bank bank).zeroing = false
        ∧ (∀ k, k < 0x10000 → t.memByte (a + k) = 0) ∧ (∀ k, k < a ∨ a + 0x10000 ≤ k → t.memByte k = s.memByte k)))
    ∧ (∀ (s : State) (c e off : Nat) (bytes : List Nat), c < 16 → e < 32 → off < 16 →
      let x := s.ctx c
      let v := putBytes (if SMap.get false x.stagingOn e then SMap.get 0 x.staging e else SMap.get 0 x.windows e) off (bytes.take (16 - off))
      let w := winMask v
      let whole := 15 < off + bytes.length
      let bad := winValid w = true ∧ (s.winFits w = false ∨ (c ≠ 0 ∧ s.reachesStore w = true))
      let narrows := winNarrows (SMap.get 0 x.windows e) w = true ∧ x.st.running = true
      ∃ t, exec (.ctxWindowWrite c e off bytes) s = .next t ∧ t = { s with ctxs := t.ctxs, ctx0 := t.ctx0 }
        ∧ (¬ whole → (t.ctx c).windows = x.windows ∧ SMap.get 0 (t.ctx c).staging e = v)
        ∧ (whole → bad → (t.ctx c).windows = x.windows)
        ∧ (whole → ¬ bad → narrows → (t.ctx c).windows = x.windows ∧ SMap.get 0 (t.ctx c).heldWindows e = w
          ∧ SMap.get false (t.ctx c).heldWindowOn e = true)
        ∧ (whole → ¬ bad → ¬ narrows → SMap.get 0 (t.ctx c).windows e = w ∧ SMap.get false (t.ctx c).heldWindowOn e = false))
    ∧ (∀ (s : State) (c which v : Nat), c < 16 → which < 3 →
      let x := s.ctx c
      let m := if which = 0 then fld v 0 4 else x.heldSlots.getD x.slotMask
      let g := if which = 0 then x.heldTiles.getD x.tiles else SMap.set 0 (x.heldTiles.getD x.tiles) (which - 1) (fld v 0 288)
      let keptM := if x.st = .active then x.slotMask else x.slotMask - (x.slotMask &&& x.heldSlots.getD x.slotMask)
      let kept := if x.st = .active then x.tiles else grantMinus x.tiles (x.heldTiles.getD x.tiles)
      let m1 := keptM ||| m
      let g1 := grantJoin kept g
      let takes := grantRemoves m1 m g1 g = true
      let overlaps := c ≠ 0 ∧ ∃ j, 1 ≤ j ∧ j < 16 ∧ j ≠ c ∧ grantsOverlap m1 (s.ctx j).slotMask g1 (s.ctx j).tiles = true
      ∃ t, exec (.grantWrite c which v) s = .next t ∧ t = { s with ctxs := t.ctxs, ctx0 := t.ctx0 }
        ∧ (overlaps ∨ (which ≠ 0 ∧ s.diePresent (which - 1) = false) → t = s)
        ∧ (¬ overlaps → (which = 0 ∨ s.diePresent (which - 1) = true) → t.ctx c = { x with
            tiles := g1
            slotMask := m1
            heldTiles := if takes then some g else none
            heldSlots := if takes then some m else none }))

/-- ACTIVATE brings an INACTIVE context up, or answers why not; RESET, RESET_KEEP and FENCE_RESET fence an ACTIVE one (R367, R368, R370, R371, R372). -/
def Obligations.ContextsActivateAndBeginResets : Prop :=
  (∀ (s : State) (c : Nat), 1 ≤ c → c < 16 → (s.ctx c).st = .inactive →
      (s.pwr.st = .ready → c ≤ s.cat.userContexts → ∃ t, exec (.ctxActivate c) s = .next t ∧ (t.ctx c).st = .active
        ∧ (t.ctx c).cmdStatus = 0 ∧ (t.ctx c).numeric = 0 ∧ (t.ctx c).gen = (s.ctx c).gen ∧ (t.ctx c).cq.enable = false
        ∧ (t.ctx c).eq.enable = false ∧ (t.ctx c).cq.log2 = 4 ∧ t.counter 0x8020 1 c = 0 ∧ t.counter 0x8020 2 c = 0)
      ∧ (s.pwr.st = .ready → s.cat.userContexts < c → ∃ t, exec (.ctxActivate c) s = .next t
        ∧ t.ctx c = { s.ctx c with cmdStatus := 2 } ∧ t = { s with ctxs := t.ctxs })
      ∧ (s.pwr.st ≠ .ready → ∃ t, exec (.ctxActivate c) s = .next t
        ∧ t.ctx c = { s.ctx c with cmdStatus := 1 } ∧ t = { s with ctxs := t.ctxs }))
    ∧ (∀ (s : State) (c : Nat), 1 ≤ c → c < 16 → (s.ctx c).st = .active →
      ∀ (i : Instr) (cause : Cause) (ends : Bool) (status : Nat),
      (i, cause, ends, status) ∈ [(Instr.ctxReset c, Cause.admin, false, 0), (.ctxResetKeep c, .admin, true, 0),
        (.ctxFenceReset c true, .admin, true, 0), (.ctxFenceReset c false, .self, true, (s.ctx c).cmdStatus)] →
      ∃ t, exec i s = .next t ∧ (t.ctx c).st = .fencing ∧ (t.ctx c).cmdStatus = status
        ∧ (t.ctx c).reset? = some { cause := cause, endsActive := ends, ftcTrigger := s.ftc } ∧ (∀ k ∈ t.fab.colls, k.ctx ≠ c)
        ∧ ((∀ k ∈ s.fab.colls, k.ctx ≠ c) →
          t = { s with
            ctxs := t.ctxs
            fab := { s.fab with earlyReady := t.fab.earlyReady } }
          ∧ (∀ e, e ≠ c → t.ctx e = s.ctx e)
          ∧ t.ctx c = { s.ctx c with
              st := .fencing
              reset? := some { cause := cause, endsActive := ends, ftcTrigger := s.ftc }
              cmdStatus := status }))
    ∧ (∀ (s : State), ∃ t, exec (.ctxActivate 0) s = .next t ∧ t = { s with ctx0 := t.ctx0 }
      ∧ t.ctx0 = { s.ctx0 with cmdStatus := 3 })

/-- A context reset goes from fencing through draining, sampling, clearing and quiet to ACTIVE or INACTIVE (R372, R373, R374, R375, R380). -/
def Obligations.ResetsGoThroughTheirPhases : Prop :=
  ∀ (s : State) (c : Nat), 1 ≤ c → c < 16 →
    ((s.ctx c).st = .fencing → ∃ t, exec (.selvedge c) s = .next t ∧ (t.ctx c).st = .draining
      ∧ (∀ d tile q, d < s.factory.computeDies → tile < 288 → q < 8 → qCtx ((s.tile d tile).queue q).cfg.toNat = c →
        ((s.tile d tile).queue q).st = .open_ ∨ ((s.tile d tile).queue q).st = .closed →
        ((t.tile d tile).queue q).st = .fenced ∧ ((t.tile d tile).queue q).stSaved = ((s.tile d tile).queue q).st)
      ∧ (∀ d tile o, d < s.factory.computeDies → tile < 288 → o ∈ (t.tile d tile).ops → o.slot < 4 →
        ¬ (((t.tile d tile).slot o.slot).st ≠ .empty ∧ ((t.tile d tile).slot o.slot).ctx = c))
      ∧ (∀ a ∈ t.accs, a.ctx = c → a.held = false ∧ a.orphan = true) ∧ (∀ k ∈ t.fab.colls, k.ctx ≠ c))
    ∧ ((s.ctx c).st = .draining → (∀ a ∈ s.accs, a.ctx = c → a.orphan = true → a.device ≠ s.device) →
      ∃ t, exec (.resetDrainEnd c) s = .next t ∧ t.ctx c = { s.ctx c with st := .sampling } ∧ t.accs = s.accs)
    ∧ ((s.ctx c).st = .draining → ∃ t, exec (.resetDrainTimeout c) s = .next t ∧ (t.ctx c).st = .sampling
      ∧ t.accs = s.accs.filter (fun a => !(a.ctx == c && a.orphan && a.device == s.device))
      ∧ (∀ r, (s.ctx c).reset? = some r → (t.ctx c).reset? = some { r with drainTimeout := true }))
    ∧ (∀ late, (s.ctx c).st = .sampling → s.sampleWaits c late = false → ∃ t, exec (.vitrineSampleDone c late) s = .next t
      ∧ t.ctx c = { s.ctx c with st := .clearing } ∧ (s.storeOn = false → t.mem = s.mem)
      ∧ t.counter 0x8090 6 0 = min (2 ^ 64 - 1) (s.counter 0x8090 6 0 + 1))
    ∧ (∀ r, (s.ctx c).st = .clearing → (s.ctx c).reset? = some r → s.moving c = false → s.pwr.warm = .none →
      ∃ t, exec (.resetClearing c) s = .next t ∧ (t.ctx c).st = .quiet ∧ (t.ctx c).gen = (s.ctx c).gen + 1
        ∧ (t.ctx c).resets = (s.ctx c).resets + 1 ∧ (t.ctx c).lastCause = r.cause ∧ (t.ctx c).graph = none ∧ (t.ctx c).subs = []
        ∧ t.counter 0x8090 1 c = min (2 ^ 64 - 1) (s.counter 0x8090 1 c + 1)
        ∧ (∀ d tile k, d < 2 → tile < 288 → k < 4 → ((t.tile d tile).slot k).st = .empty ∨ ((t.tile d tile).slot k).ctx ≠ c))
    ∧ (∀ r, (s.ctx c).st = .quiet → (s.ctx c).reset? = some r → s.pwr.warm = .none →
      ∃ t, exec (.quietPeriodEnd c) s = .next t ∧ t = { s with ctxs := t.ctxs }
        ∧ (r.endsActive = true → t.ctx c = { s.ctx c with
            st := .active
            reset? := none })
        ∧ (r.endsActive = false → t.ctx c = { (s.ctx c).applyHeld with
            st := .inactive
            reset? := none }))

/-- A sample of the hang detector counts still milliseconds and acts at its limit; containment fences the context that used poison (R385, R387, R389, R484). -/
def Obligations.HangsAndPoisonResetTheirContext : Prop :=
  (∀ (s : State) (c : Nat) (g : Graph), (s.ctx c).st = .active → (s.ctx c).graph = some g →
      let cards := s.unfinished c
      let moved := (s.ctx c).moved || cards.any s.cardChanged
      let still := if moved || s.hangExcused c g cards then 0 else (s.ctx c).stillMs + 1
      let hung := s.obj 0x5014 1 c ≤ still ∧ ¬ ((s.ctx c).hangSaid = true ∧ moved = false)
      ∃ t, exec (.hangSample c) s = .next t ∧ (¬ (hung ∧ s.obj 0x5014 3 c = 1) → (t.ctx c).moved = false)
        ∧ (¬ hung → (t.ctx c).stillMs = still ∧ (t.ctx c).st = .active ∧ t.counter 0x8090 2 c = s.counter 0x8090 2 c)
        ∧ (hung → (t.ctx c).hangSaid = true ∧ t.counter 0x8090 2 c = min (2 ^ 64 - 1) (s.counter 0x8090 2 c + 1)
          ∧ (s.obj 0x5014 3 c ≠ 1 → (t.ctx c).st = .active)
          ∧ (s.obj 0x5014 3 c = 1 → c ≠ 0 → (t.ctx c).st = .fencing
            ∧ ∃ r, (t.ctx c).reset? = some r ∧ r.cause = .hang ∧ r.endsActive = true)))
    ∧ (∀ (s : State) (c : Nat) (p : PoisonUse) (rest : List PoisonUse), (s.ctx c).st = .active →
      (s.ctx c).poisonUses = p :: rest →
      ∃ t, exec (.containmentStart c) s = .next t ∧ (t.ctx c).poisonUses = rest ∧ ((t.ctx c).containing = true ↔ c ≠ 0)
        ∧ t.counter 0x80C0 0x0B c = min (2 ^ 64 - 1) (s.counter 0x80C0 0x0B c + 1)
        ∧ ((s.ctx c).containing = true ∨ c = 0 → (t.ctx c).st = .active)
        ∧ ((s.ctx c).containing = false → c ≠ 0 → s.containPart c = none → (t.ctx c).st = .fencing
          ∧ ∃ r, (t.ctx c).reset? = some r ∧ r.cause = .poison ∧ r.endsActive = true ∧ r.arg1 = p.addr))

/-- A warm reset fences every ACTIVE context, holds the dies, tests and zeroes the SRAM, keeps or clears HBM, and ends READY (R391, R392, R393, R394). -/
def Obligations.WarmResetKeepsOrClearsHbm : Prop :=
  (∀ (s : State) (i : Instr) (clear : Bool), (i, clear) ∈ [(Instr.warmResetKeepHbm, false), (.warmResetClearHbm, true)] → s.pwr.st = .ready →
      ∃ t, exec i s = .next t ∧ (s.fab.colls = [] → t.mem = s.mem) ∧ t.pwr.st = .warmReset ∧ t.pwr.warm = .draining ∧ t.pwr.warmClear = clear
        ∧ ∀ c, 1 ≤ c → c < 16 → (s.ctx c).st = .active → (t.ctx c).st = .fencing
          ∧ ∃ r, (t.ctx c).reset? = some r ∧ r.cause = .warm ∧ r.endsActive = true ∧ r.warm = true)
    ∧ (∀ (s : State), s.pwr.warm = .draining →
      (∀ c, c < 16 → (s.ctx c).st = .inactive ∨ (s.ctx c).st = .clearing ∨ (s.ctx c).st = .quiet) →
      ∃ t, exec .warmResetSampled s = .next t ∧ t.pwr.warm = .sampled ∧ t.cur.replacements = []
        ∧ (t.ctx 0).gen = (s.ctx 0).gen ∧ (∀ c, 1 ≤ c → c < 16 → (t.ctx c).gen = (s.ctx c).gen + 1)
        ∧ (∀ a ∈ t.accs, a.device ≠ s.device) ∧ t.atomics = [])
    ∧ (∀ (s : State) (ms : Nat) (failed retested coverage fails : List Nat), s.pwr.warm = .sampled →
      ∃ t, exec (.warmBist ms failed retested coverage fails) s = .next t ∧ t.pwr.warm = .bist ∧ t.hbm.selfRefresh = []
        ∧ (∀ a, 0x100000000000 ≤ a → a < 0x300000000000 → t.memByte a = 0)
        ∧ (∀ a, a < 0x004800000000 → t.memByte a = (if s.pwr.warmClear = true then 0 else s.memByte a)))
    ∧ (∀ (s : State), s.pwr.warm = .bist → s.routesDue = false → ∃ t, exec .warmResetDone s = .next t ∧ t.mem = s.mem ∧ t.pwr.st = .ready ∧ t.pwr.warm = .none
        ∧ (∀ d, (t.die d).held = false) ∧ (t.ctx 0).st = .active
        ∧ (∀ c r, 1 ≤ c → c < 16 → (s.ctx c).reset? = some r → (t.ctx c).st = (if r.endsActive = true then .active else .inactive))
        ∧ t.counter 0x8090 7 0 = min (2 ^ 64 - 1) (s.counter 0x8090 7 0 + 1))

/-- A weft read, write or masked write is answered with its data, its effect or the status that refuses it (R203, R222, R235, R373). -/
def Obligations.WeftRequestsAreServedOrRefused : Prop :=
  ∀ (s : State) (id : Nat) (a : Access) (c : Nat → Instr) (kind : Nat),
    (c, kind) ∈ [(Instr.weftRead, 0), (.weftWrite, 1), (.weftWriteMasked, 2)] →
    s.access? id = some a → a.kind = kind → a.st = .sent → a.held = false → a.lost = false → s.accBehind a = false → a.device = s.device →
    s.reached a = true →
    (a.gen ≠ (s.ctx a.ctx).gen.toNat → ∃ t, exec (c id) s = .next t ∧ t.mem = s.mem ∧ t.accs = s.accs.filter (fun (b : Access) => b.id != id)
      ∧ t.counter 0x8050 4 a.ctx = min (2 ^ 64 - 1) (s.counter 0x8050 4 a.ctx + 1))
    ∧ (∀ st, a.gen = (s.ctx a.ctx).gen.toNat → s.serveKind a.ctx kind a.addr (64 * a.len) = .refuse st →
      ∃ t, exec (c id) s = .next t ∧ t.mem = s.mem
        ∧ t.access? id = some { s.answerPacket a with
            st := .answered
            status := st
            data := [] })
    ∧ (a.gen = (s.ctx a.ctx).gen.toNat → s.serveKind a.ctx kind a.addr (64 * a.len) = .go →
      (kind = 0 → ∃ t, exec (c id) s = .next t ∧ t.mem = s.mem ∧ t.poison = s.poison
        ∧ t.access? id = some { s.answerPacket a with
            st := .answered
            status := .ok
            data := s.readLines a.ctx a.addr a.len })
      ∧ (kind ≠ 0 → isReg a.addr = false → ∃ t, exec (c id) s = .next t
        ∧ t.mem = (if kind = 1 then s.writeLines a.ctx a.addr (a.data.take a.len)
          else s.writeMasked a.ctx a.addr a.mask (a.data.headD {})).mem)
      ∧ (∀ st off, kind = 1 → a.len ≠ 0 → a.data.length = a.len → place a.addr = .hbm st off → ∃ t, exec (c id) s = .next t
        ∧ t.access? id = some { s.answerPacket a with
            st := .answered
            status := .ok
            data := [] }
        ∧ ∀ k, k < a.addr ∨ a.addr + 64 * a.len ≤ k → t.memByte k = s.memByte k))

/-- A data, acknowledge or error response or a timeout ends its access and tells the tile-op that waits for it (R235, R246, R374). -/
def Obligations.WeftResponsesReachTheirTileop : Prop :=
  (∀ (s : State) (id : Nat) (a : Access) (c : Nat → Instr),
      s.access? id = some a → a.st = .answered → a.lost = false →
      (c = Instr.weftRdData ∧ a.kind = 0 ∧ a.status = .ok) ∨ (c = .weftWrAck ∧ a.kind ≠ 0 ∧ a.status = .ok) ∨ (c = .weftError ∧ a.status ≠ .ok) →
      (a.gen ≠ (s.ctx a.ctx).gen.toNat → ∃ t, exec (c id) s = .next t ∧ t.tiles = s.tiles
        ∧ t.accs = s.accs.filter (fun (b : Access) => b.id != a.id)
        ∧ t.counter 0x8050 4 a.ctx = min (2 ^ 64 - 1) (s.counter 0x8050 4 a.ctx + 1))
      ∧ (∀ r, a.gen = (s.ctx a.ctx).gen.toNat → a.orphan = true → (s.ctx a.ctx).reset? = some r →
        ∃ t, exec (c id) s = .next t ∧ t.tiles = s.tiles ∧ t.accs = s.accs.filter (fun (b : Access) => b.id != a.id)
          ∧ (t.ctx a.ctx).reset? = some { r with discarded := r.discarded + 1 })
      ∧ (∀ d tl i part o, a.gen = (s.ctx a.ctx).gen.toNat → a.orphan = false → a.req = .op d tl i part →
        (s.tile d tl).op? i = some o → o.streamNeed = 0 → o.streamNeedB = 0 → 2 ≤ o.awaiting →
        (a.status = .ok → a.kind = 0 → a.data.length = a.len) →
        ∃ t o', exec (c id) s = .next t ∧ t.mem = s.mem ∧ t.accs = s.accs.filter (fun (b : Access) => b.id != a.id)
          ∧ (t.tile d tl).op? i = some o' ∧ o'.awaiting = o.awaiting - 1
          ∧ (a.status = .ok → a.kind = 0 → o'.readLines = putLines o.readLines (a.addr / 64) a.data)
          ∧ o'.accFailed = (o.accFailed || a.status != .ok)
          ∧ (a.status ≠ .ok → o.accFailed = false → o'.status = a.status)))
    ∧ (∀ (s : State) (id d tl i part : Nat) (a : Access) (o : InFlight), s.access? id = some a → a.kind = 0 → a.held = false → a.len ≠ 0 →
      s.fab.remotes.any (fun r => r.tag == id) = false → a.gen = (s.ctx a.ctx).gen.toNat → a.orphan = false → a.req = .op d tl i part →
      (s.tile d tl).op? i = some o → o.streamNeed = 0 → o.streamNeedB = 0 → 2 ≤ o.awaiting →
      ∃ t o', exec (.weftTimeout id) s = .next t ∧ t.mem = s.mem
        ∧ t.counter 0x8050 3 0 = min (2 ^ 64 - 1) (s.counter 0x8050 3 0 + 1)
        ∧ (t.tile d tl).op? i = some o' ∧ o'.awaiting = o.awaiting - 1 ∧ o'.poisonOrigin = 2 ∧ o'.accFailed = o.accFailed
        ∧ ∀ j, j < a.len → (SMap.get {} o'.readLines (a.addr / 64 + j)).poison = true)

/-- A host atomic reads and writes its word in one step and answers the old value; a scrub read counts its error and poisons its line (R208, R209, R210, R216, R217, R218). -/
def Obligations.AtomicsAndScrubsActOnOneWord : Prop :=
  (∀ (s : State) (c fn addr size op x y : Nat), s.atomicOk addr size = true → c < 16 → s.diesRun = true →
      ((s.ctx c).st.running = false → ∃ t, exec (.weftAtomic c fn addr size op x y) s = .next t ∧ t.mem = s.mem
        ∧ t.counter 0x8090 5 c = min (2 ^ 64 - 1) (s.counter 0x8090 5 c + 1)
        ∧ .completion (fn / 16) (fn % 16) 1 [] [] ∈ t.out)
      ∧ ((s.ctx c).st.running = true → s.hbmBusy addr size = false →
        let r := s.memRead addr size
        ∃ t, exec (.weftAtomic c fn addr size op x y) s = .next t
          ∧ .completion (fn / 16) (fn % 16) 0 (leBytes size (leVal r.1)) [r.2] ∈ t.out
          ∧ t.mem = (if r.2 = true then s.mem else (s.memWrite addr (leBytes size (atomicVal op size (leVal r.1) x y)) false).mem)))
    ∧ (∀ (s : State) (addr err : Nat), err = 1 ∨ err = 2 → s.diesRun = true → s.present (addr / 64 * 64) 64 = true → s.heldAt addr = false →
      (∀ d off, place addr = .spad d off → ∃ t, exec (.scrubRead addr err 0) s = .next t ∧ t.mem = s.mem
        ∧ t.counter 0x8040 (2 + err) 0 = min (2 ^ 64 - 1) (s.counter 0x8040 (2 + err) 0 + 1)
        ∧ (err = 2 → s.hbm.fenced = [] → (t.memRead (addr / 64 * 64) 64).2 = true))
      ∧ (∀ d tl off i, place addr = .tileWin d tl off → off < 0x180000 → s.siteOf d tl = some i →
        ∃ t, exec (.scrubRead addr err 0) s = .next t ∧ t.mem = s.mem
          ∧ t.counter 0x8040 err 0 = min (2 ^ 64 - 1) (s.counter 0x8040 err 0 + 1)
          ∧ (t.site d i).memErr = BitVec.ofNat 64 (memErrReg (s.site d i).memErr.toNat err off)))
    ∧ (∀ (s : State) (addr err store : Nat) (e : EccStore), err = 1 ∨ err = 2 → s.diesRun = true → EccStore.ofCode store = some e →
      (s.die (if e = .streamer then addr / 65536 / 12 else addr / 65536 / 288)).held = false →
      e = .streamer ∨ s.tilePresent (addr / 65536 / 288) (addr / 65536 % 288) = true →
      ∃ t, exec (.scrubRead addr err store) s = .next t ∧ t.mem = s.mem
      ∧ t.counter 0x8040 (6 + err) 0 = min (2 ^ 64 - 1) (s.counter 0x8040 (6 + err) 0 + 1))

/-- Link errors, routing-table changes and the SELVEDGE command take effect at their die (R236, R242, R244, R245, R373). -/
def Obligations.LinksTablesAndFencesOfTheWeft : Prop :=
  (∀ (s : State) (die site dir retries : Nat), ∃ t, exec (.weftLinkCrcError die site dir retries) s = .next t
      ∧ t.counter 0x8050 1 0 = min (2 ^ 64 - 1) (s.counter 0x8050 1 0 + 1)
      ∧ (retries < 8 → t.counter 0x8050 2 0 = s.counter 0x8050 2 0)
      ∧ (8 ≤ retries → t.counter 0x8050 2 0 = min (2 ^ 64 - 1) (s.counter 0x8050 2 0 + 1)
        ∧ SMap.get false t.cur.hard (linkName die site dir) = true ∧ SMap.get false t.cur.due (linkName die site dir) = true))
    ∧ (∀ (s : State) (die : Nat) (es : List (Nat × Nat × Nat)), (s.die die).tableSw.active = true → (s.die die).tableSw.written = false →
      (s.die die).tableBank < 2 →
      let s1 := s.updDie die (fun x => x.switchTables es)
      let ok := setOk (s1.tablesOf s1.banksNow) s1.offWeft s1.servedSites s1.factory.computeDies
      (ok = false → exec (.tableWriteDone die es) s = .next s)
      ∧ (ok = true → ∃ t, exec (.tableWriteDone die es) s = .next t ∧ (t.die die).tableBank = 1 - (s.die die).tableBank
        ∧ ((s.die die).tableSw.boot = true → (t.die die).tableSw = {} ∧ t.counter 0x8050 5 0 = s.counter 0x8050 5 0)
        ∧ ((s.die die).tableSw.boot = false → (t.die die).tableSw = { (s.die die).tableSw with
            written := true
            bank := (s.die die).tableBank }
          ∧ t.counter 0x8050 5 0 = min (2 ^ 64 - 1) (s.counter 0x8050 5 0 + 1) ∧ t.cat.distGen = s.cat.distGen + 1)
        ∧ (∀ i ∈ s1.unserved die, SMap.get false t.cur.due (siteAddr die i) = true ∧ SMap.get false t.cur.hard (siteAddr die i) = true)
        ∧ (∀ r n, n < 353 → SMap.get 0 (t.die die).tables (tblKey r (s.die die).tableBank n)
            = SMap.get 0 (s.die die).tables (tblKey r (s.die die).tableBank n))
        ∧ ((es.map (fun x => (x.1, x.2.1))).Nodup → ∀ e ∈ es, e.1 < 288 → e.2.1 < 353 →
          SMap.get 0 (t.die die).tables (tblKey e.1 (1 - (s.die die).tableBank) e.2.1) = 1 + teBits e.2.2)))
    ∧ (∀ (s : State) (die : Nat), (s.die die).tableSw.written = true → s.oldBankBusy die = false → ∃ t, exec (.tableOldBankFree die) s = .next t
      ∧ (t.die die).tableSw = { active := !(s.die die).routeNext.isEmpty } ∧ (t.die die).routeNext = []
      ∧ (∀ e ∈ (s.die die).routeNext, SMap.get false (t.die die).routeOut e.1 = true) ∧ (t.die die).tables = (s.die die).tables
      ∧ ∀ e ∈ (s.die die).routeOut, SMap.get false t.cur.retired e.1 = true ∧ SMap.get false t.cur.hard e.1 = false)
    ∧ (∀ (s : State) (die site : Nat), ∃ t, exec (.translationForwardEnd die site) s = .next t ∧ t = { s with dies := t.dies }
      ∧ SMap.get 0 (t.die die).forward site = 0
      ∧ ∀ k, k ≠ site → SMap.get 0 (t.die die).forward k = SMap.get 0 (s.die die).forward k)
    ∧ (∀ (s : State) (die tile c arg : Nat), (s.ctx c).st = .fencing → ∃ t, exec (.weftCtrlCmd die tile 0 c arg) s = .next t
      ∧ t.mem = s.mem ∧ (t.ctx c).st = .fencing
      ∧ ∀ q, q < 8 → qCtx ((s.tile die tile).queue q).cfg.toNat = c →
        ((s.tile die tile).queue q).st = .open_ ∨ ((s.tile die tile).queue q).st = .closed → ((t.tile die tile).queue q).st = .fenced)

/-- Varoa frames are acknowledged in sequence and resent on NAK; a lost link is down and counted; a HELLO that matches brings a port up (R399, R401, R403, R404, R406, R407). -/
def Obligations.VaroaPortsComeUpAndGoDown : Prop :=
  (∀ (s : State) (p h crc c u : Nat) (slots : List Nat), s.portPresent p = true →
      let y := s.fport p
      let q := y.acked (fld h 72 12)
      let idle (ack : Nat) (nak : Bool) : Output :=
        let h' := frameHeader ((y.txSeq + 4095) % 4096) ack nak 1 [] []
        .frame p h' (frameSlots []) (frameCrc h' (frameSlots []))
      let good := u = 0 ∧ frameCrc h slots = crc
      ∃ t, exec (.varoaFrameRx p h crc c u slots) s = .next t
        ∧ t.counter 0x80A0 1 p = min (2 ^ 64 - 1) (s.counter 0x80A0 1 p + c)
        ∧ t.counter 0x80A0 2 p = min (2 ^ 64 - 1) (s.counter 0x80A0 2 p + u)
        ∧ (s.portUp p = false → t.fab = s.fab)
        ∧ (s.portUp p = true → ¬ good → t.fab = s.fab ∧ idle y.rxSeq true ∈ t.out)
        ∧ (s.portUp p = true → good → fld h 68 3 = 0 → fld h 84 12 = (y.rxSeq + 1) % 4096 →
          (t.fport p).rxSeq = fld h 84 12 ∧ idle (fld h 84 12) false ∈ t.out)
        ∧ (s.portUp p = true → good → fld h 68 3 ≠ 0 ∨ fld h 84 12 ≠ (y.rxSeq + 1) % 4096 → (t.fport p).rxSeq = y.rxSeq)
        ∧ (s.portUp p = true → good → bitOf h 71 = true → q.resends < 16 → ∀ f ∈ q.replay,
          let h' := frameHeader f.seq y.rxSeq false 0 f.flits f.credits
          .frame p h' (frameSlots f.flits) (frameCrc h' (frameSlots f.flits)) ∈ t.out))
    ∧ (∀ (s : State) (p cause : Nat), s.portPresent p = true →
      (s.fport p).st = .up ∨ (s.fport p).st = .degraded ∨ (s.fport p).st = .training → cause = 2 ∨ 16 ≤ (s.fport p).resends →
      ∃ t, exec (.varoaLinkDown p cause) s = .next t ∧ (t.fport p).st = .down ∧ (t.fport p).width = 0
        ∧ (t.fport p).replay = [] ∧ (t.fport p).reason = (if cause = 2 then 2 else 6)
        ∧ t.counter 0x80A0 4 p = min (2 ^ 64 - 1) (s.counter 0x80A0 4 p + 1))
    ∧ (∀ (s : State) (p wl : Nat), s.portPresent p = true →
      (s.fport p).st = .up ∨ (s.fport p).st = .degraded ∨ ((s.fport p).st = .training ∧ (s.fport p).linkUp = false) →
      ∃ t, exec (.portRetrainDone p wl) s = .next t ∧ (t.fport p).wlGood = fld wl 0 8
        ∧ (widthOf wl ≠ 0 → (t.fport p).width = widthOf wl ∧ (t.fport p).st = (if widthOf wl = 3 then .up else .degraded))
        ∧ (widthOf wl = 0 → (t.fport p).st = .down ∧ (t.fport p).width = 0
          ∧ t.counter 0x80A0 4 p = min (2 ^ 64 - 1) (s.counter 0x80A0 4 p + 1)))
    ∧ (∀ (s : State) (p : Nat), s.portPresent p = true → (s.fport p).linkUp = true → (s.fport p).rehDown = false →
      (s.fport p).st = .down ∨ (s.fport p).st = .training →
      (s.topology ≠ 0 →
        let h' := frameHeader (((s.fport p).txSeq + 4095) % 4096) (s.fport p).rxSeq false 2 [] []
        exec (.helloTimer p) s = .next (s.emit (.frame p h' [s.helloFields p, 0, 0, 0] (frameCrc h' [s.helloFields p, 0, 0, 0]))))
      ∧ (∀ f, let why := s.helloReason p f
        let w := widthOf ((s.fport p).wlGood &&& fld f 64 8)
        ∃ t, exec (.hello p f) s = .next t ∧ t = { s with fab := t.fab }
          ∧ (why ≠ 0 → (t.fport p).st = .down ∧ (t.fport p).reason = why)
          ∧ (why = 0 → w = 0 → (t.fport p).st = .down ∧ (t.fport p).reason = 1)
          ∧ (why = 0 → w ≠ 0 → (t.fport p).st = (if w = 3 then .up else .degraded) ∧ (t.fport p).width = w
            ∧ (t.fport p).peerPort = fld f 106 4 ∧ (t.fport p).peerDevice = fld f 110 18 ∧ (t.fport p).linkUp = false)))

/-- The fabric's configuration, endpoints and flows take a valid write and ignore another; fail-over entries are set and cleared (R405, R411, R412, R417, R423). -/
def Obligations.FabricTablesTakeValidWrites : Prop :=
  (∀ (s : State) (o e v : Nat), s.fabricCfgOk o e v = false → exec (.fabricConfigWrite o e v) s = .next s)
    ∧ (∀ (s : State) (e v : Nat), s.fabricCfgOk 0 e v = true → ∃ t, exec (.fabricConfigWrite 0 e v) s = .next t ∧ t.obj 0x6001 0 0 = v
      ∧ ((∀ q, (s.fport q).waiting = [] ∧ (s.fport q).sending = [] ∧ (s.fport q).replay = []) → t.mem = s.mem)
      ∧ ∀ p, p < 16 → s.portPresent p = true → (s.fport p).st ≠ .retired → (s.fport p).st ≠ .absent →
        (v = 0 → (t.fport p).st = .down ∧ (t.fport p).linkUp = false)
        ∧ (v ≠ 0 → s.roleOf p = 0 → (t.fport p).st = .down ∧ (t.fport p).reason = 7)
        ∧ (v ≠ 0 → s.roleOf p ≠ 0 → (t.fport p).st = .training ∧ (t.fport p).linkUp = true))
    ∧ (∀ (s : State) (e v : Nat),
      (s.fabricCfgOk 1 e v = true → ∃ t, exec (.fabricConfigWrite 1 e v) s = .next t ∧ t.obj 0x6002 0 0 = v % 2 ^ 24)
      ∧ (s.fabricCfgOk 2 e v = true → ∃ t, exec (.fabricConfigWrite 2 e v) s = .next t ∧ t.obj 0x6003 0 0 = v)
      ∧ (s.fabricCfgOk 3 e v = true → ∃ t, exec (.fabricConfigWrite 3 e v) s = .next t ∧ t.obj 0x6004 0 e = v))
    ∧ (∀ (s : State) (on : Bool) (ls : List (Nat × Nat)),
      ∃ t, exec (if on then .failoverApply ls else .normalRouteReturn ls) s = .next t ∧ t = { s with fab := t.fab }
        ∧ (∀ l ∈ ls, ∀ k, s.failKey l = some k → SMap.get false t.fab.failover k = on)
        ∧ ∀ k, (∀ l ∈ ls, s.failKey l ≠ some k) → SMap.get false t.fab.failover k = SMap.get false s.fab.failover k)
    ∧ (∀ (s : State) (c v : Nat), (16 ≤ c ∨ s.endpointOk c v = false → exec (.fabricEndpointWrite c v) s = .next s)
      ∧ (c < 16 → s.endpointOk c v = true → ∃ t, exec (.fabricEndpointWrite c v) s = .next t ∧ t = { s with fab := t.fab }
        ∧ epArmed (t.endpoint c) = bitOf v 63 ∧ epJob (t.endpoint c) = epJob v ∧ epInc (t.endpoint c) = epInc v
        ∧ epPart (t.endpoint c) = epPart v ∧ (bitOf v 63 = true → fld (t.endpoint c) 47 8 = (s.ctx c).gen.toNat)
        ∧ ∀ e, e ≠ c → t.endpoint e = s.endpoint e))
    ∧ (∀ (s : State) (f v : Nat), let e := flowMask v
      (4096 ≤ f ∨ s.flowOk f e = false → exec (.fabricFlowWrite f v) s = .next s)
      ∧ (f < 4096 → s.flowOk f e = true → ∃ t, exec (.fabricFlowWrite f v) s = .next t ∧ t = { s with fab := t.fab }
        ∧ t.flow f = { entry := BitVec.ofNat 128 e, bucket := if flowValid e then 1000 * flowBurst e else 0 }
        ∧ ∀ g, g ≠ f → t.flow g = s.flow g))

/-- Packets for others are forwarded; requests for this device are served, refused or turned away, and their answers end the access they answer (R246, R402, R409, R413, R418, R419). -/
def Obligations.FabricRequestsAreServedAndAnswered : Prop :=
  (∀ (s : State) (p h : Nat) (data : List (Nat × Bool)), hDest h ≠ s.device → s.portUp p = true → (s.time.synced = true ∨ hClass h = 0) →
      (∀ q vc fo, s.tooOld h = false → s.route (some p) h = some (q, vc, fo) →
        let x : TxPacket := { inPort := some p, header := h, vc := vc, lines := toLines data }
        let y := s.fport q
        ∃ t, exec (.fabricRoute p h data) s = .next t ∧ t.mem = s.mem
          ∧ t.counter 0x80A0 5 0 = (if fo = true then min (2 ^ 64 - 1) (s.counter 0x80A0 5 0 + 1) else s.counter 0x80A0 5 0)
          ∧ (512 ≤ y.replay.length → (t.fport q).waiting = y.waiting ++ [x])
          ∧ (y.replay.length < 512 → y.waiting = [] → y.sending = [] → hClass h ≠ 3 → 0 < y.credit (hSetVc h vc) →
            let fs := (if hClass h = 0 then s.ctrlFlits q x else x.flits).take (min 4 (y.credit (hSetVc h vc)))
            let h' := frameHeader y.txSeq y.rxSeq false 0 fs (y.owed.take 3)
            .frame q h' (frameSlots fs) (frameCrc h' (frameSlots fs)) ∈ t.out))
      ∧ (s.tooOld h = true ∨ s.route (some p) h = none → ∃ t, exec (.fabricRoute p h data) s = .next t
        ∧ (hClass h ≠ 1 → t = { s with mgmt := t.mgmt } ∧ t.counter 0x80A0 6 0 = min (2 ^ 64 - 1) (s.counter 0x80A0 6 0 + 1))))
    ∧ (∀ (s : State) (h c kind : Nat) (data : List (Nat × Bool)) (i : Instr),
      (i, kind) ∈ [(Instr.fabricRead h, 0), (.fabricWrite h data, 1), (.fabricWriteMasked h data, 2)] →
      hDest h = s.device → hOp h = kind → s.pwr.st.railsOn = true → s.time.synced = true → s.tooOld h = false →
      s.endpointOf (hJob h) (hInc h) = some c →
      let a := hAddr h
      let n := 64 * hLen h
      let p := s.peerAccess kind (hSrc h) a (hLen h) (hMask h) c (s.ctx c).gen.toNat (hTag h)
      let ls := if kind = 0 then [] else toLines data
      (((s.ctx c).st.inReset = true ∨ s.pwr.st = .booting ∨ s.pwr.warm ≠ .none) → ∃ t, exec i s = .next t ∧ t.mem = s.mem
        ∧ t.counter 0x8090 4 c = min (2 ^ 64 - 1) (s.counter 0x8090 4 c + 1))
      ∧ ((s.ctx c).st.inReset = false → s.pwr.st ≠ .booting → s.pwr.warm = .none →
        (s.remoteMay c a n (accNeed kind) = false →
          ∃ t, exec i s = .next t ∧ t.mem = s.mem ∧ t.counter 0x80A0 8 c = min (2 ^ 64 - 1) (s.counter 0x80A0 8 c + 1))
        ∧ (s.remoteMay c a n (accNeed kind) = true → s.testedAt a = true →
          ∃ t, exec i s = .next t ∧ t.mem = s.mem ∧ t.counter 0x80D0 5 0 = min (2 ^ 64 - 1) (s.counter 0x80D0 5 0 + 1))
        ∧ (s.remoteMay c a n (accNeed kind) = true → s.testedAt a = false →
          (∀ st, s.targetServe a n = .refuse st → ∃ t, exec i s = .next t ∧ t.mem = s.mem)
          ∧ ((∀ st, s.targetServe a n ≠ .refuse st) → ∃ t, exec i s = .next t
            ∧ (p.lost = true → t.mem = s.mem)
            ∧ (p.lost = false → t.mem = (((s.wakeFor a).reachFor c a n (kind == 1)).perform c kind a (hLen h) (hMask h) ls).1.mem
              ∧ (s.targetServe a n = .go → kind = 0 → t.mem = s.mem)
              ∧ (s.targetServe a n = .go → kind = 1 → isReg a = false → t.mem = (s.writeLines c a (ls.take (hLen h))).mem))))))
    ∧ (∀ (s : State) (h op : Nat) (data : List (Nat × Bool)) (i : Instr),
      (i, op) ∈ [(Instr.fabricRdData h data, 8), (.fabricWrAck h, 9), (.fabricError h, 0xA)] → hDest h = s.device → hOp h = op →
      s.tooOld h = false →
      let found := s.fab.remotes.find? (fun r => r.tag == hTag h && r.device == hSrc h && (op == 0xA || r.isRead == (op == 8)))
      (found = none → exec i s = .next (if s.staleResponse h = true then s.count 0x80A0 9 (hCtx h) 1 else s))
      ∧ (∀ r a, found = some r → s.access? r.acc = some a → s.staleResponse h = true → ∃ t, exec i s = .next t
        ∧ t.fab.remotes = s.fab.remotes.filter (fun x => x.tag != r.tag) ∧ t.mem = s.mem ∧ t.tiles = s.tiles
        ∧ t.accs = s.accs.filter (fun (b : Access) => b.id != a.id)
        ∧ t.counter 0x80A0 9 (hCtx h) = min (2 ^ 64 - 1) (s.counter 0x80A0 9 (hCtx h) + 1))
      ∧ (∀ r a d tl n part o, found = some r → s.access? r.acc = some a → s.staleResponse h = false →
        a.gen = (s.ctx a.ctx).gen.toNat → a.orphan = false → a.req = .op d tl n part →
        (s.tile d tl).op? n = some o → o.streamNeed = 0 → o.streamNeedB = 0 → 2 ≤ o.awaiting →
        ∃ t o', exec i s = .next t ∧ t.fab.remotes = s.fab.remotes.filter (fun x => x.tag != r.tag) ∧ t.mem = s.mem
          ∧ t.accs = s.accs.filter (fun (b : Access) => b.id != a.id)
          ∧ (t.tile d tl).op? n = some o' ∧ o'.awaiting = o.awaiting - 1))
    ∧ (∀ (s : State) (tag : Nat) (r : Remote), s.fab.remotes.find? (fun r => r.tag == tag) = some r →
      ∃ t, exec (.fabricAccessTimeout tag) s = .next t ∧ t.fab.remotes = s.fab.remotes.filter (fun x => x.tag != tag)
        ∧ t.counter 0x80A0 0x0A r.ctx = min (2 ^ 64 - 1) (s.counter 0x80A0 0x0A r.ctx + 1))

/-- Guaranteed transfers are admitted under their bucket, confirmed or reported late; a partition reset fences the contexts that name it (R424, R426, R427, R430). -/
def Obligations.GuaranteedFlowsAndPartitions : Prop :=
  (∀ (s : State) (flow len coll p vc h : Nat) (fo : Bool) (ls : List Line) (rest : List (Nat × List Line)),
      let f := s.flow flow
      let h' := h % 2 ^ 448 - at_ 308 32 (hSeq h) + at_ 308 32 f.nextSeq + at_ 448 64 s.ftc
      let y := s.fport p
      let x : TxPacket := { inPort := none, header := h', vc := vc, lines := ls }
      f.waiting = (h, ls) :: rest → hLen h = len → hTag h = coll → hClass h' = 1 → flowValid f.entry.toNat = true →
      1000 * (64 * (1 + len)) ≤ f.bucket → f.transfers.length < 4096 → s.time.synced = true → s.tooOld h' = false →
      s.route none h' = some (p, vc, fo) →
      ∃ t, exec (.guaranteedAdmit flow len coll) s = .next t ∧ t.mem = s.mem
        ∧ (y.replay.length < 512 → y.waiting = [] → y.sending = [] → 0 < y.credit (hSetVc h' vc) →
          let fs := x.flits.take (min 4 (y.credit (hSetVc h' vc)))
          let q := frameHeader y.txSeq y.rxSeq false 0 fs (y.owed.take 3)
          .frame p q (frameSlots fs) (frameCrc q (frameSlots fs)) ∈ t.out)
        ∧ t.flow flow = { f with
            waiting := rest
            bucket := f.bucket - 1000 * (64 * (1 + len))
            nextSeq := (f.nextSeq + 1) % 2 ^ 32
            transfers := f.transfers ++ [{ seq := f.nextSeq, birth := s.ftc, collId := coll }] })
    ∧ (∀ (s : State) (h : Nat), (s.isCtrl h 3 = false → exec (.delivered h) s = .next s)
      ∧ (s.isCtrl h 3 = true → s.tooOld h = false → ∃ t, exec (.delivered h) s = .next t ∧ t = { s with fab := t.fab }
        ∧ (t.flow (hFlow h)).transfers = (s.flow (hFlow h)).transfers.filter (fun x => decide (hSeq h < x.seq))))
    ∧ (∀ (s : State) (flow seq : Nat) (x : Transfer) (i : Instr),
      i = .unconfirmedTimeout flow seq ∨
        (∃ h, i = .lateNotice h ∧ s.isCtrl h 2 = true ∧ s.tooOld h = false ∧ hFlow h = flow ∧ hSeq h = seq) →
      (s.flow flow).transfers.find? (fun t => t.seq == seq && !t.reported) = some x →
      let c := flowCtx (s.flow flow).entry.toNat
      ∃ t, exec i s = .next t ∧ (t.flow flow).transfers = (s.flow flow).transfers.filter (fun y => y.seq != seq)
        ∧ t.counter 0x80A0 7 c = min (2 ^ 64 - 1) (s.counter 0x80A0 7 c + 1))
    ∧ (∀ (s : State) (src flow : Nat) (r : RxFlow), s.fab.rxFlows.find? (fun r => r.src == src && r.flow == flow && r.owed) = some r →
      ∃ t, exec (.deliveredTimer src flow) s = .next t ∧ t.mem = s.mem
        ∧ ∀ x ∈ t.fab.rxFlows, x.src = src → x.flow = flow → x.owed = false)
    ∧ (∀ (s : State) (pid dev c : Nat) (i : Instr),
      (∃ h, i = .partReset h ∧ s.isCtrl h 4 = true ∧ s.tooOld h = false ∧ fld (hArg h) 0 16 = pid ∧ fld (hArg h) 16 18 = dev)
        ∨ (i = .partResetRequest pid ∧ pid < 65536 ∧ dev = s.device ∧ s.partOf pid ≠ none) →
      1 ≤ c → c < 16 → partValid (s.partition (epPart (s.endpoint c))) = true →
      partId (s.partition (epPart (s.endpoint c))) = pid → (s.ctx c).st = .active →
      ∃ t, exec i s = .next t ∧ (t.ctx c).st = .fencing
        ∧ ∃ r, (t.ctx c).reset? = some r ∧ r.cause = .partition ∧ r.endsActive = true ∧ r.arg1 = dev)

/-- A collective starts or fails its node, readies and chunks move it on, and an abort or timeout ends it (R433, R434, R438). -/
def Obligations.CollectivesStartMoveAndEnd : Prop :=
  (∀ (s : State) (c node : Nat) (g : Graph) (n : Node), (s.ctx c).graph = some g → g.node? node = some n → n.kind = 2 →
      n.st = .inFlight → n.launched = true → s.coll? c node = none → (s.ctx c).st = .active → (∀ a n, s.zeroingAt a n = false) →
      (∀ st, s.collCheck c n.work = some st → ∃ t g', exec (.collectiveStart c node) s = .next t ∧ (t.ctx c).graph = some g'
        ∧ SMap.get false g'.done node = true ∧ (st ≠ .ok → g'.failed = true))
      ∧ (s.collCheck c n.work = none → 16 ≤ (s.fab.colls.filter (fun k => k.running && cdEngine k.d == cdEngine (s.memNat n.work 64))).length →
        ∃ t k, exec (.collectiveStart c node) s = .next t ∧ t.fab.colls = s.fab.colls ++ [k] ∧ k.ctx = c ∧ k.node = node
          ∧ k.running = false ∧ k.desc = BitVec.ofNat 512 (s.memNat n.work 64) ∧ k.members = s.memberList (s.memNat n.work 64)))
    ∧ (∀ (s : State) (h c : Nat), hDest h = s.device → hOp h = 5 → s.tooOld h = false → s.endpointOf (hJob h) (hInc h) = some c →
      (s.collOf c (hTag h) = none → ∃ t, exec (.collReady h) s = .next t ∧ t = { s with fab := t.fab }
        ∧ (c, hTag h, hSrc h, hAddr h) ∈ t.fab.earlyReady ∧ t.fab.colls = s.fab.colls)
      ∧ (∀ k rank, s.collOf c (hTag h) = some k → s.coll? k.ctx k.node = some k → k.members.idxOf? (hSrc h) = some rank →
        let r := SMap.set 0 k.ready rank (hAddr h + 1)
        let k' := { k with
          ready := r
          toSend := k.toSend.filter (fun x => SMap.get 0 r x.rank == 0) }
        k'.complete = false → ∃ t, exec (.collReady h) s = .next t ∧ t.mem = s.mem ∧ t.coll? k.ctx k.node = some k'))
    ∧ (∀ (s : State) (c chunk : Nat) (headers : List Nat) (data : List (Nat × Bool)) (k : Coll),
      let h := headers.headD 0
      let ls := toLines data
      (∀ x ∈ headers, hDest x = s.device ∧ hOp x = 4 ∧ hClass x ≠ 1 ∧ s.tooOld x = false ∧ hJob x = hJob h ∧ hInc x = hInc h
        ∧ k.fromRank chunk x = true ∧ ∀ i, i < hLen x → isReg (hAddr x + 64 * i) = false) →
      s.time.synced = true → s.endpointOf (hJob h) (hInc h) = some c → s.collOf c (hTag h) = some k → k.running = true →
      s.coll? k.ctx k.node = some k → ls.length = (headers.map hLen).sum → ls.length = (cdChunkBytes k.d chunk + 63) / 64 →
      cdChunkUnits k.d chunk ≠ 0 → chunk < k.n → chunk ≠ k.own → anchorsOk k.d ls = true → SMap.get false k.landed chunk = false →
      cdOp k.d = 1 ∨ cdOp k.d = 2 → (∀ a n, s.zeroingAt a n = false) →
      let k' := { k with
        landed := SMap.set false k.landed chunk true
        poison := k.poison || ls.any (·.poison) }
      k'.complete = false →
      ∃ t, exec (.collData chunk chunk 1 headers data) s = .next t ∧ t.coll? k.ctx k.node = some k'
        ∧ t.mem = ((s.scratchIn k headers ls).unpackLines (cdDstAt k.d chunk) (cdChunkBytes k.d chunk)
          (if cdFormat k.d = 9 then ancRecount (cdAnchor k.d) ls else ls)).mem)
    ∧ (∀ (s : State) (c id : Nat) (k : Coll) (g : Graph) (n : Node) (i : Instr),
      i = .collectiveTimeout id c ∨
        (∃ h, i = .collAbort h ∧ s.isCtrl h 1 = true ∧ s.tooOld h = false ∧ s.endpointOf (hJob h) (hInc h) = some c ∧ hTag h = id) →
      s.collOf c id = some k → (s.ctx c).graph = some g → g.node? k.node = some n →
      ∃ t g', exec i s = .next t ∧ (∀ x ∈ t.fab.colls, ¬ (x.ctx = c ∧ x.node = k.node))
        ∧ t.counter 0x80A0 0x0C c = min (2 ^ 64 - 1) (s.counter 0x80A0 0x0C c + 1)
        ∧ (t.ctx c).graph = some g' ∧ SMap.get false g'.done k.node = true ∧ g'.failed = true)

/-- Sync messages go out on every port that is up, echoes give offsets, and the time is acquired, founded at the root and steered (R407, R444, R445, R446, R447). -/
def Obligations.FabricTimeIsAcquiredAndSteered : Prop :=
  (∀ (s : State), ∃ t, exec .timeSyncTimer s = .next t ∧ t = { s with fab := t.fab, time := t.time, out := t.out }
      ∧ t.time = (if s.pwr.st.railsOn = true then s.sliceLinks.foldl FTime.sliceExchange s.time else s.time)
      ∧ ∀ p, p < 16 → s.portUp p = true →
        let y := s.fport p
        let x : TxPacket := { header := ({ dest := y.peerDevice, op := 0xC, cls := 0, arg := s.syncArg } : Hdr).bits s.ftc s.device }
        s.tooOld x.header = false → y.waiting = [] → y.sending = [] → y.replay.length < 512 → 0 < y.credit (hSetVc x.header 0) →
        let fs := s.ctrlFlits p x
        let h' := frameHeader y.txSeq y.rxSeq false 0 fs (y.owed.take 3)
        .frame p h' (frameSlots fs) (frameCrc h' (frameSlots fs)) ∈ t.out)
    ∧ (∀ (s : State) (p arg : Nat), s.portUp p = true → ∃ t, exec (.timeSync p arg) s = .next t
      ∧ t = { s with fab := t.fab, time := t.time, out := t.out }
      ∧ (t.fport p).nSync = bitOf arg 79 ∧ (t.fport p).nDist = fld arg 71 8 ∧ (t.fport p).nTime = fld arg 80 64
      ∧ (let y := s.fport p
        let echo := at_ 144 5 9 + at_ 80 64 (fld arg 80 64) + at_ 16 64 (s.stampAt (p / 4))
        let x : TxPacket := { header := ({ dest := y.peerDevice, op := 0xC, cls := 0, arg := echo } : Hdr).bits s.ftc s.device }
        s.tooOld x.header = false → y.waiting = [] → y.sending = [] → y.replay.length < 512 → 0 < y.credit (hSetVc x.header 0) →
        let fs := s.ctrlFlits p x
        let h' := frameHeader y.txSeq y.rxSeq false 0 fs (y.owed.take 3)
        .frame p h' (frameSlots fs) (frameCrc h' (frameSlots fs)) ∈ t.out))
    ∧ (∀ (s : State) (p arg t4 : Nat), s.portUp p = true →
      let t1 : Int := fld arg 80 64
      let t2 : Int := fld arg 16 64
      let hold : Int := fld arg 0 16
      let delay := ((t4 - t1) - hold) / 2
      let begins := s.time.synced = false ∧ (s.fport p).nSync = true ∧ 15 ≤ SMap.get 0 s.time.exchanges p ∧ s.mayAcquire = true
      ∃ t, exec (.timeEcho p arg t4) s = .next t
        ∧ (¬ begins → (t.fport p).ests = ((s.fport p).ests ++ [(t2 - t1) - delay]).drop ((s.fport p).ests.length - 15)
          ∧ t.time.synced = s.time.synced)
        ∧ (begins → t.time.synced = true ∧ t.time.ftc16 = (t2 + hold + delay).toNat ∧ t.fab.unsent = []))
    ∧ (∀ (s : State), s.time.synced = false → s.isRoot = true → s.mayAcquire = true →
      (∃ p, p < 16 ∧ s.portPresent p = true ∧ (s.fport p).neverUp = false) →
      (∀ p, p < 16 → s.portUp p = true → (s.fport p).nSync = false) →
      ∃ t, exec .timeRootTimeout s = .next t ∧ t.fab.unsent = [] ∧ t.time = { s.time with
          ftc16 := 16
          synced := true
          exchanges := []
          rootDist := 0
          parents := 0
          holdover := false })
    ∧ (∀ (s : State), s.findParents.time.synced = true → s.findParents.time.parents ≠ 0 →
      ∃ t, exec .ftcSteer s = .next t ∧ t = { s with time := t.time } ∧ t.time.offset = s.findParents.meanOffset
        ∧ t.time.rate = max (-100000) (min 100000 (s.findParents.meanOffset * 10 / 16)))

/-- A VIN_CORE warning starts a stretch and raises checking, its end bounds the raise, and repeated dips mark a supply suspect (R480, R482, R531). -/
def Obligations.DipsStretchAndMarkSupplies : Prop :=
  (∀ (s : State), s.pwr.core = true → s.pwr.st ≠ .standby → s.pwr.stretchReal = false →
      ∃ t, exec .vinCoreWarning s = .next t ∧ t.pwr.stretch = true ∧ t.pwr.stretchReal = true
        ∧ t.counter 0x80C0 5 0 = min (2 ^ 64 - 1) (s.counter 0x80C0 5 0 + 1)
        ∧ (s.pwr.stretch = false → ∀ d, d < s.factory.computeDies → SMap.get false (t.die d).raiseOpen 0 = true))
    ∧ (∀ (s : State), s.pwr.stretchReal = true → s.pwr.stretchReh = false → ∃ t, exec .dipStretchEnd s = .next t ∧ t.mem = s.mem
      ∧ t.pwr.stretch = false ∧ t.pwr.stretchReal = false
      ∧ ∀ d, d < s.factory.computeDies → SMap.get false (t.die d).raiseOpen 0 = false
        ∧ (t.die d).raise = 1 + s.pwr.uptime + 100000000)
    ∧ (∀ (s : State) (d : Nat), (s.die d).raise ≤ s.pwr.uptime + 1 → ∃ t, exec (.checkRaiseEnd d) s = .next t ∧ t = { s with dies := t.dies }
      ∧ t.die d = { s.die d with raise := 0 } ∧ ∀ e, e ≠ d → t.die e = s.die e)
    ∧ (∀ (s : State), s.pwr.io = true → s.pwr.st ≠ .standby → ∃ t, exec .vinIoWarning s = .next t ∧ t.mem = s.mem
      ∧ t.counter 0x80C0 5 1 = min (2 ^ 64 - 1) (s.counter 0x80C0 5 1 + 1)
      ∧ (4 ≤ ((s.cur.dips.filter (fun d => decide (s.pwr.uptime < d.2 + 60000000000))).filter (fun d => d.1 == 1)).length →
        SMap.get false t.cur.suspect 1 = true))
    ∧ (∀ (s : State) (u : Nat), SMap.get false s.cur.suspect u = true →
      (∀ d ∈ s.cur.dips, d.1 = u → d.2 + 600000000000 ≤ s.pwr.uptime) → ∃ t, exec (.supplySuspectClear u) s = .next t
      ∧ t.mem = s.mem ∧ SMap.get false t.cur.suspect u = false
      ∧ (u = 0 → ∀ d, d < s.factory.computeDies → SMap.get false (t.die d).raiseOpen 1 = false))

/-- Scores recover and are saved; a due unit is deaccessioned, or deferred at the limit; the field catalogue and licences take their entries (R486, R487, R489, R496, R497, R498). -/
def Obligations.DeaccessionsFollowThePolicy : Prop :=
  (∀ (s : State) (u : Nat), s.recoverS ≠ 0 → s.score u ≠ 255 →
      SMap.get 0 s.cur.eventAt u + s.recoverS * 1000000000 ≤ s.pwr.uptime → ∃ t, exec (.scoreRecover u) s = .next t
      ∧ t = { s with cur := { s.cur with
            lost := t.cur.lost
            eventAt := t.cur.eventAt } } ∧ t.score u = s.score u + 1
      ∧ ∀ v, v ≠ u → t.score v = s.score v)
    ∧ (∀ (s : State), ∃ t, exec .scoreSave s = .next t ∧ t = { s with flash := t.flash } ∧ t.flash.lost = s.cur.lost)
    ∧ (∀ (s : State) (u : Nat),
      SMap.get false s.cur.due u = true → s.inMove u = false →
      let hard := SMap.get false s.cur.hard u
      let many := s.deaccLimit ≤ s.recentOf (s.homeDie u)
      (hard = true ∨ (s.healthMode = 2 ∧ s.inWindowOf u = false ∧ s.unitHeld u = false ∧ s.cur.retests.contains u = false)) →
      (hard = true ∨ ¬ many → ∃ t, exec (.deaccession u) s = .next t ∧ SMap.get false t.cur.due u = false
        ∧ t.counter 0x80C0 7 0 = min (2 ^ 64 - 1) (s.counter 0x80C0 7 0 + 1)
        ∧ (∃ e ∈ t.cur.pendingAppends, e.unit = u ∧ e.kind = 1)
        ∧ (unitClass u = 0 → SMap.get false t.cur.retired (unitName u) = true)
        ∧ (unitClass u = 2 ∨ unitClass u = 3 → (s.die (unitDie u)).tableSw.written = false → (t.die (unitDie u)).tableSw.active = true)
        ∧ (unitClass u = 4 → SMap.get false t.hbm.fenced (unitUnit u * 16 + unitSub u) = true)
        ∧ (unitClass u = 5 → (t.fport (unitUnit u)).st = .retired))
      ∧ (hard = false → many → ∃ t, exec (.deaccession u) s = .next t ∧ SMap.get false t.cur.deferred u = true
        ∧ SMap.get false t.cur.due u = true ∧ t.cur.retired = s.cur.retired))
    ∧ (∀ (s : State) (dom : Nat), (∃ h ∈ s.cur.holds, h.domain = dom ∧ h.until_ ≤ s.pwr.uptime) → ∃ t, exec (.commonCauseEnd dom) s = .next t ∧ t.mem = s.mem
      ∧ t.cur.holds = s.cur.holds.filter (fun h => h.domain != dom) ∧ (∀ u ∈ s.retestUnits dom, u ∈ t.cur.retests))
    ∧ (∀ (s : State) (p : OwedEntry) (ps : List OwedEntry), s.cur.pendingAppends = p :: ps →
      ∃ t, exec .fieldCatalogueAppend s = .next t ∧ t.cur.pendingAppends = ps
        ∧ (t.fieldCopy.getD {}).writes = (s.fieldCopy.getD {}).writes + 1
        ∧ (s.field.length < 4096 → ∃ e, t.field = s.field ++ [e])
        ∧ t.counter 0x8030 1 0 = min (2 ^ 64 - 1) (s.counter 0x8030 1 0 + 1))
    ∧ (∀ (s : State) (v : Nat), let bad := 2 ^ 28 ≤ v ∨ 6 ≤ unitClass v ∨ s.defect v = true
      (bad → exec (.catReaccession v) s = .next s)
      ∧ (¬ bad → ∃ t, exec (.catReaccession v) s = .next t ∧ t.mem = s.mem
        ∧ t.cur.pendingAppends = s.cur.pendingAppends ++ [{ unit := v, kind := 2, time := s.recordTime }]))
    ∧ (∀ (s : State) (r : Nat), ∃ t, exec (.licInstall r) s = .next t ∧ t.cat.licStatus = s.licCheck r
      ∧ (s.licCheck r ≠ 0 → t.flash = s.flash ∧ t.counter 0x8030 2 0 = min (2 ^ 64 - 1) (s.counter 0x8030 2 0 + 1))
      ∧ (s.licCheck r = 0 → s.flash.licences.any (fun x => licNonce x.toNat == licNonce r) = false →
        t.flash = { s.flash with licences := s.flash.licences ++ [BitVec.ofNat 1152 r] }))

/-- A re-placement drains, writes its routes and moves the logical tile to its new site, or abandons what does not drain (R355, R490, R492, R493). -/
def Obligations.ReplacementsMoveTheirTile : Prop :=
  (∀ (s : State) (die tile : Nat) (r : Replacement), s.moveOf die tile = some r → r.spareOk = true → (s.tile die tile).stopped = true →
      (s.tile die tile).ops = [] → (s.tile die tile).checks = [] →
      (∀ a ∈ s.accs, ∀ off, a.st = .sent → a.device = s.device → place a.addr ≠ .tileWin die tile off) →
      ∃ t, exec (.replacementDrained die tile) s = .next t ∧ t = { s with cur := t.cur }
        ∧ t.moveOf die tile = some { r with drained := true })
    ∧ (∀ (s : State) (die tile : Nat) (r : Replacement), s.moveOf die tile = some r →
      r.drained = true → r.exchange ≠ some tile →
      (s.darnTile die tile r.oldSite r.newSite = none → exec (.replacementRoutesWritten die tile) s = .next (s.retryMove r))
      ∧ ((s.darnTile die tile r.oldSite r.newSite).isSome = true →
      ∃ t, exec (.replacementRoutesWritten die tile) s = .next t ∧ t.siteOf die tile = some r.newSite ∧ t.moveOf die tile = none
        ∧ (t.tile die tile).stopped = false ∧ (t.tile die tile).underTest = false ∧ ¬ r.newSite ∈ (t.die die).spares
        ∧ t.counter 0x80C0 8 0 = min (2 ^ 64 - 1) (s.counter 0x80C0 8 0 + 1)))
    ∧ (∀ (s : State) (die tile k : Nat) (r : Replacement), s.moveOf die tile = some r → (s.tile die tile).stopped = true →
      r.drained = false → k < 4 → (s.tile die tile).ops.any (fun o => o.slot == k) = true →
      ∃ t, exec (.replacementAbandon die tile) s = .next t ∧ (t.tile die tile).ops.any (fun o => o.slot == k) = false
        ∧ (((s.tile die tile).slot k).st = .current → ((t.tile die tile).slot k).st = .halted
          ∧ ((t.tile die tile).slot k).haltStatus = .retired))
    ∧ (∀ (s : State) (die site tile x : Nat), s.tileAt die site = some tile → (s.sliceAt die site).st = .due →
      s.grantKind die site = 0 → (s.sliceAt die site).dueSince + s.obj 0x5024 3 0 * 1000000000 ≤ s.pwr.uptime →
      s.moveOf die tile = none → s.cur.replacements.any (fun r => r.die == die && r.newSite == site) = false →
      s.lastSpare {
        die := die, tile := tile, oldSite := site, startNs := s.pwr.uptime, relief := true
        scoreBefore := s.score (siteAddr die site) } = some x →
      ∃ t m, exec (.sliceRelief die site) s = .next t ∧ t = { s with cur := t.cur, test := t.test }
        ∧ t.cur.replacements = s.cur.replacements ++ [m] ∧ m.die = die ∧ m.tile = tile ∧ m.oldSite = site ∧ m.newSite = x
        ∧ m.relief = true ∧ m.spareOk = false)

/-- A slice comes due, is granted with its tile isolated, ends in one of three ways, re-initialises its site, and is counted when overdue (R510, R511, R513, R514, R515, R525). -/
def Obligations.TestSlicesRunTheirCourse : Prop :=
  (∀ (s : State) (die site : Nat), (s.sliceAt die site).st = .none → s.goodSite die site = true →
      (s.obj 0x4010 1 0 = 1 ∧ s.obj 0x4010 2 0 * 1000000000 ≤ s.sliceAge die site) ∨ (s.neededSpare die site = true) →
      ∃ t, exec (.sliceDue die site) s = .next t ∧ t = { s with test := t.test } ∧ t.sliceAt die site = { s.sliceAt die site with
          st := .due
          dueSince := s.pwr.uptime })
    ∧ (∀ (s : State) (die site : Nat), (s.sliceAt die site).st = .due → s.grantKind die site ≠ 0 → s.pwr.st = .ready →
      s.pwr.stretch = false → (s.obj 0x4010 1 0 = 1 ∨ s.neededSpare die site = true) → s.slicesOn die < s.obj 0x4010 3 0 → s.sliceBehind die site = false →
      ∃ t, exec (.sliceGrant die site) s = .next t ∧ t.mem = s.mem ∧ (t.sliceAt die site).st = .running
        ∧ ∀ tile, s.tileAt die site = some tile → (t.tile die tile).underTest = true)
    ∧ (∀ (s : State) (die site res dur : Nat) (fails : List Nat), (s.sliceAt die site).st = .running → res < 3 →
      (s.sliceAt die site).rehearsed = false →
      ∃ t, exec (.sliceEnd die site res dur fails) s = .next t
        ∧ (t.sliceAt die site).st = (if res = 1 then .isolated else .reinit) ∧ (t.sliceAt die site).grant = 0
        ∧ (res = 2 → t.counter 0x80D0 3 0 = min (2 ^ 64 - 1) (s.counter 0x80D0 3 0 + 1))
        ∧ (res ≠ 2 → t.counter 0x80D0 1 0 = min (2 ^ 64 - 1) (s.counter 0x80D0 1 0 + 1))
        ∧ (res = 1 → t.counter 0x80D0 2 0 = min (2 ^ 64 - 1) (s.counter 0x80D0 2 0 + 1)))
    ∧ (∀ (s : State) (die site : Nat), (s.sliceAt die site).st = .reinit → (s.sliceAt die site).again = false →
      (s.sliceAt die site).rehNext = false →
      ∃ t, exec (.sliceReinitDone die site) s = .next t ∧ (t.sliceAt die site).st = .none
        ∧ (∀ tile, s.tileAt die site = some tile → (t.tile die tile).underTest = false)
        ∧ (∀ r ∈ t.cur.replacements, r.die = die → r.newSite = site → r.spareOk = true))
    ∧ (∀ (s : State) (die site : Nat), s.goodSite die site = true → (s.sliceAt die site).overdue = false →
      (s.sliceAt die site).st ≠ .running → (s.sliceAt die site).st ≠ .reinit →
      60000000000 ≤ s.sliceAge die site → ∃ t, exec (.sliceOverdue die site) s = .next t ∧ t.sliceAt die site = { s.sliceAt die site with overdue := true }
        ∧ t.counter 0x80D0 4 0 = min (2 ^ 64 - 1) (s.counter 0x80D0 4 0 + 1))

/-- A failed analogue check waits for its retry; a retry that fails counts and marks the part, one that passes clears the wait (R517, R518, R525). -/
def Obligations.AnalogueChecksRetryThenCount : Prop :=
  (∀ (s : State) (i : Instr) (check unit : Nat),
      ((∃ p, s.portPresent p = true ∧ (s.fport p).st = .down ∧ i = .opticalLoopbackCheck p false ∧ check = 0 ∧ unit = p)
      ∨ (∃ p w, s.portUp p = true ∧ fld w 0 8 ≠ 0 ∧ i = .rxPowerCheck p w ∧ check = 1 ∧ unit = p * 2 ^ 16 + fld w 0 8)
      ∨ (∃ d, d < s.factory.ioDies ∧ i = .laserPowerCheck d false ∧ check = 2 ∧ unit = d)
      ∨ (∃ k u, k < 5 ∧ u < 2 ^ 16 ∧ i = .pllLockLoss k u ∧ check = 3 ∧ unit = k * 2 ^ 16 + u)
      ∨ (∃ k u, k < 5 ∧ u < 2 ^ 16 ∧ i = .pllJitterCheck k u false ∧ check = 4 ∧ unit = k * 2 ^ 16 + u)
      ∨ (∃ st c, s.stackFitted st = true ∧ c < 16 ∧ (SMap.get 0 s.hbm.refresh (st * 32 + 2 * c) ≠ 0 ∨ SMap.get 0 s.hbm.refresh (st * 32 + 2 * c + 1) ≠ 0) ∧ i = .hbmEyeCheck st c false
        ∧ check = 5 ∧ unit = st * 16 + c)
      ∨ (∃ r, r < 29 ∧ i = .vsenseCrossCheck r false ∧ check = 6 ∧ unit = r)) →
      ∃ t, exec i s = .next t ∧ t = { s with test := t.test } ∧ SMap.get 0 t.test.retry (checkKey check unit) = s.pwr.uptime + 1
        ∧ t.test.analogue = s.test.analogue ∧ (check = 6 → SMap.get 0 t.test.analoguePass unit = 0))
    ∧ (∀ (s : State) (p : Nat), s.portPresent p = true → (s.fport p).st = .down → ∃ t, exec (.opticalLoopbackCheck p true) s = .next t
      ∧ t = { s with fab := t.fab } ∧ t.fport p = { s.fport p with loopFail := false })
    ∧ (∀ (s : State) (r : Nat), r < 29 → SMap.get false s.test.analogue r = true → ∃ t, exec (.vsenseCrossCheck r true) s = .next t
      ∧ t = { s with test := t.test }
      ∧ (SMap.get 0 s.test.analoguePass r < 9 → SMap.get false t.test.analogue r = true
        ∧ SMap.get 0 t.test.analoguePass r = SMap.get 0 s.test.analoguePass r + 1)
      ∧ (9 ≤ SMap.get 0 s.test.analoguePass r → SMap.get false t.test.analogue r = false ∧ SMap.get 0 t.test.analoguePass r = 0))
    ∧ (∀ (s : State) (check unit : Nat), SMap.get 0 s.test.retry (checkKey check unit) ≠ 0 →
      SMap.get 0 s.test.retry (checkKey check unit) + 10000000 ≤ s.pwr.uptime + 1 →
      (∃ t, exec (.analogueRetry check unit true) s = .next t ∧ t = { s with test := t.test }
        ∧ SMap.get 0 t.test.retry (checkKey check unit) = 0)
      ∧ (∃ t, exec (.analogueRetry check unit false) s = .next t ∧ SMap.get 0 t.test.retry (checkKey check unit) = 0
        ∧ t.counter 0x80D0 6 0 = min (2 ^ 64 - 1) (s.counter 0x80D0 6 0 + 1)
        ∧ (check = 0 → (t.fport unit).loopFail = true) ∧ (check = 6 → SMap.get false t.test.analogue unit = true)))

/-- A rehearsal request is refused with its code, kept for its time, or injected at once with the fault its kind names (R519, R520, R521, R522). -/
def Obligations.RehearsalsAreCheckedAndInjected : Prop :=
  (∀ (s : State) (c v : Nat), c < 16 → ∃ t, exec (.rehearsalConsentWrite c v) s = .next t ∧ t = { s with mgmt := t.mgmt }
      ∧ t.obj 0x4011 0 c = at_ 8 8 (fld v 8 8) + (s.ctx c).gen.toNat)
    ∧ (∀ (s : State) (r : Nat) (c : Nat → Instr), r < 2 ^ 256 →
      (c, injKind r) ∈ [(Instr.rehTileFault, 1), (.rehCheckMismatch, 2), (.rehPoison, 3), (.rehLinkDrop, 4), (.rehQueueStall, 5),
        (.rehHang, 6), (.rehBrownoutWarn, 7)] →
      let code := s.injCheck r s.test.injects
      let d := injDie r
      let u := injUnit r
      (code ≠ 0 → ∃ t, exec (c r) s = .next t ∧ t.mem = s.mem ∧ t.test.injects = s.test.injects
        ∧ t.test.rehStatus = BitVec.ofNat 32 (at_ 16 16 (injId r) + at_ 0 8 code)
        ∧ t.counter 0x80D0 8 0 = min (2 ^ 64 - 1) (s.counter 0x80D0 8 0 + 1))
      ∧ (code = 0 → s.ftc < injAt r → ∃ t, exec (c r) s = .next t ∧ t = { s with test := t.test }
        ∧ t.test.injects = s.test.injects ++ [{ record := BitVec.ofNat 256 r, unit := s.injCharged r }])
      ∧ (code = 0 → injAt r ≤ s.ftc → ∃ t, exec (c r) s = .next t
        ∧ (∃ i ∈ t.test.injects, i.record = BitVec.ofNat 256 r ∧ i.active = true)
        ∧ t.counter 0x80D0 7 0 = min (2 ^ 64 - 1) (s.counter 0x80D0 7 0 + 1)
        ∧ (injKind r = 1 → ∀ site, s.siteOf d u = some site → (t.sliceAt d site).st = .running ∨ (t.sliceAt d site).rehNext = true)
        ∧ (injKind r = 2 → (t.tile d u).rehMismatch = injCount r ∧ (t.tile d u).rehCtx = injCtx r)
        ∧ (injKind r = 3 → (t.memRead (injAddr r / 64 * 64) 64).2 = true)
        ∧ (injKind r = 4 → injCls r = 5 → (t.fport u).rehDown = true)
        ∧ (injKind r = 4 → injCls r ≠ 5 → SMap.get false t.cur.hard (linkName d (siteOfPack u) (injSel r)) = true)
        ∧ (injKind r = 5 → ((t.tile d u).queue (injSel r)).rehStall = true)
        ∧ (injKind r = 6 → ((t.tile d u).slot (injSel r)).rehHang = true)
        ∧ (injKind r = 7 → u = 0 → t.pwr.stretch = true ∧ t.pwr.stretchReh = true)))

/-- A kept rehearsal is checked again at its time, a cancelled one goes, and an ended one leaves once what it started is over (R520, R522, R523, R524). -/
def Obligations.RehearsalsComeDueAndEnd : Prop :=
  (∀ (s : State) (n : Nat) (i : Inject), s.test.injects.find? (fun i => injId i.record.toNat == n && !i.active && decide (injAt i.record.toNat ≤ s.ftc)) = some i →
      let r := i.record.toNat
      let s' := s.setInject i none
      (s'.injCheck r s'.test.injects = 0 → ∃ t, exec (.rehearsalAtFtc n) s = .next t
        ∧ (∃ j ∈ t.test.injects, j.record = i.record ∧ j.active = true)
        ∧ t.counter 0x80D0 7 0 = min (2 ^ 64 - 1) (s.counter 0x80D0 7 0 + 1))
      ∧ (s'.injCheck r s'.test.injects ≠ 0 → ∃ t, exec (.rehearsalAtFtc n) s = .next t ∧ t.test.injects = s'.test.injects
        ∧ t.test.rehStatus = BitVec.ofNat 32 (at_ 16 16 (injId r) + at_ 0 8 (s'.injCheck r s'.test.injects))
        ∧ t.counter 0x80D0 8 0 = min (2 ^ 64 - 1) (s.counter 0x80D0 8 0 + 1)))
    ∧ (∀ (s : State) (r : Nat), r < 2 ^ 256 → injKind r = 0 →
      (∀ i, s.test.injects.find? (fun i => injId i.record.toNat == injId r) = some i → i.active = false →
        ∃ t, exec (.rehCancel r) s = .next t ∧ t = { s with test := t.test }
          ∧ t.test.rehStatus = BitVec.ofNat 32 (at_ 16 16 (injId r))
          ∧ t.test.injects = (s.setInject i none).test.injects
          ∧ rehEntryBits 0 s.ftc i.record.toNat 0 0 ∈ t.test.rehLog)
      ∧ (s.test.injects.find? (fun i => injId i.record.toNat == injId r) = none → ∃ t, exec (.rehCancel r) s = .next t
        ∧ t.test.injects = s.test.injects ∧ t.test.rehStatus = BitVec.ofNat 32 (at_ 16 16 (injId r) + 2)
        ∧ t.counter 0x80D0 8 0 = min (2 ^ 64 - 1) (s.counter 0x80D0 8 0 + 1)))
    ∧ (∀ (s : State) (n : Nat) (i : Inject), s.test.injects.find? (fun i => injId i.record.toNat == n && i.active && s.injOver i) = some i →
      let s' := if i.spent = true ∨ injKind i.record.toNat = 1 then s else s.injStop i.record.toNat
      ∃ t, exec (.rehearsalEnd n) s = .next t
        ∧ (s'.rehRunning i = false → t.test.injects = (s.setInject i none).test.injects
          ∧ rehEntryBits i.startFtc s'.ftc i.record.toNat 0 i.mask ∈ t.test.rehLog)
        ∧ (s'.rehRunning i = true → t = s'.setInject i (some { i with spent := true })))

/-- Supplies in order bring the module up, out of order or too high hold it; resets wipe its state and sleep keeps it off (R395, R527, R528, R529, R531, R537). -/
def Obligations.SuppliesAndResetsMoveTheModule : Prop :=
  ∀ (s : State),
    (s.pwr.ana = false → ∃ t, exec .vinAnaPresent s = .next t ∧ t.pwr.ctrlOn = true ∧ t.pwr.ana = true
      ∧ (s.pwr.io = false → s.pwr.core = false → t.pwr.st = s.waitSt ∧ t.mem = s.mem)
      ∧ (s.pwr.io = true ∨ s.pwr.core = true → t.pwr.st = .held ∧ t.flash.lastFault = 1))
    ∧ (s.pwr.io = false → s.pwr.ctrlOn = true → ∃ t, exec .vinIoPresent s = .next t ∧ t.pwr.io = true
      ∧ (s.ioInOrder = true → t = { s with pwr := t.pwr } ∧ t.pwr.st = s.pwr.st)
      ∧ (s.ioInOrder = false → s.pwr.heldSeq = false → t.pwr.st = .held ∧ t.pwr.heldSeq = true ∧ t.flash.lastFault = 1
        ∧ t.counter 0x80E0 1 0 = min (2 ^ 64 - 1) (s.counter 0x80E0 1 0 + 1)))
    ∧ (s.pwr.core = false → s.pwr.ctrlOn = true → s.pwr.st = .standby → ∃ t, exec .vinCorePresent s = .next t ∧ t.pwr.core = true
      ∧ (s.coreInOrder = true → t.pwr.st = .booting ∧ t.pwr.phase = 1)
      ∧ (s.coreInOrder = false → s.pwr.heldSeq = false → t.pwr.st = .held ∧ t.pwr.heldSeq = true ∧ t.flash.lastFault = 1))
    ∧ (s.pwr.core = true → s.pwr.st.drops = true → s.pwr.ctrlOn = true → ∃ t, exec (.supplyAbsent 0) s = .next t
      ∧ t.pwr.st = .standby ∧ t.pwr.core = false ∧ t.pwr.coreAbsent = true ∧ t.mem = [] ∧ t.factory = s.factory)
    ∧ (s.pwr.st = .held → s.pwr.ioAbsent = true → s.pwr.coreAbsent = true →
      s.pwr.absentSince + 100000000 ≤ s.pwr.uptime → ∃ t, exec .heldRelease s = .next t ∧ t.pwr.st = s.waitSt ∧ t.pwr.heldSeq = false
      ∧ t = { s with pwr := t.pwr, host := t.host, out := t.out })
    ∧ (∀ k, k < 3 → s.pwr.ctrlOn = true → ∃ t, exec (.overvoltage k) s = .next t ∧ t.pwr.st = .held ∧ t.flash.lastFault = 2 ∧ t.mem = []
      ∧ t.counter 0x80E0 3 k = min (2 ^ 64 - 1) (s.counter 0x80E0 3 k + 1))
    ∧ (s.pwr.ctrlOn = true → ∃ t, exec .vinAnaLoss s = .next t ∧ t.pwr.ctrlOn = false ∧ t.pwr.ana = false ∧ t.flash.lastFault = 5
      ∧ t.flash.rwp = s.flash.rwp ∧ t.flash.fieldA = s.flash.fieldA ∧ t.flash.fieldB = s.flash.fieldB ∧ t.mem = [])
    ∧ (∀ k, k < 2 → s.pwr.ctrlOn = true → (if k = 0 then s.pwr.core else s.pwr.io) = true → ∃ t, exec (.brownoutReset k) s = .next t
      ∧ t.flash.lastFault = 3 + k ∧ t.mem = [] ∧ (if k = 0 then t.pwr.core else t.pwr.io) = false
      ∧ t.counter 0x80E0 2 k = min (2 ^ 64 - 1) (s.counter 0x80E0 2 k + 1)
      ∧ t.counter 0x8090 8 0 = min (2 ^ 64 - 1) (s.counter 0x8090 8 0 + 1))
    ∧ (∀ v, (v ≠ 0x52B7 → exec (.moduleResetRequest v) s = .next s)
      ∧ (v = 0x52B7 → s.pwr.ctrlOn = true → s.pwr.resetReq = false → s.pwr.st ≠ .thermalOff →
        s.pwr.heldSeq = false →
        ∃ t, exec (.moduleResetRequest v) s = .next t ∧ t.pwr.resetReq = true ∧ t.pwr.st = s.pwr.st))
    ∧ (s.pwr.resetReq = true → ∃ t, exec .moduleResetBegin s = .next t ∧ t.mem = [] ∧ t.pwr.resetReq = false
      ∧ (s.pwr.toSleep = true → t.pwr.st = .sleep)
      ∧ (s.pwr.toSleep = false → (s.supplied = true → t.pwr.st = .booting ∧ t.pwr.phase = 1) ∧ (s.supplied = false → t.pwr.st = .standby))
      ∧ t.counter 0x8090 8 0 = min (2 ^ 64 - 1) (s.counter 0x8090 8 0 + 1))
    ∧ (s.pwr.st = .ready ∨ s.pwr.st = .warmReset → ∃ t, exec .powerSleep s = .next t ∧ t.pwr.st = .sleep ∧ t.mem = []
      ∧ t.counter 0x8090 8 0 = min (2 ^ 64 - 1) (s.counter 0x8090 8 0 + 1))
    ∧ (s.pwr.st = .sleep → s.supplied = true → ∃ t, exec .powerWake s = .next t ∧ t.pwr.st = .booting ∧ t.pwr.phase = 1
      ∧ t.pwr.waking = true ∧ t.mem = s.mem)

/-- Each start-up phase ends in the next one, or stops start-up with the fault it names (R534, R535, R536, R569). -/
def Obligations.StartUpRunsItsPhases : Prop :=
  ∀ (s : State), s.pwr.st = .booting →
    (s.pwr.phase = 1 → (∃ t, exec (.regulatorsUp true) s = .next t ∧ t.pwr.st = .booting ∧ t.pwr.phase = 2 ∧ t.mem = s.mem)
      ∧ (∃ t, exec (.regulatorsUp false) s = .next t ∧ t.pwr.st = .held ∧ t.flash.lastFault = 6 ∧ t.mem = []))
    ∧ (∀ a b c, s.pwr.phase = 2 → ∃ t, exec (.controllerBoot a b c) s = .next t
      ∧ (2 ≤ a → t.pwr.st = .standby ∧ t.pwr.romOnly = true ∧ t.flash.lastFault = 7)
      ∧ (a < 2 → s.factory.signatureOk = false → t.pwr.st = .held ∧ t.flash.lastFault = 8)
      ∧ (a < 2 → s.factory.signatureOk = true → 2 ≤ b ∨ 2 ≤ c → t.pwr.st = .held ∧ t.flash.lastFault = 7)
      ∧ (a < 2 → b < 2 → c < 2 → s.factory.signatureOk = true → t.pwr.st = .booting ∧ t.pwr.phase = 3 ∧ t.pwr.romOnly = false
        ∧ t.pwr.copies = a + 2 * b + 4 * c ∧ t.mem = s.mem))
    ∧ (s.pwr.phase = 3 → ∃ t, exec .catalogueLoad s = .next t ∧ t.pwr.st = .booting ∧ t.pwr.phase = 4 ∧ t.mem = s.mem
      ∧ t.cat.state = (if s.fieldCopy.isSome = true then 0 else 1))
    ∧ (∀ ms failed retested coverage fails, s.pwr.phase = 4 → ∃ t, exec (.powerupBist ms failed retested coverage fails) s = .next t
      ∧ t.pwr.st = .booting ∧ t.pwr.phase = 5 ∧ t.test.bistKind = 1 ∧ t.test.bistFailed = (s.failedBy failed fails).length + (s.spadsLost fails).length
      ∧ (∀ a, 0x100000000000 ≤ a → a < 0x300000000000 → t.memByte a = 0)
      ∧ (∀ a, a < 0x100000000000 ∨ 0x300000000000 ≤ a → t.memByte a = s.memByte a)
      ∧ ∀ u ∈ failed, SMap.get false t.cur.retired (unitName u) = true)
    ∧ (∀ failed, s.pwr.phase = 5 → ∃ t, exec (.hbmTraining failed) s = .next t ∧ t.pwr.st = .booting ∧ t.pwr.phase = 6
      ∧ t.hbm.trained = true ∧ (∀ a, a < 0x004800000000 → t.memByte a = 0)
      ∧ ∀ a, 0x004800000000 ≤ a → t.memByte a = s.memByte a)
    ∧ (∀ wl, s.pwr.phase = 6 → ∃ t, exec (.opticalCalibration wl) s = .next t ∧ t.pwr.st = .booting ∧ t.pwr.phase = 7
      ∧ ((∀ q, (s.fport q).waiting = [] ∧ (s.fport q).sending = [] ∧ (s.fport q).replay = []) → t.mem = s.mem)
      ∧ ∀ p, p < 16 → s.portPresent p = false → (t.fport p).st = .absent)
    ∧ (s.pwr.phase = 7 → s.routesDue = false → s.linkedUp = true → ∃ t, exec .ready s = .next t ∧ t.pwr.st = .ready ∧ t.pwr.phase = 0 ∧ t.pwr.waking = false ∧ t.mem = s.mem)

/-- Readings throttle or shut the module down, duty steps within its range, and idle states are entered and left by their rules (R541, R542, R543, R544, R546, R549, R550). -/
def Obligations.HeatPowerAndIdleActWithinLimits : Prop :=
  (∀ (s : State) (i r : Nat), i < 86 → ∃ t, exec (.thermalSample i r) s = .next t
      ∧ (s.pwr.st.railsOn = false → t = { s with pwr := { s.pwr with readings := SMap.set 0 s.pwr.readings (64 + i) (r % 2 ^ 32) } })
      ∧ (s.pwr.st.railsOn = true → f32Order (criticalAt i) ≤ f32Order (s.calTemp i (r % 2 ^ 32)) → t.pwr.st = .thermalOff ∧ t.flash.lastFault = 9
        ∧ t.mem = [] ∧ t.counter 0x80E0 7 0 = min (2 ^ 64 - 1) (s.counter 0x80E0 7 0 + 1))
      ∧ (s.pwr.st.railsOn = true → f32Order (s.calTemp i (r % 2 ^ 32)) < f32Order (criticalAt i) → t.pwr.st = s.pwr.st ∧ t.mem = s.mem
        ∧ SMap.get 0 t.pwr.readings (64 + i) = r % 2 ^ 32))
    ∧ (∀ (s : State) (k w : Nat), k < 3 → ∃ t, exec (.powerSample k w) s = .next t
      ∧ t = { s with pwr := t.pwr, host := t.host, out := t.out } ∧ SMap.get 0 t.pwr.readings (6 + k) = w % 2 ^ 32)
    ∧ (∀ (s : State) (d : Nat), s.diePresent d = true → s.pwr.st.railsOn = true →
      SMap.get 0 s.pwr.dutyAt d + s.dutyPeriod ≤ s.pwr.uptime → ∃ t, exec (.dutyStep d) s = .next t
      ∧ t = { s with pwr := t.pwr, host := t.host, out := t.out }
      ∧ (s.dutyCause d = 0 → SMap.get 0 t.pwr.duty d = SMap.get 0 s.pwr.duty d - 1)
      ∧ (s.dutyCause d ≠ 0 → t.dutyOf d = max 4 (s.dutyOf d - 1)))
    ∧ (∀ (s : State), s.pwr.st.railsOn = true → s.critical = true → ∃ t, exec .thermalShutdown s = .next t ∧ t.pwr.st = .thermalOff
      ∧ t.flash.lastFault = 9 ∧ t.flash.thermal = true ∧ t.mem = [])
    ∧ (∀ (s : State) (d i : Nat), s.pwr.st = .ready → s.pwr.is4 = false → i < 288 → s.diePresent d = true → s.siteIdle d i = true →
      (s.site d i).idle < s.deepest d i → (s.site d i).idle = 0 ∨ (s.site d i).idleSince + idleDelay (s.deepest d i) ≤ s.pwr.uptime →
      ∃ t, exec (.idleEnter d i) s = .next t ∧ (t.site d i).idle = (if (s.site d i).idle = 0 then 1 else s.deepest d i)
        ∧ ((s.site d i).idle = 0 → t.mem = s.mem))
    ∧ (∀ (s : State), s.pwr.st = .ready → s.pwr.is4 = false → s.mayIs4 = true → s.pwr.calmSince ≠ 0 →
      s.pwr.calmSince + 48000000 ≤ s.pwr.uptime + 1 → ∃ t, exec .is4Enter s = .next t ∧ t.mem = s.mem
      ∧ t.pwr.is4 = true ∧ ∀ k, k < 8 → s.stackFitted k = true → SMap.get false t.hbm.selfRefresh k = true)
    ∧ (∀ (s : State) (d i : Nat), (s.pwr.is4 = true → s.moduleWoken = true → ∃ t, exec (.idleWakeDone d i) s = .next t ∧ t = s.leaveIs4.hostDrainAll
        ∧ ((s.port 0).held = [] → (s.port 1).held = [] → t.mem = s.mem ∧ t.pwr.is4 = false ∧ t.hbm.selfRefresh = []))
      ∧ (s.pwr.is4 = false → s.siteWoken d i = true → (s.sliceAt d i).st ≠ .running → (s.sliceAt d i).st ≠ .reinit →
        ∃ t, exec (.idleWakeDone d i) s = .next t ∧ (t.site d i).idle = 0
          ∧ ((s.site d i).idle ≠ 0 → t = { s with sites := t.sites })))
    ∧ (∀ (s : State) (c v : Nat), c < 16 → v ≤ 1000000 → ∃ t, exec (.idleWakeUsWrite c v) s = .next t ∧ t.mem = s.mem
      ∧ t.obj 0x2030 1 c = v ∧ ∀ p ∈ t.allGood, (t.site p.1 p.2).idle ≤ t.deepest p.1 p.2)

/-- A host read, write or AtomicOp through BAR4 acts on memory and completes, or is refused and counted with memory as it was (R217, R246, R557, R558, R560, R561). -/
def Obligations.HostAccessesServeOrRefuse : Prop :=
  (∀ (s : State) (p f off n : Nat), s.hostBehind p f = false → s.hostGate p f (some n) = none →
      (∀ a, s.hostServe f off n [0] false = .go a → isReg a = false → ∃ t, exec (.hostBar4Read p f off n) s = .next t ∧ t.mem = s.mem
        ∧ (s.wayLost (s.hostNode p) a = false → .completion p f 0 (s.memRead a n).1 (s.poisonOf a n) ∈ t.out)
        ∧ (s.wayLost (s.hostNode p) a = true → ∃ bs, bs.length = n
          ∧ .completion p f 0 bs ((linesOf a n).map (fun _ => true)) ∈ t.out))
      ∧ (∀ a, s.hostServe f off n [0] false = .hold a → ∃ t, exec (.hostBar4Read p f off n) s = .next t ∧ t.mem = s.mem ∧ t.out = s.out
        ∧ (t.port p).held = (s.port p).held ++ [{ fn := f, kind := 0, off := off, len := n }])
      ∧ (∀ st fe i sl, s.hostServe f off n [0] false = .refuse st fe i sl → ∃ t, exec (.hostBar4Read p f off n) s = .next t
        ∧ t = { s with mgmt := t.mgmt, out := t.out, sites := t.sites } ∧ .completion p f st [] [] ∈ t.out
        ∧ t.counter 0x80F0 1 f = min (2 ^ 64 - 1) (s.counter 0x80F0 1 f + 1)))
    ∧ (∀ (s : State) (p f off : Nat) (bs : List Nat) (ep : Bool), s.hostBehind p f = false → s.hostGate p f none = none →
      (∀ a, s.hostServe f off bs.length [1] false = .go a → isReg a = false → ∃ t, exec (.hostBar4Write p f off bs ep) s = .next t
        ∧ (s.wayLost (s.hostNode p) a = false → t.mem = (s.memWrite a (bs.map (· % 256)) ep).mem)
        ∧ (s.wayLost (s.hostNode p) a = true → t.mem = s.mem ∨ t.mem = (s.memWrite a (bs.map (· % 256)) ep).mem)
        ∧ (ep = true → t.counter 0x80F0 2 0 = min (2 ^ 64 - 1) (s.counter 0x80F0 2 0 + 1)))
      ∧ (∀ st fe i sl, s.hostServe f off bs.length [1] false = .refuse st fe i sl → ∃ t, exec (.hostBar4Write p f off bs ep) s = .next t
        ∧ t = { s with mgmt := t.mgmt, out := t.out, sites := t.sites } ∧ t.counter 0x80F0 1 f = min (2 ^ 64 - 1) (s.counter 0x80F0 1 f + 1)))
    ∧ (∀ (s : State) (p f off n x y op : Nat) (i : Instr), s.hostBehind p f = false → s.hostGate p f (some n) = none →
      (i, op, y) ∈ [(Instr.hostFetchAdd p f off n x, 0, 0), (.hostSwap p f off n x, 1, 0), (.hostCas p f off n y x, 2, y)] →
      (∀ a, s.hostServe f off n [0, 1] true = .go a →
        let r := s.memRead a n
        let done := if r.2 = true then s.mem else (s.memWrite a (leBytes n (atomicVal op n (leVal r.1) x y)) false).mem
        ∃ t, exec i s = .next t
          ∧ (s.wayLost (s.hostNode p) a = false → .completion p f 0 (leBytes n (leVal r.1)) [r.2] ∈ t.out ∧ t.mem = done
            ∧ t.counter 0x80F0 4 f = min (2 ^ 64 - 1) (s.counter 0x80F0 4 f + 1))
          ∧ (s.wayLost (s.hostNode p) a = true → (∃ bs, bs.length = n ∧ .completion p f 0 bs [true] ∈ t.out)
            ∧ (t.mem = s.mem ∨ t.mem = done)))
      ∧ (∀ st fe i' sl, s.hostServe f off n [0, 1] true = .refuse st fe i' sl → ∃ t, exec i s = .next t
        ∧ t = { s with mgmt := t.mgmt, out := t.out, sites := t.sites } ∧ .completion p f st [] [] ∈ t.out
        ∧ t.counter 0x80F0 1 f = min (2 ^ 64 - 1) (s.counter 0x80F0 1 f + 1)))

/-- Host resets clear their functions and fence the contexts bound to the port; links train, refresh and pauses come and go (R562, R565, R568, R570). -/
def Obligations.HostLinksResetTheirFunctions : Prop :=
  (∀ (s : State) (p : Nat) (i : Instr), s.hostFitted p = true → s.hostUp p = true → s.pwr.st = .ready → (s.port p).perst = false →
      (i = .perstAssert p ∨ i = .hostHotReset p ∨ i = .pfFlr p ∨ (i = .vfEnableClear p ∧ (s.port p).vfEnable = true)) →
      ∃ t, exec i s = .next t ∧ (s.fab.colls = [] → t.mem = s.mem) ∧ (t.port p).vfEnable = false ∧ (∀ f, f ≠ 0 → t.fn p f = {})
        ∧ (i = .perstAssert p → (t.port p).perst = true ∧ (t.port p).st = .down)
        ∧ (i = .hostHotReset p → t.counter 0x80F0 5 p = min (2 ^ 64 - 1) (s.counter 0x80F0 5 p + 1))
        ∧ ∀ c, 1 ≤ c → c < 16 → s.portOf c = p → (s.ctx c).st = .active → (t.ctx c).st = .fencing
          ∧ ∃ r, (t.ctx c).reset? = some r ∧ r.cause = .hostReset ∧ r.endsActive = false)
    ∧ (∀ (s : State) (p f : Nat), s.hostFitted p = true → s.hostUp p = true → s.fnExists p f = true →
      (∃ t, exec (.d3hotEnter p f) s = .next t ∧ t = { s with host := t.host } ∧ t.fn p f = { s.fn p f with d3hot := true })
      ∧ (f ≠ 0 → s.portOf f = p → (s.ctx f).st = .active → ∃ t, exec (.vfFlr p f) s = .next t ∧ t.fn p f = {} ∧ (t.ctx f).st = .fencing
        ∧ ∃ r, (t.ctx f).reset? = some r ∧ r.cause = .flr ∧ r.endsActive = true))
    ∧ (∀ (s : State) (p v l : Nat) (flit : Bool), s.hostFitted p = true → s.hostsRun = true → 1 ≤ v → v ≤ 6 → l ≠ 0 →
      (s.hostUp p = false → ∃ t, exec (.perstDeassert p v l flit) s = .next t ∧ (t.port p).perst = false
        ∧ (t.port p).st = (if 8 ≤ l then .up else .degraded) ∧ (t.port p).speed = (if 8 ≤ l then (if flit then v else min 5 v) else 1))
      ∧ ((s.port p).everUp = true → (s.port p).perst = false → ∃ t, exec (.hostLinkRetrain p v l flit) s = .next t
        ∧ (t.port p).st = (if 8 ≤ l then .up else .degraded)
        ∧ t.counter 0x80F0 5 p = min (2 ^ 64 - 1) (s.counter 0x80F0 5 p + 1)))
    ∧ (∀ (s : State) (p f v : Nat), let x := SMap.get {} (s.fn p f).vectors v
      x.holdoff = true → ∃ t, exec (.msixHoldoffEnd p f v) s = .next t ∧ t = { s with host := t.host, out := t.out }
        ∧ (x.waiting = false → SMap.get {} (t.fn p f).vectors v = { x with holdoff := false } ∧ t.out = s.out)
        ∧ (x.waiting = true → s.mayWriteHost p f = true → x.ctrl.getLsbD 0 = false → (s.fn p f).msixOn = true →
          .msix p f v x.addr.toNat x.data.toNat ∈ t.out))
    ∧ (∀ (s : State) (st pc : Nat), pc < 32 →
      (s.stackFitted st = true → s.hbm.trained = true → SMap.get false s.hbm.selfRefresh st = false →
        SMap.get 0 s.hbm.refresh (st * 32 + pc) = 0 →
        s.refreshing st < (if f32Order 0x42AA0000 ≤ f32Order (s.temp (64 + st)) then 6 else 3) → ∃ t, exec (.refreshInterval st pc) s = .next t
        ∧ t = { s with hbm := t.hbm } ∧ SMap.get 0 t.hbm.refresh (st * 32 + pc) = 1)
      ∧ (∃ t, exec (.refreshIntervalEnd st pc) s = .next t ∧ ((s.port 0).held = [] → (s.port 1).held = [] →
        t = { s with hbm := t.hbm } ∧ SMap.get 0 t.hbm.refresh (st * 32 + pc) = 0)))
    ∧ (∀ (s : State) (st c : Nat), c < 16 →
      let k := st * 16 + c
      (SMap.get 0 s.hbm.retrainLeft k ≠ 0 → SMap.get 0 s.hbm.pause k = 0 → ∃ t, exec (.hbmRetrainPause st c) s = .next t
        ∧ t = { s with hbm := t.hbm } ∧ SMap.get 0 t.hbm.pause k = 1)
      ∧ (SMap.get 0 s.hbm.pause k ≠ 0 → ∃ t, exec (.hbmRetrainPauseEnd st c) s = .next t
        ∧ ((s.port 0).held = [] → (s.port 1).held = [] → SMap.get 0 t.hbm.pause k = 0
        ∧ SMap.get 0 t.hbm.retrainLeft k = SMap.get 0 s.hbm.retrainLeft k - 1
        ∧ (SMap.get 0 s.hbm.retrainLeft k = 1 → t.counter 0x80F0 7 k = min (2 ^ 64 - 1) (s.counter 0x80F0 7 k + 1)))))

/-- Segment frames are filtered, judged and queued; messages are served and answered; the mailbox and the segment port follow their rules (R564, R574, R575, R576, R583, R586, R587, R588). -/
def Obligations.TrayMessagesAreJudgedQueuedAndServed : Prop :=
  (∀ (s : State) (dest src : Nat) (pl : List Nat), let h := dfHeader pl
      let k := s.key (dfSlot h)
      let msg := pl.take (24 + dfBodyLen h)
      let tag := (pl.drop (24 + dfBodyLen h)).take 16
      let seen : List Cached := k.cache.filter (fun c => c.replay == dfReplay h && c.tid == dfTid h && c.tag == leVal tag
        && decide (s.pwr.uptime ≤ c.sentAt + s.cacheNs))
      (∀ (ety : Nat) (fcs vlan : Bool), (s.ctrlRuns = false ∨ 1500 < pl.length ∨ ety ≠ 0x88B5 ∨ vlan = true ∨ (dest ≠ s.factory.mac ∧ dest ≠ 2 ^ 48 - 1)) →
        exec (.t1sFrameRx dest src ety pl fcs vlan) s = .next s)
      ∧ (s.ctrlRuns = true → pl.length ≤ 1500 → dest = s.factory.mac → dest ≠ 2 ^ 48 - 1 →
        (∃ t, exec (.t1sFrameRx dest src 0x88B5 pl false false) s = .next t ∧ t = { s with mgmt := t.mgmt }
          ∧ t.mgmt = { s.mgmt with counts := t.mgmt.counts }
          ∧ t.counter 0x8100 3 0 = min (2 ^ 64 - 1) (s.counter 0x8100 3 0 + 1))
        ∧ ∃ t, exec (.t1sFrameRx dest src 0x88B5 pl true false) s = .next t ∧ t.mem = s.mem
          ∧ t.counter 0x8100 1 0 = min (2 ^ 64 - 1) (s.counter 0x8100 1 0 + 1)
          ∧ (dfMarked pl = false → t.mgmt.queue = s.mgmt.queue ∧ t.out = s.out
            ∧ t.counter 0x8100 0x0B 0 = min (2 ^ 64 - 1) (s.counter 0x8100 0x0B 0 + 1))
          ∧ (dfMarked pl = true → dfAuth h = false → publicOnly pl = true → s.unauthNow < s.obj 0x1021 3 0 → s.mgmt.queue.length < 8 →
            t.mgmt.queue = s.mgmt.queue ++ [{ srcMac := src, bytes := msg }] ∧ t.out = s.out)
          ∧ (dfMarked pl = true → dfAuth h = true → dfSlot h < 8 → k.enable = true → (k.macBound = true → k.mac = src) →
            (tag ≠ k.tag dest src msg → t.mgmt.queue = s.mgmt.queue ∧ t.mgmt.keys = s.mgmt.keys ∧ t.out = s.out
              ∧ t.counter 0x8100 7 0 = min (2 ^ 64 - 1) (s.counter 0x8100 7 0 + 1))
            ∧ (∀ c cs, tag = k.tag dest src msg → seen = c :: cs → t.mgmt.queue = s.mgmt.queue ∧ t.mgmt.keys = s.mgmt.keys
              ∧ t.out = .t1s src c.resp :: s.out ∧ t.counter 0x8100 8 0 = min (2 ^ 64 - 1) (s.counter 0x8100 8 0 + 1))
            ∧ (tag = k.tag dest src msg → seen = [] → (dfReplay h ≤ k.highest ∨ dfReplay h < k.floor) →
              t.mgmt.queue = s.mgmt.queue ∧ t.mgmt.keys = s.mgmt.keys ∧ t.out = s.out
              ∧ t.counter 0x8100 9 0 = min (2 ^ 64 - 1) (s.counter 0x8100 9 0 + 1))
            ∧ (tag = k.tag dest src msg → seen = [] → k.highest < dfReplay h → k.floor ≤ dfReplay h →
              (t.key (dfSlot h)).highest = dfReplay h
              ∧ (s.mgmt.queue.length < 8 → t.out = s.out ∧ t.mgmt.queue = s.mgmt.queue ++ [{
                srcMac := src, bytes := pl.take (24 + dfBodyLen h + 16), auth := true, slot := dfSlot h, priv := k.priv }])
              ∧ (8 ≤ s.mgmt.queue.length → t.mgmt.queue = s.mgmt.queue
                ∧ t.counter 0x8100 0x0C 0 = min (2 ^ 64 - 1) (s.counter 0x8100 0x0C 0 + 1))))))
    ∧ (∀ (s : State), (s.ctrlRuns = false ∨ s.mgmt.queue = [] → exec .dielfenMessage s = .next s)
      ∧ (∀ (m : Message) (rest : List Message) (r : DfRec), s.ctrlRuns = true → s.mgmt.queue = m :: rest → m.path = 1 →
        mailboxForm m.bytes = true → parseMsg 4072 m.bytes = some [r] → r.ok = true → r.op = 1 → (s.fn m.port m.fn).busy = true →
        let q : State := { s with mgmt := { s.mgmt with queue := rest } }
        let a := q.dfGet (q.msgPriv m) m.who r.index r.sub 8156
        let resp := respMsg (dfHeader m.bytes) m.auth .ok 1 (respRec r a.1 a.2)
        ∃ t, exec .dielfenMessage s = .next t ∧ t.mgmt = q.mgmt ∧ t.mem = s.mem ∧ (t.fn m.port m.fn).busy = false
          ∧ (t.fn m.port m.fn).done = true ∧ (t.fn m.port m.fn).result = 0 ∧ (t.fn m.port m.fn).respLen = resp.length
          ∧ (t.fn m.port m.fn).resp = SMap.ofList 0 0 resp)
      ∧ (∀ (m : Message), s.ctrlRuns = true → s.mgmt.queue = [m] → m.path = 0 → parseMsg 1460 m.bytes = none →
        let resp := respMsg (dfHeader m.bytes) m.auth .malformed 0 []
        ∃ t, exec .dielfenMessage s = .next t ∧ t.mgmt.queue = [] ∧ t.mem = s.mem
          ∧ t.counter 0x8100 0x0B 0 = min (2 ^ 64 - 1) (s.counter 0x8100 0x0B 0 + 1)
          ∧ t.counter 0x8100 2 0 = min (2 ^ 64 - 1) (s.counter 0x8100 2 0 + 1)
          ∧ t.out = .t1s m.srcMac (if m.auth = true then resp ++ (s.key m.slot).tag m.srcMac s.factory.mac resp else resp) :: s.out))
    ∧ (∀ (s : State) (p f v : Nat), s.ctrlRuns = true → s.barOk p f = true → bitOf v 31 = true → let n := fld v 0 13
      ((s.fn p f).busy = true → exec (.mailboxGo p f v) s = .next s)
      ∧ ((s.fn p f).busy = false → ∃ t, exec (.mailboxGo p f v) s = .next t ∧ t.mem = s.mem ∧ (t.fn p f).reqLen = n
        ∧ (1 ≤ n → n ≤ 4096 → (t.fn p f).busy = true ∧ t.out = s.out
          ∧ t.mgmt.queue = s.mgmt.queue ++ [{ path := 1, port := p, fn := f, bytes := SMap.toList 0 (s.fn p f).req 0 n }])
        ∧ (n = 0 ∨ 4096 < n → t.mgmt = s.mgmt ∧ (t.fn p f).busy = false ∧ (t.fn p f).done = true ∧ (t.fn p f).respLen = 0
          ∧ (t.fn p f).result = (if n = 0 then 1 else 2))))
    ∧ (∀ (s : State), (s.mgmt.newNodeId = none → exec .t1sNodeIdApply s = .next s)
      ∧ (∀ v, s.mgmt.newNodeId = some v → s.mgmt.newNodeAt + 10000000 ≤ s.pwr.uptime → exec .t1sNodeIdApply s = .next { s with
          mgmt := { s.mgmt with newNodeId := none, newNodeAt := 0, nodeId := if v < 32 then v else s.mgmt.straps, strapped := decide (32 ≤ v) } })
      ∧ (s.ctrlRuns = true → s.obj 0x1020 5 0 = 0 →
        exec .plcaResume s = .next { s with mgmt := { s.mgmt with csma := false } }
        ∧ (s.mgmt.csma = true → exec .plcaFallback s = .next s)
        ∧ (s.mgmt.csma = false → ∃ t, exec .plcaFallback s = .next t ∧ t = { s with mgmt := t.mgmt } ∧ t.mgmt.csma = true
          ∧ t.counter 0x8100 5 0 = min (2 ^ 64 - 1) (s.counter 0x8100 5 0 + 1)))
      ∧ (s.ctrlRuns = true → (s.plca = true → exec (.t1sCollision false) s = .next s)
        ∧ ∀ own, s.plca = false ∨ own = true → ∃ t, exec (.t1sCollision own) s = .next t ∧ t = { s with mgmt := t.mgmt }
          ∧ t.counter 0x8100 4 0 = min (2 ^ 64 - 1) (s.counter 0x8100 4 0 + 1)
          ∧ t.mgmt.clash = (s.mgmt.clash || (s.plca && decide (15 ≤
            (s.mgmt.collisions.filter (fun x => decide (s.pwr.uptime < x + 1000000000))).length))))
      ∧ ((∀ x ∈ s.mgmt.collisions, x + 10000000000 ≤ s.pwr.uptime) →
        exec .nodeClashClear s = .next { s with mgmt := { s.mgmt with clash := false, collisions := [] } })
      ∧ ((∃ x ∈ s.mgmt.collisions, s.pwr.uptime < x + 10000000000) → exec .nodeClashClear s = .next s))

/-- Dictionary operations answer their results, write what the object admits, and key slots, stores and register writes follow their rules (R13, R86, R106, R563, R564, R580, R582, R584, R585, R588, R592). -/
def Obligations.DictionaryOperationsReadAndWriteObjects : Prop :=
  (∀ (s : State) (p w i sb ty off len : Nat) (data : List Nat), s.ctrlRuns = true →
      (objRow? i sb = none → ∀ c ∈ [Instr.dfGet p w i sb, .dfSet p w i sb ty data, .dfGetSeg p w i sb off len, .dfSetSeg p w i sb ty off data,
        .dfDescribe p i sb], exec c s = .next (s.emit (.dfAnswer 1 [])))
      ∧ ∀ r, objRow? i sb = some r →
        (r.acc = 3 → ∀ c ∈ [Instr.dfGet p w i sb, .dfGetSeg p w i sb off len], exec c s = .next (s.emit (.dfAnswer 2 [])))
        ∧ (r.acc < 2 → ∀ c ∈ [Instr.dfSet p w i sb ty data, .dfSetSeg p w i sb ty off data], exec c s = .next (s.emit (.dfAnswer 2 [])))
        ∧ (r.acc ≠ 3 → p < r.readPriv → ∀ c ∈ [Instr.dfGet p w i sb, .dfGetSeg p w i sb off len], exec c s = .next (s.emit (.dfAnswer 3 [])))
        ∧ (2 ≤ r.acc → p < r.priv → exec (.dfSet p w i sb ty data) s = .next (s.emit (.dfAnswer 3 [])))
        ∧ (2 ≤ r.acc → r.priv ≤ p → ty ≠ r.ty ∨ data.length ≠ s.rowSize r →
          exec (.dfSet p w i sb ty data) s = .next (s.emit (.dfAnswer 4 [])))
        ∧ (r.acc ≠ 3 → r.readPriv ≤ p → pad4 (s.rowSize r) ≤ bodyMax w - 12 →
          exec (.dfGet p w i sb) s = .next (s.emit (.dfAnswer 0 (maskVf w r 0 (s.objBytes r)))))
        ∧ (r.acc ≠ 3 → r.readPriv ≤ p → bodyMax w - 12 < pad4 (s.rowSize r) →
          exec (.dfGet p w i sb) s = .next (s.emit (.dfAnswer 7 [])))
        ∧ (r.acc ≠ 3 → r.readPriv ≤ p → r.ty ≠ 9 → r.ty ≠ 10 → exec (.dfGetSeg p w i sb off len) s = .next (s.emit (.dfAnswer 4 [])))
        ∧ (r.acc ≠ 3 → r.readPriv ≤ p → r.ty = 9 ∨ r.ty = 10 → pad4 (8 + len) ≤ bodyMax w - 12 → off % r.bytes = 0 → len % r.bytes = 0 →
          (2 ^ 20 < s.rowSize r → off + len ≤ s.rowSize r → exec (.dfGetSeg p w i sb off len) s = .next (s.emit (.dfAnswer 0
            (segPrefix (s.rowSize r) 0 false ++ maskVf w r off (s.elemBytes r (off / r.bytes) (len / r.bytes))))))
          ∧ (s.rowSize r ≤ 2 ^ 20 → len ≤ (s.objBytes r).length → off = 0 → let n := (s.mgmt.nextSnap + 1).toNat
            ∃ t, exec (.dfGetSeg p w i sb off len) s = .next t ∧ t.mem = s.mem ∧ t.mgmt.objs = s.mgmt.objs
              ∧ t.out = .dfAnswer 0 (segPrefix (s.objBytes r).length n true ++ maskVf w r 0 ((s.objBytes r).take len)) :: s.out
              ∧ t.mgmt.snaps = ({
                id := n, readAt := s.pwr.uptime, owner := w, index := r.index, sub := r.sub, bytes := s.objBytes r } :: s.mgmt.snaps).take 4))
        ∧ exec (.dfDescribe p i sb) s = .next (s.emit (.dfAnswer 0 (leBytes 8 (at_ 32 32 (s.rowSize r)
          + at_ 16 16 (if r.ty = 9 ∧ r.count ≠ 1 then r.bytes else 0) + at_ 8 8 r.ty + at_ 4 4 r.acc + at_ 0 2 r.priv)))))
    ∧ (∀ (s : State) (w v : Nat), s.ctrlRuns = true →
      (∀ o ∈ [(0x1012, 0, 2, 1, 0, 2), (0x1021, 1, 3, 2, 5, 1000), (0x1021, 2, 2, 1, 1, 8), (0x3010, 1, 2, 1, 0, 2), (0x6033, 0, 4, 4, 100, 3600000)],
        let (i, sb, ty, n, lo, hi) := o
        (lo ≤ v → v ≤ hi → ∃ t, exec (.dfSet 2 w i sb ty (leBytes n v)) s = .next t ∧ t.mem = s.mem ∧ t.obj i sb 0 = v
          ∧ t.out = .dfAnswer 0 [] :: s.out ∧ SMap.get false t.flash.dirty (okey i sb 0) = true)
        ∧ (v < 256 ^ n → v < lo ∨ hi < v → exec (.dfSet 2 w i sb ty (leBytes n v)) s = .next (s.emit (.dfAnswer 5 []))))
      ∧ (∀ c, c < 16 → v < 256 → (v ≤ 4 → ∃ t, exec (.dfSetSeg 1 w 0x3011 1 9 c [v]) s = .next t ∧ t.mem = s.mem ∧ t.obj 0x3011 1 c = v
          ∧ t.out = .dfAnswer 0 [] :: s.out ∧ ∀ k, k ≠ c → t.obj 0x3011 1 k = s.obj 0x3011 1 k)
        ∧ (4 < v → exec (.dfSetSeg 1 w 0x3011 1 9 c [v]) s = .next (s.emit (.dfAnswer 5 [])))
        ∧ (∀ d p, 1 ≤ d → d < 16 → w = 16 + 16 * p + d → d ≠ c → exec (.dfSetSeg 0 w 0x3011 1 9 c [v]) s = .next (s.emit (.dfAnswer 3 [])))
        ∧ (∀ p, 1 ≤ c → w = 16 + 16 * p + c → v ≤ 4 → ∃ t, exec (.dfSetSeg 0 w 0x3011 1 9 c [v]) s = .next t ∧ t.obj 0x3011 1 c = v)))
    ∧ (∀ (s : State) (slot : Nat) (data : List Nat), exec (.dfKeyWrite 0 slot data) s = .next s
      ∧ ∀ path, path = 1 ∨ path = 2 → s.ctrlRuns = true → slot < 8 → data.length = 40 → let v := leVal data
        (fld v 0 2 = 3 → exec (.dfKeyWrite path slot data) s = .next s)
        ∧ (fld v 0 2 ≠ 3 → ∃ t, exec (.dfKeyWrite path slot data) s = .next t ∧ t = { s with mgmt := t.mgmt, mon := t.mon }
          ∧ t.key slot = {
              key := BitVec.ofNat 256 (if bitOf v 2 = true then fld v 64 256 else 0), mac := fld v 16 48, macBound := bitOf v 3
              enable := bitOf v 2, priv := fld v 0 2 }
          ∧ (∀ k, k ≠ slot → t.key k = s.key k)
          ∧ (s.mon.slot = some slot → t.mon.state = 0) ∧ (s.mon.slot ≠ some slot → t.mon = s.mon)))
    ∧ (∀ (s : State) (v : Nat), s.ctrlRuns = true →
      (v = 0xDEF0 → exec (.odRestoreDefaults v) s = .next { s with flash := { s.flash with restore := true } })
      ∧ (v ≠ 0xDEF0 → exec (.odRestoreDefaults v) s = .next s))
    ∧ (∀ (s : State), s.ctrlRuns = true → (s.flash.dirty = [] → exec .persistStore s = .next s)
      ∧ (s.flash.dirty ≠ [] → ∃ t, exec .persistStore s = .next t ∧ t = { s with flash := t.flash, mgmt := t.mgmt } ∧ t.flash.dirty = []
        ∧ t.mgmt.objs = s.mgmt.objs
        ∧ (∀ e ∈ s.flash.dirty, SMap.get 0 t.flash.rwp e.1 = SMap.get 0 s.mgmt.objs e.1)
        ∧ (∀ k, (∀ e ∈ s.flash.dirty, e.1 ≠ k) → SMap.get 0 t.flash.rwp k = SMap.get 0 s.flash.rwp k)
        ∧ t.counter 0x8100 0x0D 0 = min (2 ^ 64 - 1) (s.counter 0x8100 0x0D 0 + s.flash.dirty.length)))
    ∧ (∀ (s : State) (a b off : Nat) (bs : List Nat), s.hostsRun = true → a < 16 →
      (b < 16 → b ≠ a → b ≠ 0 → exec (.registerWrite 0 a b off bs) s = .next s)
      ∧ (∀ p, off + bs.length ≤ 0x10000 → exec (.registerWrite 0 a (16 + 16 * p + a) off bs) s = .next (s.bar0Write p a off bs))
      ∧ (∀ p c, c < 16 → c ≠ a → exec (.registerWrite 0 a (16 + 16 * p + c) off bs) s = .next s)
      ∧ (∀ x, b = a ∨ b = 0 → ∃ t, exec (.registerWrite 0 a b 0x10 [x]) s = .next t ∧ t.mem = s.mem
        ∧ (t.ctx a).numeric.toNat = fld x 0 2 + at_ 10 6 (fld (s.ctx a).numeric.toNat 10 6)))
    ∧ (∀ (s : State) (p f : Nat), s.ctrlRuns = true → s.barOk p f = true → ∃ t, exec (.registerWrite 1 p f 11 [0x40]) s = .next t
      ∧ t = { s with host := t.host } ∧ t.fn p f = { s.fn p f with done := false })
    ∧ (∀ (s : State) (a b off x : Nat) (bs : List Nat), s.pwr.st = .ready → a < 576 →
      (b ≠ 0 → exec (.registerWrite 2 a b off bs) s = .next s)
      ∧ (s.tilePresent (a / 288) (a % 288) = false → exec (.registerWrite 2 a 0 off bs) s = .next s)
      ∧ (∀ i, s.tilePresent (a / 288) (a % 288) = true → s.siteOf (a / 288) (a % 288) = some i → ∃ t, exec (.registerWrite 2 a 0 10 [x]) s = .next t ∧ t.mem = s.mem
        ∧ (t.site (a / 288) i).vstep = min 4 (fld x 0 4) ∧ (t.site (a / 288) i).fstep = fld x 4 4))
    ∧ (∀ (s : State) (v : Nat), s.ctrlRuns = true → (5 ≤ v → v ≤ 1000 → ∃ t, exec (.registerWrite 3 0x1021 1 0 (leBytes 2 v)) s = .next t
        ∧ t.obj 0x1021 1 0 = v ∧ t.mem = s.mem)
      ∧ (v < 5 ∨ 1000 < v → v < 65536 → exec (.registerWrite 3 0x1021 1 0 (leBytes 2 v)) s = .next s))
    ∧ (∀ (s : State) (p : Nat) (v : Nat), s.hostFitted p = true → s.hostUp p = true → s.fnExists p 0 = true →
      ((s.port p).vfEnable = false → v ≤ 15 → ∃ t, exec (.registerWrite 4 p 0 2 [v]) s = .next t ∧ t = { s with host := t.host }
        ∧ t.port p = { s.port p with numVfs := v })
      ∧ (∃ t, exec (.registerWrite 4 p 0 4 [1]) s = .next t ∧ t = { s with host := t.host } ∧ t.port p = { s.port p with vfEnable := true })
      ∧ (∃ t, exec (.registerWrite 4 p 0 3 [0]) s = .next t ∧ t = { s with host := t.host } ∧ t.fn p 0 = { s.fn p 0 with d3hot := false }))

/-- Monitor commands answer by session and privilege, print what they name, act as the commands they stand for, and end with a status line (R608, R609, R610, R612, R614, R615, R616, R617, R618, R619). -/
def Obligations.MonitorCommandsAnswerAndAct : Prop :=
  (∀ (s : State) (d t c n a : Nat) (bs : List Nat) (w : Bool), s.pwr.ctrlOn = true → s.mon.challenge = none →
      (∀ p ∈ [(Instr.monLogBoot, 1), (.monBist, 1), (.monCtx none, 1), (.monCtx (some c), 1), (.monTile d t, 1), (.monLog n, 2), (.monBistFails, 2),
          (.monTraceAcc, 2), (.monTraceCtx c, 2), (.monTraceOff, 2), (.monCtxActivate c, 3), (.monCtxReset c, 3), (.monCtxResetKeep c, 3),
          (.monPeek a n, 3), (.monPoke a bs, 3), (.monResetWarmKeep w, 3), (.monResetWarmClear w, 3), (.monResetModule w, 3)],
        (s.mon.state = 0 → exec p.1 s = .next (s.emit (.console ["err LOCKED", s.prompt])))
        ∧ (1 ≤ s.mon.state → s.mon.state < p.2 → exec p.1 s = .next (s.emit (.console ["err PRIVILEGE", s.prompt]))))
      ∧ exec (.monHelp none) s = .next (s.emit (.console ((monCommands.filter (fun c =>
          decide (c.2.1 ≤ s.mon.state) && (!s.pwr.romOnly || c.2.2))).map (·.1) ++ ["ok", s.prompt])))
      ∧ (∀ form, monForms[n]? = some form → exec (.monHelp (some n)) s = .next (s.emit (.console [form, "ok", s.prompt])))
      ∧ (s.pwr.romOnly = true → 1 ≤ s.mon.state → ∀ i ∈ [Instr.monBist, .monCtx none, .monTile d t, .monOdGet n c none, .monOdDesc n c,
          .monCtxActivate c, .monPeek a n, .monPoke a bs, .monResetWarmKeep w, .monResetWarmClear w, .monTraceAcc, .monTraceOff],
        exec i s = .next (s.emit (.console ["err PRIVILEGE", s.prompt])))
      ∧ (s.pwr.romOnly = false → 2 ≤ s.mon.state → 8 ≤ s.mgmt.queue.length →
        ∀ i ∈ [Instr.monBist, .monBistFails, .monLog n, .monCtx none, .monCtx (some c), .monTile d t], ∃ t, exec i s = .next t
          ∧ t = { s with mgmt := t.mgmt, out := t.out } ∧ t.out = .console ["err BUSY", s.prompt] :: s.out
          ∧ t.counter 0x8100 0x0C 0 = min (2 ^ 64 - 1) (s.counter 0x8100 0x0C 0 + 1))
      ∧ (∀ p ∈ [(Instr.monBist, 1, ["BIST_KIND " ++ dec s.test.bistKind, "BIST_DURATION_MS " ++ dec s.test.bistMs, "BIST_FAILED_UNITS " ++ dec s.test.bistFailed]),
          (.monBistFails, 2, s.test.fails.map (fun f => hexN 32 f.toNat)),
          (.monLog n, 2, (s.cur.log.drop (s.cur.log.length - n)).map (fun r => accLine r.toNat)),
          (.monCtx none, 1, (List.range 16).map s.ctxLine)],
        s.pwr.romOnly = false → s.mgmt.queue = [] → p.2.1 ≤ s.mon.state → exec p.1 s = .next (s.emit (.console (p.2.2 ++ ["ok", s.prompt]))))
      ∧ (s.pwr.romOnly = false → s.mgmt.queue = [] → 1 ≤ s.mon.state → c < 16 → exec (.monCtx (some c)) s = .next (s.emit (.console [s.ctxLine c, "ok", s.prompt])))
      ∧ (∃ lines, exec .monId s = .next (s.emit (.console (lines ++ ["ok", s.prompt])))
        ∧ ("SERIAL_NUMBER \"" ++ textOf s.factory.serial ++ "\"") ∈ lines)
      ∧ (1 ≤ s.mon.state → ∃ lines, exec .monLogBoot s = .next (s.emit (.console (lines ++ ["ok", s.prompt])))
        ∧ ("last fault " ++ faultName s.flash.lastFault) ∈ lines)
      ∧ (s.pwr.romOnly = false → s.mgmt.queue = [] → 1 ≤ s.mon.state → d < 2 → t < 288 → ∃ lines, exec (.monTile d t) s = .next (s.emit (.console (lines ++ ["ok", s.prompt])))
        ∧ (s.siteOf d t = none → ("tile " ++ dec d ++ "." ++ dec t ++ "  unmapped") ∈ lines))
      ∧ (s.pwr.romOnly = false → 3 ≤ s.mon.state → c < 16 → ∀ p ∈ [(Instr.monCtxActivate c, Instr.ctxActivate c), (.monCtxReset c, .ctxReset c),
          (.monCtxResetKeep c, .ctxResetKeep c)],
        ∃ u, exec p.2 s = .next u ∧ exec p.1 s = .next (u.emit (.console ["CMD_STATUS " ++ dec (u.ctx c).cmdStatus, "ok", u.prompt])))
      ∧ (3 ≤ s.mon.state → ∀ p ∈ [(Instr.monResetWarmKeep true, Instr.warmResetKeepHbm, s.pwr.romOnly),
          (.monResetWarmClear true, .warmResetClearHbm, s.pwr.romOnly), (.monResetModule true, .moduleResetRequest 0x52B7, false)],
        p.2.2 = false → ∃ u, exec p.2.1 (s.emit (.console ["ok", s.prompt])) = .next u ∧ exec p.1 s = .next u)
      ∧ (s.pwr.romOnly = false → 3 ≤ s.mon.state → ∀ i ∈ [Instr.monResetWarmKeep false, .monResetWarmClear false, .monResetModule false],
        exec i s = .next (s.emit (.console ["err SYNTAX", s.prompt])))
      ∧ (s.pwr.romOnly = false → 2 ≤ s.mon.state → ∀ p ∈ [(Instr.monTraceAcc, 1), (.monTraceOff, 0), (.monTraceCtx (c % 16), 2 + c % 16)],
        exec p.1 s = .next (({ s with mon := { s.mon with trace := p.2 } } : State).emit (.console ["ok", s.prompt])))
      ∧ (s.pwr.romOnly = false → 3 ≤ s.mon.state → 1 ≤ n →
        (∀ x i, (i = .monPeek a n ∧ n ≤ 256 ∧ s.peekRefused a n = some x)
            ∨ (i = .monPoke a bs ∧ bs ≠ [] ∧ bs.length ≤ 64 ∧ s.peekRefused a bs.length = some x) →
          ∃ u, exec i s = .next u ∧ u = { s with mgmt := u.mgmt, sites := u.sites, out := u.out }
            ∧ u.out = .console ["err REFUSED " ++ x, s.prompt] :: s.out
            ∧ (x ≠ "IDLE" → u.mgmt = s.mgmt ∧ u.sites = s.sites)
            ∧ (∀ d t off, place a = .tileWin d t off → x = "IDLE" → s.idleOf d t = 3 →
              u.counter 0x80E0 9 0 = min (2 ^ 64 - 1) (s.counter 0x80E0 9 0 + 1)))
        ∧ (n ≤ 256 → s.peekRefused a n = none → s.peekWaits a n = true → exec (.monPeek a n) s = .next (s.hbmDelay 0 a n))
        ∧ (n ≤ 256 → s.peekRefused a n = none → s.peekWaits a n = false → s.wayLost (s.hostNode 0) a = false → isReg a = false →
          ∃ u, exec (.monPeek a n) s = .next u ∧ u.mem = s.mem
          ∧ .console (dumpLines a (fun x => (s.memRead x (min 16 (a + n - x))).2) n (s.memRead a n).1 ++ ["ok", s.prompt]) ∈ u.out)
        ∧ (n ≤ 256 → s.peekRefused a n = none → s.peekWaits a n = false → s.wayLost (s.hostNode 0) a = true →
          ∃ u, exec (.monPeek a n) s = .next u ∧ u.mem = s.mem
          ∧ u.counter 0x8050 3 0 = min (2 ^ 64 - 1) (s.counter 0x8050 3 0 + 1)
          ∧ .console (dumpLines a (fun _ => true) n ((List.range n).map (fun i => (Config.freeByte (s.free + i)).toNat)) ++ ["ok", s.prompt]) ∈ u.out)
        ∧ (bs ≠ [] → bs.length ≤ 64 → s.peekRefused a bs.length = none → s.peekWaits a bs.length = true →
          exec (.monPoke a bs) s = .next (s.hbmDelay 0 a bs.length))
        ∧ (bs ≠ [] → bs.length ≤ 64 → s.peekRefused a bs.length = none → s.peekWaits a bs.length = false → s.wayLost (s.hostNode 0) a = false →
          isReg a = false → ∃ u, exec (.monPoke a bs) s = .next u
          ∧ u.mem = (s.memWrite a (bs.map (· % 256)) false).mem ∧ .console ["ok", s.prompt] ∈ u.out)
        ∧ (bs ≠ [] → bs.length ≤ 64 → s.peekRefused a bs.length = none → s.peekWaits a bs.length = false → s.wayLost (s.hostNode 0) a = true →
          isReg a = false → ∃ u, exec (.monPoke a bs) s = .next u
          ∧ (u.mem = s.mem ∨ u.mem = (s.memWrite a (bs.map (· % 256)) false).mem) ∧ .console ["ok", s.prompt] ∈ u.out
          ∧ 1 ≤ u.counter 0x8050 3 0)))
    ∧ (∀ (s : State) (i sb v : Nat) (r : ObjRow), s.pwr.ctrlOn = true → s.mon.challenge = none → s.pwr.romOnly = false → 1 ≤ s.mon.state →
      (8 ≤ s.mgmt.queue.length → ∀ c ∈ [Instr.monOdGet i sb none, .monOdSet i sb none [v], .monOdDesc i sb], ∃ t, exec c s = .next t
        ∧ t = { s with mgmt := t.mgmt, out := t.out } ∧ t.out = .console ["err BUSY", s.prompt] :: s.out
        ∧ t.counter 0x8100 0x0C 0 = min (2 ^ 64 - 1) (s.counter 0x8100 0x0C 0 + 1))
      ∧ (s.mgmt.queue = [] → objRow? i sb = none → ∀ c ∈ [Instr.monOdGet i sb none, .monOdSet i sb none [v], .monOdDesc i sb],
        exec c s = .next (s.emit (.console ["err NO_OBJECT", s.prompt])))
      ∧ (s.mgmt.queue = [] → objRow? i sb = some r → r.ty ≠ 9 → r.ty ≠ 10 → r.acc ≠ 3 → r.readPriv < s.mon.state →
        exec (.monOdGet i sb none) s = .next (s.emit (.console (valueLines r 0 (s.objBytes r) ++ ["ok", s.prompt]))))
      ∧ (s.mgmt.queue = [] → objRow? i sb = some r → ∃ line, exec (.monOdDesc i sb) s = .next (s.emit (.console [line, "ok", s.prompt])))
      ∧ (s.mgmt.queue = [] → 3 ≤ s.mon.state → 5 ≤ v → v ≤ 1000 → ∃ t, exec (.monOdSet 0x1021 1 none (leBytes 2 v)) s = .next t
        ∧ t.mem = s.mem ∧ t.obj 0x1021 1 0 = v ∧ t.out = .console ["ok", s.prompt] :: s.out))
    ∧ (∀ (s : State) (k : Nat), s.pwr.ctrlOn = true → s.mon.challenge = none →
      (k < 8 → s.mon.blockedUntil ≤ s.pwr.uptime → ∃ t, exec (.monLogin (some k)) s = .next t ∧ t = { s with mon := t.mon, free := t.free, out := t.out }
        ∧ t.mon.challenge = some (Config.challenge s.free % 2 ^ 64, k) ∧ t.mon.challengeAt = s.pwr.uptime ∧ t.mon.state = s.mon.state)
      ∧ (s.pwr.uptime < s.mon.blockedUntil → ∃ t, exec (.monLogin (some k)) s = .next t ∧ t.mon.challenge = none ∧ t.mon.state = s.mon.state
        ∧ t.out = .console ["err DENIED", s.prompt] :: s.out
        ∧ t.counter 0x8100 0x0E 0 = min (2 ^ 64 - 1) (s.counter 0x8100 0x0E 0 + 1))
      ∧ exec (.monLoginResponse k) s = .next s
      ∧ (∃ t, exec .monLock s = .next t ∧ t = { s with mon := t.mon, out := t.out } ∧ t.mon.state = 0 ∧ t.mon.slot = none ∧ t.mon.trace = 0
        ∧ t.out = .console ["ok", "lmx-L>"] :: s.out)
      ∧ exec (.monLineError 0) s = .next (s.emit (.console ["err SYNTAX", s.prompt]))
      ∧ exec (.monLineError 1) s = .next (s.emit (.console ["err UNKNOWN", s.prompt]))
      ∧ exec (.monLineError 2) s = .next (s.emit (.console ["err OVERRUN", s.prompt])))
    ∧ (∀ (s : State) (c k v : Nat), s.pwr.ctrlOn = true → s.mon.challenge = some (c, k) →
      (s.pwr.uptime ≤ s.mon.challengeAt + 60000000000 → (s.key k).enable = true → v < 2 ^ 64 → Sha.beBytes 8 v = s.loginAnswer c k →
        ∃ t, exec (.monLoginResponse v) s = .next t ∧ t = { s with mon := t.mon, out := t.out } ∧ t.mon.state = (s.key k).priv + 1
          ∧ t.mon.slot = some k ∧ t.mon.challenge = none ∧ t.out = .console ["ok", t.prompt] :: s.out)
      ∧ (∀ i, (i ∈ [Instr.monHelp none, .monId, .monLock, .monBist, .monLogin none]
          ∨ (i = .monLoginResponse v ∧ (Sha.beBytes 8 v ≠ s.loginAnswer c k ∨ (s.key k).enable = false
            ∨ s.mon.challengeAt + 60000000000 < s.pwr.uptime))) →
        ∃ t, exec i s = .next t ∧ t = { s with mon := t.mon, mgmt := t.mgmt, out := t.out } ∧ t.mon.challenge = none ∧ t.mon.state = s.mon.state
          ∧ t.out = .console ["err DENIED", s.prompt] :: s.out
          ∧ t.counter 0x8100 0x0E 0 = min (2 ^ 64 - 1) (s.counter 0x8100 0x0E 0 + 1)))
    ∧ (∀ (s : State), exec .monCtrlC s = .next s
      ∧ (s.pwr.ctrlOn = true → ∃ t, exec .monBreak s = .next t ∧ t = { s with mon := t.mon } ∧ t.mon.state = 0 ∧ t.mon.baud = 115200
        ∧ t.obj 0x1030 1 0 = s.obj 0x1030 1 0)
      ∧ (s.pwr.ctrlOn = true → s.obj 0x1030 2 0 ≠ 0 → ∃ t, exec .monLockTimeout s = .next t ∧ t = { s with mon := t.mon } ∧ t.mon.state = 0
        ∧ t.mon.baud = s.mon.baud)
      ∧ (s.obj 0x1030 2 0 = 0 → exec .monLockTimeout s = .next s))

/-- While no key slot is enabled, login with no argument logs in at ADMIN; once one is, it gives err SYNTAX (R613). -/
def Obligations.SetupLoginNeedsNoKeyWhileNoneIsEnabled : Prop :=
  ∀ (s : State), s.pwr.ctrlOn = true → s.mon.challenge = none → s.mon.blockedUntil ≤ s.pwr.uptime →
    ((∀ e ∈ s.mgmt.keys, e.2.enable = false) → ∃ t, exec (.monLogin none) s = .next t
      ∧ t.mon = { s.mon with state := 3, slot := none } ∧ t.mon.challenge = none
      ∧ t.out = .console ["no keys: setup login", "ok", "lmx-A>"] :: s.out
      ∧ t = { s with mon := t.mon, out := t.out })
    ∧ (∀ k, (s.key k).enable = true → ∃ t, exec (.monLogin none) s = .next t
      ∧ t.out = .console ["err SYNTAX", s.prompt] :: s.out ∧ t = { s with out := t.out })

/-- Outside a compute warm reset, no command resets context 0, and a request that names it is not applied (R359). -/
def Obligations.ContextZeroIsNeverResetOnItsOwn : Prop :=
  (∀ (c : Instr) (s t : State), exec c s = .next t → (s.pwr.warm = .none → s.ctx0.st = .active ∧ s.ctx0.reset? = none) →
      (t.pwr.warm = .none → t.ctx0.st = .active ∧ t.ctx0.reset? = none))
    ∧ (∀ (s : State), exec (.ctxReset 0) s = .next { s with ctx0 := { s.ctx0 with cmdStatus := 3 } }
      ∧ exec (.ctxResetKeep 0) s = .next { s with ctx0 := { s.ctx0 with cmdStatus := 3 } }
      ∧ ∀ b, exec (.ctxFenceReset 0 b) s = .next s)

/-- Every command answers a next state in every state, and leaves the factory catalogue, the queue and the form of memory as they were (R13, R46, R230). -/
def Obligations.EveryCommandCompletes : Prop :=
  ∀ (c : Instr) (s : State), ∃ t, exec c s = .next t ∧ State.Keeps s t

/-- Every step answers a state whose memory is in canonical form if it was before, with the front command taken and the factory facts kept (R46, R230). -/
def Obligations.EveryStepKeepsTheCanonicalForm : Prop :=
  ∀ (s : State), ∃ t, step s = .next t ∧ t.pending = s.pending.tail ∧ t.factory = s.factory
    ∧ (Memory.wf s.mem = true → Memory.wf t.mem = true)

/-- A step runs the command at the front of the queue on the rest of it; with none waiting a nanosecond passes (R13, R441). -/
def Obligations.StepRunsTheFrontCommand : Prop :=
  (∀ (c : Instr) (s : State) (cs : List Instr), step { s with pending := c :: cs } = exec c { s with pending := cs })
    ∧ (∀ (s : State), s.pending = [] → step s = .next s.tick
      ∧ (s.pwr.ctrlOn = false → s.tick = s)
      ∧ (s.pwr.ctrlOn = true → s.tick.pwr.uptime = s.pwr.uptime + 1 ∧ s.tick.mem = s.mem ∧ s.tick.ctxs = s.ctxs ∧ s.tick.ctx0 = s.ctx0))
    ∧ (∀ (s : State) (n w : Nat), decodeTableWord n w = none ∧ s.withFetchWord n w = s)

/-- The state after reset holds the values the spec states, no memory byte listed, no command waiting, and meets the invariants (R230, R359, R360, R368, R603, R606). -/
def Obligations.ResetLeavesTheStatedValues : Prop :=
  State.reset.mem = [] ∧ State.reset.pending = [] ∧ Memory.wf State.reset.mem = true ∧ (∀ a, State.reset.memByte a = 0)
    ∧ State.reset.pwr.warm = .none ∧ State.reset.ctx0.st = .active ∧ State.reset.ctx0.reset? = none
    ∧ (∀ c, 1 ≤ c → (State.reset.ctx c).st = .inactive ∧ (State.reset.ctx c).gen = 0 ∧ (State.reset.ctx c).reset? = none)
    ∧ State.reset.mon.state = 0 ∧ State.reset.mon.baud = 115200 ∧ State.reset.mon.challenge = none
    ∧ State.reset.obj 0x1012 0 0 = 2 ∧ State.reset.obj 0x1021 1 0 = 20 ∧ State.reset.obj 0x1021 2 0 = 3 ∧ State.reset.obj 0x1030 1 0 = 115200
    ∧ State.reset.obj 0x3010 1 0 = 2 ∧ State.reset.obj 0x3010 2 0 = 0x0000C0E00A030401 ∧ State.reset.obj 0x5015 0 0 = 4000
    ∧ (∀ i sb el, State.reset.counter i sb el = 0)
    ∧ (∀ p, (State.reset.fport p).st ≠ .up)
end

