-- ==== Sys2Proof/Laws/SMap.lean ====
section
/-! SUPPORT. Sparse stores: a written key reads back, every other key reads as before, and every operation keeps the canonical
form. -/

namespace Sys2Proof.Machine.SMap

variable {α : Type} {d : α}

theorem get_erase_same (m : SMap α) (k : Nat) : get d (erase m k) k = d := by
  induction m with
  | nil => rfl
  | cons e m ih =>
    obtain ⟨j, w⟩ := e
    by_cases h : j = k
    · simpa [erase, h] using ih
    · simpa [erase, h, get] using ih

theorem get_erase_other (m : SMap α) {k k' : Nat} (hne : k' ≠ k) : get d (erase m k) k' = get d m k' := by
  induction m with
  | nil => rfl
  | cons e m ih =>
    obtain ⟨j, w⟩ := e
    by_cases h : j = k
    · have : j ≠ k' := fun e => hne (e ▸ h)
      simpa [erase, h, get, Ne.symm hne] using ih
    · simp only [erase] at ih
      simp [erase, h, get, ih]

theorem get_insert_same (m : SMap α) (k : Nat) (v : α) (h : ∀ e ∈ m, e.1 ≠ k) : get d (insert m k v) k = v := by
  induction m with
  | nil => simp [insert, get]
  | cons e m ih =>
    obtain ⟨j, w⟩ := e
    unfold insert
    split
    · simp [get]
    · have hj : j ≠ k := h (j, w) (by simp)
      simp [get, hj, ih (fun e he => h e (by simp [he]))]

theorem get_insert_other (m : SMap α) {k k' : Nat} (v : α) (hne : k' ≠ k) : get d (insert m k v) k' = get d m k' := by
  induction m with
  | nil => simp [insert, get, Ne.symm hne]
  | cons e m ih =>
    obtain ⟨j, w⟩ := e
    unfold insert
    split
    · simp [get, Ne.symm hne]
    · simp [get, ih]

variable [DecidableEq α]

/-- A value written reads back. -/
@[simp] theorem get_set_same (m : SMap α) (k : Nat) (v : α) : get d (set d m k v) k = v := by
  unfold set
  split
  · rename_i h; rw [get_erase_same, h]
  · exact get_insert_same _ _ _ (fun e he => by simpa using (List.mem_filter.1 he).2)

/-- Every other key reads as before. -/
theorem get_set_other (m : SMap α) {k k' : Nat} (v : α) (hne : k' ≠ k) : get d (set d m k v) k' = get d m k' := by
  unfold set
  split
  · exact get_erase_other m hne
  · rw [get_insert_other _ _ hne, get_erase_other m hne]

@[simp] theorem get_upd_same (m : SMap α) (k : Nat) (f : α → α) : get d (upd d m k f) k = f (get d m k) := get_set_same m k _

theorem get_upd_other (m : SMap α) {k k' : Nat} (f : α → α) (hne : k' ≠ k) : get d (upd d m k f) k' = get d m k' :=
  get_set_other m _ hne

-- ---------------------------------------------------------------- the canonical form

theorem wfFrom_mono {b c : Nat} {m : SMap α} (hbc : b ≤ c) (h : wfFrom d (some c) m = true) : wfFrom d (some b) m = true := by
  cases m with
  | nil => rfl
  | cons e m =>
    obtain ⟨j, w⟩ := e
    simp only [wfFrom, Bool.and_eq_true, decide_eq_true_eq] at h ⊢
    exact ⟨⟨by omega, h.1.2⟩, h.2⟩

theorem wfFrom_none_of_some {b : Nat} {m : SMap α} (h : wfFrom d (some b) m = true) : wfFrom d none m = true := by
  cases m with
  | nil => rfl
  | cons e m =>
    obtain ⟨j, w⟩ := e
    simp only [wfFrom, Bool.and_eq_true] at h ⊢
    exact ⟨⟨trivial, h.1.2⟩, h.2⟩

theorem wfFrom_lower {b : Option Nat} {j : Nat} {m : SMap α} (hb : ∀ x, b = some x → x ≤ j) (h : wfFrom d (some j) m = true) :
    wfFrom d b m = true := by
  cases b with
  | none => exact wfFrom_none_of_some h
  | some x => exact wfFrom_mono (hb x rfl) h

theorem wfFrom_clear (p : Nat → Bool) (m : SMap α) : ∀ {b : Option Nat}, wfFrom d b m = true →
    wfFrom d b (m.filter (fun e => !p e.1)) = true := by
  induction m with
  | nil => intro b h; exact h
  | cons e m ih =>
    obtain ⟨j, w⟩ := e
    intro b h
    simp only [wfFrom, Bool.and_eq_true] at h
    by_cases hp : p j = true
    · have hb : ∀ x, b = some x → x ≤ j := by
        intro x hx; subst hx; have := h.1.1; simp only [decide_eq_true_eq] at this; omega
      simpa [hp] using ih (wfFrom_lower hb h.2)
    · simp only [Bool.not_eq_true] at hp
      simp only [List.filter_cons, hp, Bool.not_false, if_true, wfFrom, Bool.and_eq_true]
      exact ⟨h.1, ih h.2⟩

theorem wf_clear (p : Nat → Bool) (m : SMap α) (h : wf d m = true) : wf d (clear p m) = true := wfFrom_clear p m h

theorem wfFrom_erase (m : SMap α) (k : Nat) {b : Option Nat} (h : wfFrom d b m = true) : wfFrom d b (erase m k) = true := by
  have : erase m k = m.filter (fun e => !(fun j => j == k) e.1) := rfl
  rw [this]
  exact wfFrom_clear (fun j => j == k) m h

theorem wfFrom_insert (m : SMap α) (k : Nat) (v : α) (hv : v ≠ d) (hk : ∀ e ∈ m, e.1 ≠ k) : ∀ {b : Option Nat},
    wfFrom d b m = true → (∀ x, b = some x → x < k) → wfFrom d b (insert m k v) = true := by
  induction m with
  | nil =>
    intro b _ hb
    cases b with
    | none => simp [insert, wfFrom, hv]
    | some x => simp [insert, wfFrom, hv, hb x rfl]
  | cons e m ih =>
    obtain ⟨j, w⟩ := e
    intro b h hb
    simp only [wfFrom, Bool.and_eq_true] at h
    unfold insert
    split
    · rename_i hkj
      simp only [wfFrom, Bool.and_eq_true, decide_eq_true_eq]
      refine ⟨⟨?_, hv⟩, ⟨hkj, by simpa using h.1.2⟩, h.2⟩
      cases b with
      | none => trivial
      | some x => simpa using hb x rfl
    · rename_i hkj
      have hne : j ≠ k := hk (j, w) (by simp)
      simp only [wfFrom, Bool.and_eq_true]
      refine ⟨h.1, ih (fun e he => hk e (by simp [he])) h.2 (fun x hx => ?_)⟩
      injection hx with hx
      omega

/-- Writing keeps the canonical form. -/
theorem wf_set (m : SMap α) (k : Nat) (v : α) (h : wf d m = true) : wf d (set d m k v) = true := by
  unfold set
  split
  · exact wfFrom_erase m k h
  · rename_i hv
    exact wfFrom_insert _ _ _ hv (fun e he => by simpa using (List.mem_filter.1 he).2) (wfFrom_erase m k h) (fun x hx => by cases hx)

theorem wf_upd (m : SMap α) (k : Nat) (f : α → α) (h : wf d m = true) : wf d (upd d m k f) = true := wf_set m k _ h

end Sys2Proof.Machine.SMap
end

