-- ==== Sys2Proof/Laws/Memory.lean ====
section
/-! SUPPORT. Memory: every write keeps the canonical form, a byte written reads back, every other byte is as it was. -/

namespace Sys2Proof.Machine

@[simp] theorem Memory.wf_nil : Memory.wf [] = true := rfl

@[simp] theorem Memory.wf_memSet {m : List Host.Cell} (a v : Nat) (h : Memory.wf m = true) :
    Memory.wf (memSet m a v) = true := SMap.wf_set m a _ h

@[simp] theorem Memory.wf_memSets (bs : List Nat) : ∀ {m : List Host.Cell} (a : Nat), Memory.wf m = true →
    Memory.wf (memSets m a bs) = true := by
  induction bs with
  | nil => intro m a h; exact h
  | cons b bs ih => intro m a h; exact ih (a + 1) (Memory.wf_memSet a b h)

@[simp] theorem Memory.wf_clear {m : List Host.Cell} (p : Nat → Bool) (h : Memory.wf m = true) :
    Memory.wf (SMap.clear p m) = true := SMap.wf_clear p m h

@[simp] theorem Memory.wf_foldl {α : Type} (f : List Host.Cell → α → List Host.Cell)
    (hf : ∀ m x, Memory.wf m = true → Memory.wf (f m x) = true) (l : List α) :
    ∀ {m : List Host.Cell}, Memory.wf m = true → Memory.wf (l.foldl f m) = true := by
  induction l with
  | nil => intro m h; exact h
  | cons x l ih => intro m h; exact ih (hf m x h)

/-- A byte written reads back. -/
theorem memSet_same (m : List Host.Cell) (a v : Nat) : SMap.get (0 : Byte) (memSet m a v) a = BitVec.ofNat 8 v :=
  SMap.get_set_same m a _

/-- Every other byte reads as before. -/
theorem memSet_other (m : List Host.Cell) {a b : Nat} (v : Nat) (hne : b ≠ a) :
    SMap.get (0 : Byte) (memSet m a v) b = SMap.get (0 : Byte) m b := SMap.get_set_other m _ hne

/-- Bytes outside a write read as before. -/
theorem memSets_outside (bs : List Nat) : ∀ (m : List Host.Cell) {a b : Nat}, (b < a ∨ a + bs.length ≤ b) →
    SMap.get (0 : Byte) (memSets m a bs) b = SMap.get (0 : Byte) m b := by
  induction bs with
  | nil => intros; rfl
  | cons x bs ih =>
    intro m a b hb
    simp only [List.length_cons] at hb
    rw [memSets, ih _ (by omega), memSet_other _ x (by omega)]

/-- Bytes written read back. -/
theorem memSets_inside (bs : List Nat) : ∀ (m : List Host.Cell) (a i : Nat), i < bs.length →
    SMap.get (0 : Byte) (memSets m a bs) (a + i) = BitVec.ofNat 8 (bs.getD i 0) := by
  induction bs with
  | nil => intro m a i hi; simp at hi
  | cons x bs ih =>
    intro m a i hi
    cases i with
    | zero => rw [memSets, memSets_outside bs _ (by omega)]; simpa using memSet_same m a x
    | succ i =>
      rw [memSets, show a + (i + 1) = a + 1 + i by omega, ih _ _ _ (by simpa using hi)]; simp

end Sys2Proof.Machine
end

