-- ==== Sys2Proof/Laws/Chain.lean ====
section
/-! SUPPORT. How a proof that nothing touches the factory catalogue, the queue of commands or the canonical form of memory goes
through a chain of operations: `Same` for operations that leave memory alone, `Keeps` for those that write it. -/

namespace Sys2Proof.Machine

/-- The operation leaves the factory catalogue, the queue and memory as they are. -/
abbrev State.Same (s t : State) : Prop := t.factory = s.factory ∧ t.pending = s.pending ∧ t.mem = s.mem

theorem foldl_same {α : Type} {f : State → α → State} (h : ∀ s x, State.Same s (f s x)) (l : List α) (s : State) :
    State.Same s (l.foldl f s) := by
  induction l generalizing s with
  | nil => exact ⟨rfl, rfl, rfl⟩
  | cons a l ih =>
    rw [List.foldl_cons]
    exact ⟨(ih _).1.trans (h s a).1, (ih _).2.1.trans (h s a).2.1, (ih _).2.2.trans (h s a).2.2⟩

theorem foldl_keeps {α : Type} {f : State → α → State} (h : ∀ s x, State.Keeps s (f s x)) (l : List α) (s : State) :
    State.Keeps s (l.foldl f s) := by
  induction l generalizing s with
  | nil => exact ⟨rfl, rfl, id⟩
  | cons a l ih =>
    rw [List.foldl_cons]
    exact ⟨(ih _).1.trans (h s a).1, (ih _).2.1.trans (h s a).2.1, fun hw => (ih _).2.2 ((h s a).2.2 hw)⟩

theorem same_trans {a b c : State} (h : State.Same a b) (k : State.Same b c) : State.Same a c :=
  ⟨k.1.trans h.1, k.2.1.trans h.2.1, k.2.2.trans h.2.2⟩

theorem keeps_trans {a b c : State} (h : State.Keeps a b) (k : State.Keeps b c) : State.Keeps a c :=
  ⟨k.1.trans h.1, k.2.1.trans h.2.1, fun hw => k.2.2 (h.2.2 hw)⟩

theorem keeps_of_same {a b : State} (h : State.Same a b) : State.Keeps a b := ⟨h.1, h.2.1, fun hw => by rw [h.2.2]; exact hw⟩

theorem foldl_sameP {α β : Type} {f : State × β → α → State × β} (h : ∀ p x, State.Same p.1 (f p x).1) (l : List α) (p : State × β) :
    State.Same p.1 (l.foldl f p).1 := by
  induction l generalizing p with
  | nil => exact ⟨rfl, rfl, rfl⟩
  | cons a l ih => rw [List.foldl_cons]; exact same_trans (h p a) (ih _)

theorem foldl_keepsP {α β : Type} {f : State × β → α → State × β} (h : ∀ p x, State.Keeps p.1 (f p x).1) (l : List α) (p : State × β) :
    State.Keeps p.1 (l.foldl f p).1 := by
  induction l generalizing p with
  | nil => exact ⟨rfl, rfl, id⟩
  | cons a l ih => rw [List.foldl_cons]; exact keeps_trans (h p a) (ih _)

theorem foldl_bind_same {α : Type} {f : State → α → Option State} (h : ∀ s x t, f s x = some t → State.Same s t) (l : List α)
    (o : Option State) (s t : State) (ho : ∀ u, o = some u → State.Same s u)
    (hl : l.foldl (fun acc x => acc.bind (fun s => f s x)) o = some t) : State.Same s t := by
  induction l generalizing o with
  | nil => exact ho t hl
  | cons a l ih =>
    refine ih _ (fun u hu => ?_) hl
    obtain ⟨v, hv, hf⟩ := Option.bind_eq_some_iff.1 hu
    exact same_trans (ho v hv) (h v a u hf)

/-- `Same` as a structure, for proofs that chain long states. -/
structure State.SameD (s t : State) : Prop where
  out : State.Same s t

/-- `Keeps` as a structure, for proofs that chain long states. -/
structure State.KeepsD (s t : State) : Prop where
  out : State.Keeps s t

theorem sameD_trans {a b c : State} (h : State.SameD a b) (k : State.SameD b c) : State.SameD a c := ⟨same_trans h.out k.out⟩

theorem keepsD_trans {a b c : State} (h : State.KeepsD a b) (k : State.KeepsD b c) : State.KeepsD a c := ⟨keeps_trans h.out k.out⟩

theorem foldl_sameD {α : Type} {f : State → α → State} (h : ∀ s x, State.SameD s (f s x)) (l : List α) (s : State) :
    State.SameD s (l.foldl f s) := ⟨foldl_same (fun s x => (h s x).out) l s⟩

theorem foldl_keepsD {α : Type} {f : State → α → State} (h : ∀ s x, State.KeepsD s (f s x)) (l : List α) (s : State) :
    State.KeepsD s (l.foldl f s) := ⟨foldl_keeps (fun s x => (h s x).out) l s⟩

theorem keepsD_ite {s a b : State} {p : Prop} [Decidable p] (ha : State.KeepsD s a) (hb : State.KeepsD s b) :
    State.KeepsD s (if p then a else b) := by split <;> assumption

end Sys2Proof.Machine
end

