-- ==== Sys2Proof/Laws/Keeps.lean ====
section
/-! SUPPORT. One lemma for each operation that answers a state: it leaves the factory catalogue (R46), the queue and memory as
they are, or keeps memory's canonical form where it writes memory. -/

namespace Sys2Proof.Machine

-- ---------------------------------------------------------------- Machine/Objects.lean

@[simp] theorem State.setObj_same (s : State) (index sub el v : Nat) : State.Same s (State.setObj s index sub el v) := by
  unfold State.setObj
  refine ⟨?_, ?_, ?_⟩ <;> simp

@[simp] theorem State.count_same (s : State) (index sub el n : Nat) : State.Same s (State.count s index sub el n) := by
  unfold State.count
  refine ⟨?_, ?_, ?_⟩ <;> simp

@[simp] theorem State.setCounter_same (s : State) (index sub el v : Nat) : State.Same s (State.setCounter s index sub el v) := by
  unfold State.setCounter
  refine ⟨?_, ?_, ?_⟩ <;> simp



-- ---------------------------------------------------------------- Machine/Ops.lean

@[simp] theorem State.setTile_same (s : State) (die tile : Nat) (t : Tile) : State.Same s (State.setTile s die tile t) := by
  unfold State.setTile
  refine ⟨?_, ?_, ?_⟩ <;> simp

@[simp] theorem State.updTile_same (s : State) (die tile : Nat) (f : Tile → Tile) : State.Same s (State.updTile s die tile f) := by
  unfold State.updTile
  refine ⟨?_, ?_, ?_⟩ <;> simp

@[simp] theorem State.updSite_same (s : State) (die site : Nat) (f : Site → Site) : State.Same s (State.updSite s die site f) := by
  unfold State.updSite
  refine ⟨?_, ?_, ?_⟩ <;> simp

@[simp] theorem State.updDie_same (s : State) (d : Nat) (f : Die → Die) : State.Same s (State.updDie s d f) := by
  unfold State.updDie
  refine ⟨?_, ?_, ?_⟩ <;> simp

@[simp] theorem State.setCtx_same (s : State) (c : Nat) (x : Ctx) : State.Same s (State.setCtx s c x) := by
  unfold State.setCtx
  split <;> refine ⟨?_, ?_, ?_⟩ <;> simp

@[simp] theorem State.updCtx_same (s : State) (c : Nat) (f : Ctx → Ctx) : State.Same s (State.updCtx s c f) := by
  unfold State.updCtx
  refine ⟨?_, ?_, ?_⟩ <;> simp

@[simp] theorem State.takeFree_same (s : State) (n : Nat) : State.Same s (State.takeFree s n) := by
  unfold State.takeFree
  refine ⟨?_, ?_, ?_⟩ <;> simp

@[simp] theorem State.emit_same (s : State) (o : Output) : State.Same s (State.emit s o) := by
  unfold State.emit
  refine ⟨?_, ?_, ?_⟩ <;> simp

@[simp] theorem State.wakeSite_same (s : State) (die site : Nat) : State.Same s (State.wakeSite s die site) := by
  unfold State.wakeSite
  refine ⟨?_, ?_, ?_⟩ <;> simp

@[simp] theorem State.noteIdle_same (s : State) (die tile : Nat) : State.Same s (State.noteIdle s die tile) := by
  unfold State.noteIdle; (try dsimp only)
  repeat' split
  all_goals first | (refine ⟨?_, ?_, ?_⟩ <;> simp; done) | (refine ⟨?_, ?_, ?_⟩ <;> simp [*]; done) | (refine foldl_same (fun s x => ?_) _ _; (repeat' split) <;> refine ⟨?_, ?_, ?_⟩ <;> simp)

@[simp] theorem State.memWriteRaw_keeps (s : State) (a : Nat) (bs : List Nat) (poison : Bool) : State.Keeps s (State.memWriteRaw s a bs poison) := by
  unfold State.memWriteRaw
  refine ⟨?_, ?_, fun hw => ?_⟩ <;> simp [*]

@[simp] theorem State.memWriteLines_keeps (s : State) (a : Nat) (bs : List Nat) (poison : Bool) (x0 : List Nat) : State.Keeps s (State.memWriteLines s a bs poison x0) := by
  induction x0 generalizing s with
  | nil => exact ⟨rfl, rfl, id⟩
  | cons l ls ih => unfold State.memWriteLines; dsimp only; exact keeps_trans (by split <;> exact ⟨by simp, by simp, fun hw => by simp (maxDischargeDepth := 30) [hw]⟩) (ih _)

@[simp] theorem State.memWrite_keeps (s : State) (a : Nat) (bs : List Nat) (poison : Bool) : State.Keeps s (State.memWrite s a bs poison) := by
  unfold State.memWrite
  split <;> refine ⟨?_, ?_, fun hw => ?_⟩ <;> simp [*]

@[simp] theorem State.memPoison_same (s : State) (a n : Nat) : State.Same s (State.memPoison s a n) := by
  unfold State.memPoison
  refine ⟨?_, ?_, ?_⟩ <;> simp

@[simp] theorem State.memZero_keeps (s : State) (a n : Nat) : State.Keeps s (State.memZero s a n) := by
  unfold State.memZero
  refine ⟨?_, ?_, fun hw => ?_⟩ <;> simp [*]

@[simp] theorem State.zeroOut_keeps (s : State) (a n : Nat) : State.Keeps s (State.zeroOut s a n) := by
  unfold State.zeroOut
  split <;> refine ⟨?_, ?_, fun hw => ?_⟩ <;> simp [*]

@[simp] theorem State.zeroSram_keeps (s : State) : State.Keeps s (State.zeroSram s) := by
  unfold State.zeroSram
  refine ⟨?_, ?_, fun hw => ?_⟩ <;> simp [*]


@[simp] theorem State.markPoison_same (s : State) (kind a : Nat) : State.Same s (State.markPoison s kind a) := by
  unfold State.markPoison
  refine ⟨?_, ?_, ?_⟩ <;> simp


-- ---------------------------------------------------------------- Machine/Reach.lean

@[simp] theorem State.tally_same (s : State) (c key n : Nat) : State.Same s (State.tally s c key n) := by
  unfold State.tally
  split <;> refine ⟨?_, ?_, ?_⟩ <;> simp

@[simp] theorem State.tallyAll_same (s : State) (cs : List Nat) (key n : Nat) : State.Same s (State.tallyAll s cs key n) := by
  unfold State.tallyAll
  refine foldl_same (fun s x => ?_) _ _
  refine ⟨?_, ?_, ?_⟩ <;> simp

@[simp] theorem State.noteDelay_same (s : State) (c : Nat) (v : Nat) : State.Same s (State.noteDelay s c v) := by
  unfold State.noteDelay
  repeat' split
  all_goals refine ⟨?_, ?_, ?_⟩ <;> simp

@[simp] theorem State.delayPc_same (s : State) (c pc : Nat) : State.Same s (State.delayPc s c pc) := by
  unfold State.delayPc
  dsimp only
  repeat' split
  all_goals refine ⟨?_, ?_, ?_⟩ <;> simp

@[simp] theorem State.hbmDelay_same (s : State) (c a n : Nat) : State.Same s (State.hbmDelay s c a n) := by
  unfold State.hbmDelay
  refine foldl_same (fun s x => ?_) _ _
  refine ⟨?_, ?_, ?_⟩ <;> simp


@[simp] theorem State.bankZeroed_keeps (s : State) (die tile bank : Nat) : State.Keeps s (State.bankZeroed s die tile bank) := by
  unfold State.bankZeroed
  refine ⟨?_, ?_, fun hw => ?_⟩ <;> simp [*]

@[simp] theorem State.gbWeft_same (s : State) (a : Nat) (write : Bool) : State.Same s (State.gbWeft s a write) := by
  unfold State.gbWeft
  split <;> refine ⟨?_, ?_, ?_⟩ <;> simp

@[simp] theorem State.gbWeftRange_same (s : State) (a n : Nat) (write : Bool) : State.Same s (State.gbWeftRange s a n write) := by
  unfold State.gbWeftRange; (try dsimp only)
  repeat' split
  all_goals first | (refine ⟨?_, ?_, ?_⟩ <;> simp; done) | (refine ⟨?_, ?_, ?_⟩ <;> simp [*]; done) | (refine foldl_same (fun s x => ?_) _ _; (repeat' split) <;> refine ⟨?_, ?_, ?_⟩ <;> simp)

@[simp] theorem State.wakeTile_same (s : State) (die tile : Nat) : State.Same s (State.wakeTile s die tile) := by
  unfold State.wakeTile; (try dsimp only)
  repeat' split
  all_goals first | (refine ⟨?_, ?_, ?_⟩ <;> simp; done) | (refine ⟨?_, ?_, ?_⟩ <;> simp [*]; done) | (refine foldl_same (fun s x => ?_) _ _; (repeat' split) <;> refine ⟨?_, ?_, ?_⟩ <;> simp)

@[simp] theorem State.reachFor_keeps (s : State) (c a n : Nat) (write : Bool) : State.Keeps s (State.reachFor s c a n write) := by
  suffices h : State.KeepsD s (s.reachFor c a n write) from h.out
  unfold State.reachFor
  split
  · split
    · refine keepsD_trans (keepsD_trans ⟨keeps_of_same (State.wakeTile_same _ _ _)⟩ (foldl_keepsD (fun s b => ?_) _ _))
        ⟨keeps_of_same (State.gbWeftRange_same _ _ _ _)⟩
      exact keepsD_ite ⟨State.bankZeroed_keeps _ _ _ _⟩ ⟨rfl, rfl, id⟩
    · exact ⟨keeps_of_same (State.wakeTile_same _ _ _)⟩
  · exact ⟨keeps_of_same (State.hbmDelay_same _ _ _ _)⟩


-- ---------------------------------------------------------------- Machine/Events.lean

@[simp] theorem State.updPort_same (s : State) (p : Nat) (f : HostPort → HostPort) : State.Same s (State.updPort s p f) := by
  unfold State.updPort
  refine ⟨?_, ?_, ?_⟩ <;> simp

@[simp] theorem State.updFn_same (s : State) (p f : Nat) (g : Fn → Fn) : State.Same s (State.updFn s p f g) := by
  unfold State.updFn
  refine ⟨?_, ?_, ?_⟩ <;> simp

@[simp] theorem State.signal_same (s : State) (p f v holdoffUs : Nat) : State.Same s (State.signal s p f v holdoffUs) := by
  unfold State.signal
  dsimp only
  repeat' split
  all_goals refine ⟨?_, ?_, ?_⟩ <;> simp

@[simp] theorem State.signalPf_same (s : State) (v : Nat) : State.Same s (State.signalPf s v) := by
  unfold State.signalPf
  split <;> refine ⟨?_, ?_, ?_⟩ <;> simp

theorem State.weftMayWrite_same (s : State) : State.Same s s.weftMayWrite.2 := by
  unfold State.weftMayWrite State.tryWeft; dsimp only
  refine ⟨?_, ?_, ?_⟩ <;> (repeat' split) <;> simp

@[simp] theorem State.ringWrite_keeps (s : State) (c : Nat) (k : RingKind) (entry : Nat) (withPhase : Bool) : State.Keeps s (State.ringWrite s c k entry withPhase) := by
  suffices h : State.KeepsD s (s.ringWrite c k entry withPhase) from h.out
  unfold State.ringWrite; dsimp only
  have h1 : ∀ a n e, State.KeepsD s (if (s.reachFor c a n true).weftMayWrite.1 = true then (s.reachFor c a n true).weftMayWrite.2.memWrite a (leBytes n e) false
      else (s.reachFor c a n true).weftMayWrite.2) := fun a n e => by
    refine keepsD_trans (b := (s.reachFor c a n true).weftMayWrite.2)
      (keepsD_trans ⟨State.reachFor_keeps _ _ _ _ _⟩ ⟨keeps_of_same (State.weftMayWrite_same _)⟩) ?_
    exact keepsD_ite ⟨State.memWrite_keeps _ _ _ _⟩ ⟨rfl, rfl, id⟩
  refine keepsD_ite (keepsD_trans ?_ ⟨keeps_of_same (State.signal_same _ _ _ _ _)⟩) ?_
  all_goals
    refine keepsD_trans ?_ ⟨keeps_of_same (State.updCtx_same _ _ _)⟩
    exact keepsD_ite ⟨keeps_of_same (State.emit_same _ _)⟩ (h1 _ _ _)

@[simp] theorem State.postEvent_keeps (s : State) (c : Nat) (e : Event) : State.Keeps s (State.postEvent s c e) := by
  unfold State.postEvent
  dsimp only
  repeat' split
  all_goals refine ⟨?_, ?_, fun hw => ?_⟩ <;> simp [*]

@[simp] theorem State.postCompletion_same (s : State) (c entry : Nat) (node : Option (Nat × Nat)) : State.Same s (State.postCompletion s c entry node).1 := by
  unfold State.postCompletion
  split <;> refine ⟨?_, ?_, ?_⟩ <;> simp



-- ---------------------------------------------------------------- Machine/Catalogue.lean

@[simp] theorem State.appendField_same (s : State) (e : BitVec 128) : State.Same s (State.appendField s e) := by
  unfold State.appendField
  refine ⟨?_, ?_, ?_⟩ <;> simp

@[simp] theorem State.appendOwed_keeps (s : State) (p : OwedEntry) : State.Keeps s (State.appendOwed s p) := by
  unfold State.appendOwed
  refine ⟨?_, ?_, fun hw => ?_⟩ <;> simp [*]

@[simp] theorem State.oweField_same (s : State) (kind : Nat) (rehearsal : Bool) (u : Nat) : State.Same s (State.oweField s kind rehearsal u) := by
  unfold State.oweField
  refine ⟨?_, ?_, ?_⟩ <;> simp

@[simp] theorem State.numberDie_same (s : State) (die : Nat) : State.Same s (State.numberDie s die) := by
  unfold State.numberDie
  refine ⟨?_, ?_, ?_⟩ <;> simp

@[simp] theorem State.applyLicences_same (s : State) : State.Same s (State.applyLicences s) := by
  unfold State.applyLicences
  refine ⟨?_, ?_, ?_⟩ <;> simp



-- ---------------------------------------------------------------- Machine/Routes.lean

@[simp] theorem State.loseOn_same (s : State) (u : Nat) : State.Same s (State.loseOn s u) := by
  unfold State.loseOn
  refine ⟨?_, ?_, ?_⟩ <;> simp

@[simp] theorem State.routeAround_same (s : State) (u : Nat) : State.Same s (State.routeAround s u) := by
  unfold State.routeAround
  refine ⟨?_, ?_, ?_⟩ <;> simp

@[simp] theorem State.bootRoutes_same (s : State) (die : Nat) : State.Same s (State.bootRoutes s die) := by
  unfold State.bootRoutes
  dsimp only
  split <;> refine ⟨?_, ?_, ?_⟩ <;> simp



-- ---------------------------------------------------------------- Machine/Curator.lean

@[simp] theorem State.logAcc_same (s : State) (r : AccRec) : State.Same s (State.logAcc s r) := by
  unfold State.logAcc
  dsimp only
  split <;> refine ⟨?_, ?_, ?_⟩ <;> simp

@[simp] theorem State.setScore_same (s : State) (u v : Nat) : State.Same s (State.setScore s u v) := by
  unfold State.setScore
  refine ⟨?_, ?_, ?_⟩ <;> simp

@[simp] theorem State.ndcOrder_same (s : State) (c : Nat) : State.Same s (State.ndcOrder s c) := by
  unfold State.ndcOrder
  refine ⟨?_, ?_, ?_⟩ <;> simp

@[simp] theorem State.ndcTiming_same (s : State) (c : Nat) : State.Same s (State.ndcTiming s c) := by
  unfold State.ndcTiming
  refine ⟨?_, ?_, ?_⟩ <;> simp

@[simp] theorem State.ndcModule_same (s : State) : State.Same s (State.ndcModule s) := by
  unfold State.ndcModule
  refine ⟨?_, ?_, ?_⟩ <;> simp

@[simp] theorem State.markRehearsal_same (s : State) (cs : List Nat) : State.Same s (State.markRehearsal s cs) := by
  unfold State.markRehearsal
  refine foldl_same (fun s x => ?_) _ _
  refine ⟨?_, ?_, ?_⟩ <;> simp

@[simp] theorem State.raiseOpen_same (s : State) (d key : Nat) (on : Bool) : State.Same s (State.raiseOpen s d key on) := by
  unfold State.raiseOpen
  refine ⟨?_, ?_, ?_⟩ <;> simp

@[simp] theorem State.stepVoltage_same (s : State) (d site : Nat) : State.Same s (State.stepVoltage s d site) := by
  unfold State.stepVoltage
  refine ⟨?_, ?_, ?_⟩ <;> simp

@[simp] theorem State.tallyMargin_same (s : State) (d site : Nat) (rehearsal : Bool) : State.Same s (State.tallyMargin s d site rehearsal) := by
  unfold State.tallyMargin
  dsimp only
  split <;> refine ⟨?_, ?_, ?_⟩ <;> simp

@[simp] theorem State.stepDie_same (s : State) (d : Nat) (rehearsal : Bool) : State.Same s (State.stepDie s d rehearsal) := by
  unfold State.stepDie; exact same_trans (by exact ⟨by simp, by simp, by simp⟩) (foldl_same (fun s x => by split <;> exact ⟨by simp, by simp, by simp⟩) _ _)

@[simp] theorem State.marginAction_same (s : State) (u cause : Nat) (rehearsal : Bool) : State.Same s (State.marginAction s u cause rehearsal) := by
  unfold State.marginAction
  dsimp only
  repeat' split
  all_goals refine ⟨?_, ?_, ?_⟩ <;> simp

@[simp] theorem State.commonCause_same (s : State) (dom : Nat) : State.Same s (State.commonCause s dom) := by
  suffices h : State.SameD s (s.commonCause dom) from h.out
  unfold State.commonCause; dsimp only
  have h1 : ∀ a : AccRec, State.SameD s ((s.logAcc a).count 0x80C0 0x09 0 1) := fun a => ⟨same_trans (State.logAcc_same _ _) (State.count_same _ _ _ _ _)⟩
  have h2 : ∀ (s : State) (l : List Nat) (r : Bool), State.SameD s (l.foldl (fun s d => (s.stepDie d r).raiseOpen d (2 + dom) true) s) := fun s l r =>
    foldl_sameD (fun s d => ⟨same_trans (State.stepDie_same _ _ _) (State.raiseOpen_same _ _ _ _)⟩) l s
  have hc : ∀ (s : State) (k : Curator), State.SameD s ({ s with cur := k } : State) := fun s k => ⟨rfl, rfl, rfl⟩
  exact sameD_trans (sameD_trans (h1 _) (h2 _ _ _)) (hc _ _)

@[simp] theorem State.flag_same (s : State) (u cause : Nat) (before after : Nat) (single rehearsal : Bool) : State.Same s (State.flag s u cause before after single rehearsal) := by
  unfold State.flag
  dsimp only
  repeat' split
  all_goals refine ⟨?_, ?_, ?_⟩ <;> simp

@[simp] theorem State.scoreHit_same (s : State) (u cause points : Nat) (toZero rehearsal : Bool) : State.Same s (State.scoreHit s u cause points toZero rehearsal) := by
  unfold State.scoreHit
  dsimp only
  repeat' split
  all_goals refine ⟨?_, ?_, ?_⟩ <;> simp

@[simp] theorem State.scorePart_same (s : State) (u cause per n : Nat) (rehearsal : Bool) : State.Same s (State.scorePart s u cause per n rehearsal) := by
  unfold State.scorePart
  dsimp only
  split <;> refine ⟨?_, ?_, ?_⟩ <;> simp


-- ---------------------------------------------------------------- Machine/Warp.lean

@[simp] theorem State.returnCreditAs_same (s0 : State) (die tile q notice n epoch : Nat) : State.Same s0 (State.returnCreditAs s0 die tile q notice n epoch) := by
  unfold State.returnCreditAs
  dsimp only
  repeat' split
  all_goals refine ⟨?_, ?_, ?_⟩ <;> simp

@[simp] theorem State.returnCredit_same (s : State) (die tile q notice n : Nat) : State.Same s (State.returnCredit s die tile q notice n) := by
  unfold State.returnCredit
  refine ⟨?_, ?_, ?_⟩ <;> simp

@[simp] theorem State.returnStreamCreditAs_same (s : State) (die tile p count epoch : Nat) : State.Same s (State.returnStreamCreditAs s die tile p count epoch) := by
  unfold State.returnStreamCreditAs
  split <;> refine ⟨?_, ?_, ?_⟩ <;> simp

@[simp] theorem State.returnStreamCredit_same (s : State) (die tile p count : Nat) : State.Same s (State.returnStreamCredit s die tile p count) := by
  unfold State.returnStreamCredit
  refine ⟨?_, ?_, ?_⟩ <;> simp

@[simp] theorem State.purgeAux_same (s : State) (die tile q c epoch : Nat) (x0 : List QDesc) : State.Same s (State.purgeAux s die tile q c epoch x0) := by
  induction x0 generalizing s with
  | nil => unfold State.purgeAux; exact ⟨by simp, by simp, by simp⟩
  | cons l ls ih => unfold State.purgeAux; split
                    · exact same_trans (by exact ⟨by simp, by simp, by simp⟩) (ih _)
                    · exact ⟨by simp, by simp, by simp⟩

@[simp] theorem State.purgeQueue_same (s : State) (die tile q : Nat) : State.Same s (State.purgeQueue s die tile q) := by
  unfold State.purgeQueue
  dsimp only
  split
  · refine ⟨?_, ?_, ?_⟩ <;> simp
  · split <;> refine ⟨?_, ?_, ?_⟩ <;> simp

@[simp] theorem State.takeToken_same (s : State) (die tile q k : Nat) : State.Same s (State.takeToken s die tile q k) := by
  unfold State.takeToken
  refine ⟨?_, ?_, ?_⟩ <;> simp

@[simp] theorem State.sendOn_same (s : State) (die tile k chan : Nat) (p : Payload) : State.Same s (State.sendOn s die tile k chan p).1 := by
  unfold State.sendOn
  dsimp only
  split <;> refine ⟨?_, ?_, ?_⟩ <;> simp



-- ---------------------------------------------------------------- Machine/TileExec.lean

@[simp] theorem State.writeOut_keeps (s : State) (out : List OutByte) : State.Keeps s (State.writeOut s out) := by
  unfold State.writeOut; exact ⟨rfl, rfl, fun hw => Memory.wf_foldl _ (fun m x h => Memory.wf_memSet _ _ h) _ hw⟩

@[simp] theorem State.addAcc_same (s : State) (a : Access) : State.Same s (State.addAcc s a) := by
  unfold State.addAcc
  refine ⟨?_, ?_, ?_⟩ <;> simp

@[simp] theorem State.addAccs_same (s : State) (as : List Access) : State.Same s (State.addAccs s as) := by
  unfold State.addAccs
  refine foldl_same (fun s x => ?_) _ _
  refine ⟨?_, ?_, ?_⟩ <;> simp

@[simp] theorem State.effMma_same (s : State) (die tile : Nat) (o : InFlight) (lt : Latched) : State.Same s (State.effMma s die tile o lt).1 := by
  unfold State.effMma
  refine ⟨?_, ?_, ?_⟩ <;> simp

@[simp] theorem State.effAccLoad_same (s : State) (die tile : Nat) (o : InFlight) (lt : Latched) : State.Same s (State.effAccLoad s die tile o lt).1 := by
  unfold State.effAccLoad
  dsimp only
  repeat' split
  all_goals refine ⟨?_, ?_, ?_⟩ <;> simp

@[simp] theorem State.effAncInit_same (s : State) (die tile : Nat) (o : InFlight) : State.Same s (State.effAncInit s die tile o) := by
  unfold State.effAncInit
  refine ⟨?_, ?_, ?_⟩ <;> simp

@[simp] theorem State.vecOut_keeps (s : State) (die tile : Nat) (o : InFlight) (g : Regime) (rows : List (List Nat)) (poison : Bool) : State.Keeps s (State.vecOut s die tile o g rows poison).1 := by
  unfold State.vecOut
  dsimp only
  split <;> refine ⟨?_, ?_, fun hw => ?_⟩ <;> simp [*]

@[simp] theorem State.effVecEw_keeps (s : State) (die tile : Nat) (o : InFlight) (lt : Latched) : State.Keeps s (State.effVecEw s die tile o lt).1 := by
  unfold State.effVecEw
  refine ⟨?_, ?_, fun hw => ?_⟩ <;> simp [*]

@[simp] theorem State.effVecAct_keeps (s : State) (die tile : Nat) (o : InFlight) (lt : Latched) : State.Keeps s (State.effVecAct s die tile o lt).1 := by
  unfold State.effVecAct
  refine ⟨?_, ?_, fun hw => ?_⟩ <;> simp [*]

@[simp] theorem State.effVecRed_keeps (s : State) (die tile : Nat) (o : InFlight) (lt : Latched) : State.Keeps s (State.effVecRed s die tile o lt).1 := by
  unfold State.effVecRed
  refine ⟨?_, ?_, fun hw => ?_⟩ <;> simp [*]

@[simp] theorem State.effect_keeps (s : State) (die tile : Nat) (o : InFlight) (lt : Latched) : State.Keeps s (State.effect s die tile o lt).1 := by
  unfold State.effect
  split <;> refine ⟨?_, ?_, fun hw => ?_⟩ <;> simp [*]



-- ---------------------------------------------------------------- Machine/TileIssue.lean

@[simp] theorem State.updOp_same (s : State) (die tile id : Nat) (f : InFlight → InFlight) : State.Same s (State.updOp s die tile id f) := by
  unfold State.updOp
  refine ⟨?_, ?_, ?_⟩ <;> simp

@[simp] theorem State.finishOp_keeps (s : State) (die tile : Nat) (o : InFlight) (uses : List LineUse) (r : OpOut) : State.Keeps s (State.finishOp s die tile o uses r) := by
  suffices h : State.KeepsD s (s.finishOp die tile o uses r) from h.out
  unfold State.finishOp; dsimp only
  have hm : ∀ s : State, State.KeepsD s (r.mark.foldl (fun s m => s.memPoison m.1 m.2) s) := fun s =>
    foldl_keepsD (fun s m => ⟨keeps_of_same (State.memPoison_same _ _ _)⟩) _ s
  refine keepsD_trans ?_ ⟨keeps_of_same (State.updTile_same _ _ _ _)⟩
  refine keepsD_trans ?_ (hm _)
  split
  · exact ⟨keeps_of_same (State.addAccs_same _ _)⟩
  · exact foldl_keepsD (fun s o => ⟨State.writeOut_keeps _ _⟩) _ _

@[simp] theorem State.applyOp_keeps (s : State) (die tile id : Nat) : State.Keeps s (State.applyOp s die tile id) := by
  unfold State.applyOp
  split
  · refine ⟨?_, ?_, fun hw => ?_⟩ <;> simp [*]
  · split <;> refine ⟨?_, ?_, fun hw => ?_⟩ <;> simp [*]

@[simp] theorem State.feedPort_same (s : State) (die tile id : Nat) (isA : Bool) : State.Same s (State.feedPort s die tile id isA) := by
  unfold State.feedPort
  dsimp only
  repeat' split
  all_goals refine ⟨?_, ?_, ?_⟩ <;> simp

@[simp] theorem State.feedOp_keeps (s : State) (die tile id : Nat) : State.Keeps s (State.feedOp s die tile id) := by
  unfold State.feedOp
  dsimp only
  repeat' split
  all_goals refine ⟨?_, ?_, fun hw => ?_⟩ <;> simp [*]

@[simp] theorem State.putOp_same (s : State) (die tile : Nat) (o : InFlight) : State.Same s (State.putOp s die tile o) := by
  unfold State.putOp
  dsimp only
  split
  · refine ⟨?_, ?_, ?_⟩ <;> simp [*]
  · split <;> refine ⟨?_, ?_, ?_⟩ <;> simp [*]

@[simp] theorem State.startData_keeps (s : State) (die tile : Nat) (o0 : InFlight) : State.Keeps s (State.startData s die tile o0) := by
  unfold State.startData
  refine ⟨?_, ?_, fun hw => ?_⟩ <;> simp [*]

@[simp] theorem State.countClosed_same (s : State) (c : Nat) (fenced : Bool) : State.Same s (State.countClosed s c fenced) := by
  unfold State.countClosed
  refine ⟨?_, ?_, ?_⟩ <;> simp

@[simp] theorem State.acted_same (s : State) (die tile id : Nat) (out : List Nat) (f : InFlight → InFlight) : State.Same s (State.acted s die tile id out f) := by
  unfold State.acted
  refine ⟨?_, ?_, ?_⟩ <;> simp

@[simp] theorem State.actSend_same (s : State) (die tile : Nat) (o : InFlight) (chan : Nat) (p : Payload) : State.Same s (State.actSend s die tile o chan p) := by
  unfold State.actSend
  dsimp only
  repeat' split
  all_goals refine ⟨?_, ?_, ?_⟩ <;> simp

@[simp] theorem State.actSendOp_same (s : State) (die tile : Nat) (o : InFlight) : State.Same s (State.actSendOp s die tile o) := by
  unfold State.actSendOp
  split <;> refine ⟨?_, ?_, ?_⟩ <;> simp

@[simp] theorem State.actRecv_keeps (s : State) (die tile : Nat) (o : InFlight) : State.Keeps s (State.actRecv s die tile o) := by
  unfold State.actRecv
  dsimp only
  split <;> refine ⟨?_, ?_, fun hw => ?_⟩ <;> simp [*]

@[simp] theorem State.setPred_same (s : State) (die tile k r : Nat) (p : Pred) : State.Same s (State.setPred s die tile k r p) := by
  unfold State.setPred
  refine ⟨?_, ?_, ?_⟩ <;> simp

@[simp] theorem State.actSetpQ_same (s : State) (die tile : Nat) (o : InFlight) : State.Same s (State.actSetpQ s die tile o) := by
  unfold State.actSetpQ
  dsimp only
  repeat' split
  all_goals refine ⟨?_, ?_, ?_⟩ <;> simp

@[simp] theorem State.actSetpM_same (s : State) (die tile : Nat) (o : InFlight) : State.Same s (State.actSetpM s die tile o) := by
  unfold State.actSetpM
  dsimp only
  repeat' split
  all_goals refine ⟨?_, ?_, ?_⟩ <;> simp

@[simp] theorem State.actChooseQ_same (s : State) (die tile : Nat) (o : InFlight) : State.Same s (State.actChooseQ s die tile o) := by
  unfold State.actChooseQ
  dsimp only
  repeat' split
  all_goals refine ⟨?_, ?_, ?_⟩ <;> simp

@[simp] theorem State.actOp_keeps (s : State) (die tile id : Nat) : State.Keeps s (State.actOp s die tile id) := by
  unfold State.actOp; (try dsimp only)
  repeat' split
  all_goals first | exact ⟨by simp, by simp, fun hw => by simp (maxDischargeDepth := 30) [hw]⟩ | exact ⟨by simp [*], by simp [*], fun hw => by simp (maxDischargeDepth := 30) [hw, *]⟩ | (refine foldl_keeps (fun s x => ?_) _ _; (repeat' split) <;> exact ⟨by simp, by simp, fun hw => by simp (maxDischargeDepth := 30) [hw]⟩)

@[simp] theorem State.startCard_same (s : State) (die tile : Nat) (o : InFlight) : State.Same s (State.startCard s die tile o) := by
  unfold State.startCard
  dsimp only
  repeat' split
  all_goals refine ⟨?_, ?_, ?_⟩ <;> simp

@[simp] theorem State.beginAct_keeps (s : State) (die tile : Nat) (o : InFlight) : State.Keeps s (State.beginAct s die tile o) := by
  unfold State.beginAct
  split <;> refine ⟨?_, ?_, fun hw => ?_⟩ <;> simp [*]

@[simp] theorem State.beginOp_keeps (s : State) (die tile id : Nat) : State.Keeps s (State.beginOp s die tile id) := by
  unfold State.beginOp
  split <;> refine ⟨?_, ?_, fun hw => ?_⟩ <;> simp [*]

@[simp] theorem State.startOp_keeps (s : State) (die tile : Nat) (o : InFlight) : State.Keeps s (State.startOp s die tile o) := by
  unfold State.startOp
  dsimp only
  repeat' split
  all_goals refine ⟨?_, ?_, fun hw => ?_⟩ <;> simp [*]

@[simp] theorem State.tileOp_keeps (s : State) (die tile opcode form : Nat) : State.Keeps s (State.tileOp s die tile opcode form) := by
  unfold State.tileOp
  dsimp only
  repeat' split
  all_goals refine ⟨?_, ?_, fun hw => ?_⟩ <;> simp [*]



-- ---------------------------------------------------------------- Machine/TileEvents.lean

@[simp] theorem State.notice_same (s : State) (die tile q code : Nat) : State.Same s (State.notice s die tile q code) := by
  unfold State.notice
  refine ⟨?_, ?_, ?_⟩ <;> simp

@[simp] theorem State.closeQueues_same (s : State) (die tile k : Nat) : State.Same s (State.closeQueues s die tile k) := by
  unfold State.closeQueues
  dsimp only
  refine foldl_same (fun s x => ?_) _ _
  repeat' split
  all_goals refine ⟨?_, ?_, ?_⟩ <;> simp

@[simp] theorem State.moveActive_same (s : State) (die tile : Nat) : State.Same s (State.moveActive s die tile) := by
  unfold State.moveActive
  dsimp only
  repeat' split
  all_goals refine ⟨?_, ?_, ?_⟩ <;> simp

@[simp] theorem State.updNode_same (s : State) (c node : Nat) (f : Node → Node) : State.Same s (State.updNode s c node f) := by
  unfold State.updNode
  refine ⟨?_, ?_, ?_⟩ <;> simp

@[simp] theorem State.haltCard_keeps (s : State) (die tile k : Nat) (st : Status) (detail seq opcode tag : Nat) (desc : W512) : State.Keeps s (State.haltCard s die tile k st detail seq opcode tag desc) := by
  unfold State.haltCard
  dsimp only
  split <;> refine ⟨?_, ?_, fun hw => ?_⟩ <;> simp [*]

@[simp] theorem State.beginWaiting_keeps (s : State) (die tile : Nat) (e : Engine) : State.Keeps s (State.beginWaiting s die tile e) := by
  unfold State.beginWaiting
  split <;> refine ⟨?_, ?_, fun hw => ?_⟩ <;> simp [*]

@[simp] theorem State.scoreTile_same (s : State) (die tile cause points : Nat) (dip reh : Bool) : State.Same s (State.scoreTile s die tile cause points dip reh) := by
  unfold State.scoreTile
  split
  · refine ⟨?_, ?_, ?_⟩ <;> simp
  · split <;> refine ⟨?_, ?_, ?_⟩ <;> simp

@[simp] theorem State.releaseOp_same (s : State) (die tile id : Nat) : State.Same s (State.releaseOp s die tile id) := by
  unfold State.releaseOp
  repeat' split
  all_goals refine ⟨?_, ?_, ?_⟩ <;> simp

@[simp] theorem State.poisonGlobal_same (s : State) (die tile : Nat) (o : InFlight) (m : MemOpd) : State.Same s (State.poisonGlobal s die tile o m) := by
  unfold State.poisonGlobal; (try dsimp only)
  repeat' split
  all_goals first | (refine ⟨?_, ?_, ?_⟩ <;> simp; done) | (refine ⟨?_, ?_, ?_⟩ <;> simp [*]; done) | (refine foldl_same (fun s x => ?_) _ _; (repeat' split) <;> refine ⟨?_, ?_, ?_⟩ <;> simp)

@[simp] theorem State.poisonDest_same (s : State) (die tile : Nat) (o : InFlight) : State.Same s (State.poisonDest s die tile o) := by
  unfold State.poisonDest; (try dsimp only)
  repeat' split
  all_goals first | (refine ⟨?_, ?_, ?_⟩ <;> simp; done) | (refine ⟨?_, ?_, ?_⟩ <;> simp [*]; done) | (refine foldl_same (fun s x => ?_) _ _; (repeat' split) <;> refine ⟨?_, ?_, ?_⟩ <;> simp)

@[simp] theorem State.unsend_same (s : State) (die tile : Nat) (o : InFlight) : State.Same s (State.unsend s die tile o) := by
  unfold State.unsend
  split <;> refine ⟨?_, ?_, ?_⟩ <;> simp

@[simp] theorem State.failFinally_same (s : State) (die tile : Nat) (o : InFlight) (n : Nat) : State.Same s (State.failFinally s die tile o n) := by
  unfold State.failFinally
  refine ⟨?_, ?_, ?_⟩ <;> simp

@[simp] theorem State.putRecord_keeps (s : State) (die tile : Nat) (o : InFlight) (seq cycle epoch : Nat) (stalls : List (Nat × Nat)) : State.Keeps s (State.putRecord s die tile o seq cycle epoch stalls) := by
  unfold State.putRecord
  refine ⟨?_, ?_, fun hw => ?_⟩ <;> simp [*]

@[simp] theorem State.retireReports_keeps (s : State) (die tile c seq : Nat) (o : InFlight) : State.Keeps s (State.retireReports s die tile c seq o) := by
  unfold State.retireReports
  repeat' split
  all_goals refine ⟨?_, ?_, fun hw => ?_⟩ <;> simp [*]

@[simp] theorem State.haltAt_keeps (s : State) (die tile : Nat) (o : InFlight) (seq : Nat) (stalls : List (Nat × Nat)) : State.Keeps s (State.haltAt s die tile o seq stalls) := by
  unfold State.haltAt
  refine ⟨?_, ?_, fun hw => ?_⟩ <;> simp [*]

@[simp] theorem State.finishCard_same (s : State) (die tile k : Nat) : State.Same s (State.finishCard s die tile k) := by
  unfold State.finishCard
  dsimp only
  split <;> refine ⟨?_, ?_, ?_⟩ <;> simp

@[simp] theorem State.poisonReader_same (s : State) (die tile : Nat) (failed : Check) (o : InFlight) : State.Same s (State.poisonReader s die tile failed o) := by
  unfold State.poisonReader
  refine ⟨?_, ?_, ?_⟩ <;> simp

@[simp] theorem State.completeRecord_keeps (s : State) (die tile : Nat) (c : Check) (o : InFlight) : State.Keeps s (State.completeRecord s die tile c o) := by
  unfold State.completeRecord
  dsimp only
  split <;> refine ⟨?_, ?_, fun hw => ?_⟩ <;> simp [*]

@[simp] theorem State.compareRetired_keeps (s : State) (die tile : Nat) (c : Check) (faults : List Nat) : State.Keeps s (State.compareRetired s die tile c faults) := by
  suffices h : State.KeepsD s (s.compareRetired die tile c faults) from h.out
  unfold State.compareRetired; dsimp only
  split
  · exact ⟨by simp, by simp, fun hw => by simp (maxDischargeDepth := 30) [hw]⟩
  · have hp : ∀ (s : State) (l : List InFlight), State.KeepsD s (l.foldl (fun s x => s.poisonReader die tile c x) s) := fun s l =>
      foldl_keepsD (fun s x => ⟨by first | exact State.poisonReader_keeps _ _ _ _ _ | exact keeps_of_same (State.poisonReader_same _ _ _ _ _)⟩) l s
    refine keepsD_trans ?_ ⟨keeps_of_same (State.moveActive_same _ _ _)⟩
    refine keepsD_trans ?_ ⟨State.haltAt_keeps _ _ _ _ _ _⟩
    refine keepsD_trans ?_ ⟨State.retireReports_keeps _ _ _ _ _ _⟩
    refine keepsD_trans ?_ ⟨keeps_of_same (State.updNode_same _ _ _ _)⟩
    refine keepsD_trans ?_ ⟨State.completeRecord_keeps _ _ _ _ _⟩
    refine keepsD_trans ?_ (hp _ _)
    exact ⟨by simp, by simp, fun hw => by simp (maxDischargeDepth := 30) [hw]⟩

@[simp] theorem State.writeIsland_same (s : State) (die tile value : Nat) : State.Same s (State.writeIsland s die tile value) := by
  unfold State.writeIsland
  split <;> refine ⟨?_, ?_, ?_⟩ <;> simp



-- ---------------------------------------------------------------- Machine/Channels.lean

@[simp] theorem State.reachFrame_same (s : State) (die f : Nat) : State.Same s (State.reachFrame s die f) := by
  unfold State.reachFrame
  refine ⟨?_, ?_, ?_⟩ <;> simp

@[simp] theorem State.writePickOwner_same (s : State) (die value : Nat) : State.Same s (State.writePickOwner s die value).1 := by
  unfold State.writePickOwner; exact foldl_sameP (fun p x => by dsimp only; (repeat' split) <;> exact ⟨by simp, by simp, by simp⟩) _ _

@[simp] theorem State.discardAt_same (s : State) (die tile q sub c : Nat) : State.Same s (State.discardAt s die tile q sub c) := by
  unfold State.discardAt
  refine ⟨?_, ?_, ?_⟩ <;> simp

@[simp] theorem State.ringPut_keeps (s : State) (die tile q : Nat) (d : QDesc) : State.Keeps s (State.ringPut s die tile q d) := by
  unfold State.ringPut
  dsimp only
  repeat' split
  all_goals refine ⟨?_, ?_, fun hw => ?_⟩ <;> simp [*]

@[simp] theorem State.arrive_keeps (s : State) (die tile q : Nat) (d : QDesc) : State.Keeps s (State.arrive s die tile q d) := by
  unfold State.arrive
  dsimp only
  repeat' split
  all_goals refine ⟨?_, ?_, fun hw => ?_⟩ <;> simp [*]

@[simp] theorem State.flitError_same (s : State) (die bad : Nat) : State.Same s (State.flitError s die bad) := by
  unfold State.flitError
  split <;> refine ⟨?_, ?_, ?_⟩ <;> simp

@[simp] theorem State.refillOne_keeps (s : State) (die tile q : Nat) : State.Keeps s (State.refillOne s die tile q) := by
  unfold State.refillOne
  dsimp only
  repeat' split
  all_goals refine ⟨?_, ?_, fun hw => ?_⟩ <;> simp [*]

@[simp] theorem State.refill_keeps (s : State) (die tile q : Nat) (x0 : Nat) : State.Keeps s (State.refill s die tile q x0) := by
  induction x0 generalizing s with
  | zero => exact ⟨rfl, rfl, id⟩
  | succ n ih => unfold State.refill; dsimp only; split
                 · exact keeps_trans (State.refillOne_keeps s die tile q) (ih _)
                 · exact ⟨rfl, rfl, id⟩

@[simp] theorem State.feedWaiting_keeps (s : State) (die tile port : Nat) : State.Keeps s (State.feedWaiting s die tile port) := by
  unfold State.feedWaiting
  split <;> refine ⟨?_, ?_, fun hw => ?_⟩ <;> simp [*]

@[simp] theorem State.stallEvent_keeps (s : State) (die tile k code : Nat) (st : Status) (arg0 arg1 kind endp : Nat) : State.Keeps s (State.stallEvent s die tile k code st arg0 arg1 kind endp) := by
  unfold State.stallEvent
  refine ⟨?_, ?_, fun hw => ?_⟩ <;> simp [*]

@[simp] theorem State.markStall_same (s : State) (die tile id : Nat) : State.Same s (State.markStall s die tile id) := by
  unfold State.markStall
  refine ⟨?_, ?_, ?_⟩ <;> simp

@[simp] theorem State.markSender_same (s : State) (die : Nat) (x : Queue) : State.Same s (State.markSender s die x) := by
  unfold State.markSender
  dsimp only
  repeat' split
  all_goals refine ⟨?_, ?_, ?_⟩ <;> simp

@[simp] theorem State.eachChanOf_same (s : State) (die tile : Nat) (f : SendChan → SendChan) : State.Same s (State.eachChanOf s die tile f) := by
  unfold State.eachChanOf
  refine foldl_same (fun s x => ?_) _ _
  refine ⟨?_, ?_, ?_⟩ <;> simp

@[simp] theorem State.pauseTile_same (s : State) (die tile : Nat) : State.Same s (State.pauseTile s die tile) := by
  unfold State.pauseTile
  refine ⟨?_, ?_, ?_⟩ <;> simp

@[simp] theorem State.groupWait_same (s : State) (die : Nat) (g : SwGroup) (wait : Nat) : State.Same s (State.groupWait s die g wait) := by
  unfold State.groupWait; (try dsimp only)
  repeat' split
  all_goals first | (refine ⟨?_, ?_, ?_⟩ <;> simp; done) | (refine ⟨?_, ?_, ?_⟩ <;> simp [*]; done) | (refine foldl_same (fun s x => ?_) _ _; (repeat' split) <;> refine ⟨?_, ?_, ?_⟩ <;> simp)

@[simp] theorem State.commitReady_same (s : State) (die : Nat) : State.Same s (State.commitReady s die) := by
  unfold State.commitReady; (try dsimp only)
  repeat' split
  all_goals first | (refine ⟨?_, ?_, ?_⟩ <;> simp; done) | (refine ⟨?_, ?_, ?_⟩ <;> simp [*]; done) | (refine foldl_same (fun s x => ?_) _ _; (repeat' split) <;> refine ⟨?_, ?_, ?_⟩ <;> simp)

@[simp] theorem State.resumeTile_same (s : State) (die tile : Nat) : State.Same s (State.resumeTile s die tile) := by
  unfold State.resumeTile
  refine ⟨?_, ?_, ?_⟩ <;> simp



-- ---------------------------------------------------------------- Machine/Cards.lean

@[simp] theorem State.startStreams_same (s : State) (die tile k : Nat) : State.Same s (State.startStreams s die tile k) := by
  unfold State.startStreams
  refine foldl_same (fun s x => ?_) _ _
  refine ⟨?_, ?_, ?_⟩ <;> simp

@[simp] theorem State.putCard_same (s : State) (die tile k c : Nat) (im : Image) : State.Same s (State.putCard s die tile k c im) := by
  unfold State.putCard
  refine ⟨?_, ?_, ?_⟩ <;> simp

@[simp] theorem State.stopStreams_same (s : State) (die tile k : Nat) : State.Same s (State.stopStreams s die tile k) := by
  unfold State.stopStreams
  refine ⟨?_, ?_, ?_⟩ <;> simp

@[simp] theorem State.releaseSlot_same (s : State) (die tile k : Nat) : State.Same s (State.releaseSlot s die tile k) := by
  unfold State.releaseSlot
  refine ⟨?_, ?_, ?_⟩ <;> simp

@[simp] theorem State.dropQueue_same (s : State) (die tile q c : Nat) : State.Same s (State.dropQueue s die tile q c) := by
  unfold State.dropQueue
  refine ⟨?_, ?_, ?_⟩ <;> simp

@[simp] theorem State.cutQueue_same (s : State) (die tile q c epoch : Nat) : State.Same s (State.cutQueue s die tile q c epoch) := by
  unfold State.cutQueue
  dsimp only
  split <;> refine ⟨?_, ?_, ?_⟩ <;> simp

@[simp] theorem State.switchQueue_same (s : State) (die tile q c gen epoch : Nat) (cut : Bool) (old oldR new newR : Nat) : State.Same s (State.switchQueue s die tile q c gen epoch cut old oldR new newR) := by
  unfold State.switchQueue
  dsimp only
  repeat' split
  all_goals refine ⟨?_, ?_, ?_⟩ <;> simp

@[simp] theorem State.switchStream_same (s : State) (die tile p c epoch : Nat) (cut : Bool) (old new : Nat) : State.Same s (State.switchStream s die tile p c epoch cut old new) := by
  unfold State.switchStream
  dsimp only
  repeat' split
  all_goals refine ⟨?_, ?_, ?_⟩ <;> simp

@[simp] theorem State.switchTile_same (s : State) (die tile c : Nat) (old? new? : Option Nat) (cut wiring : Bool) : State.Same s (State.switchTile s die tile c old? new? cut wiring) := by
  suffices h : State.SameD s (s.switchTile die tile c old? new? cut wiring) from h.out
  unfold State.switchTile; dsimp only
  refine sameD_trans ?_ (foldl_sameD (fun s q => ⟨id (State.purgeQueue_same _ _ _ _)⟩) (List.range 8) _)
  refine sameD_trans ?_ ⟨id (State.moveActive_same _ _ _)⟩
  refine sameD_trans ?_ ⟨id (State.updTile_same _ _ _ _)⟩
  have h4 : ∀ s : State, State.SameD s (match old? with
      | some k => if cut then (s.count 0x8070 1 c (s.streamHeld die tile k)).stopStreams die tile k else s
      | none => s) := fun s => by
    split
    · split
      · exact ⟨id (same_trans (State.count_same _ _ _ _ _) (State.stopStreams_same _ _ _ _))⟩
      · exact ⟨rfl, rfl, rfl⟩
    · exact ⟨rfl, rfl, rfl⟩
  refine sameD_trans ?_ (h4 _)
  have h3 : ∀ (f : State) (ep : Nat) (g : Nat → Nat) (h : Nat → Nat), State.SameD f ((List.range 4).foldl (fun s p => s.switchStream die tile p c ep cut (g p) (h p)) f) :=
    fun f ep g h => foldl_sameD (fun s q => ⟨State.switchStream_same _ _ _ _ _ _ _ _ _⟩) (List.range 4) f
  have h1 : ∀ (f : State) (e gen : Nat) (g1 g2 g3 g4 : Nat → Nat), State.SameD f ((List.range 8).foldl (fun s q => s.switchQueue die tile q c gen e cut (g1 q) (g2 q) (g3 q) (g4 q)) f) :=
    fun f e gen g1 g2 g3 g4 => foldl_sameD (fun s q => ⟨id (State.switchQueue_same _ _ _ _ _ _ _ _ _ _ _ _)⟩) (List.range 8) f
  have h2 : ∀ (f : State) (b : Bool) (n : Nat), State.SameD f (if b then f.count 0x8070 1 c n else f) := fun f b n => by
    split
    · exact ⟨id (State.count_same _ _ _ _ _)⟩
    · exact ⟨rfl, rfl, rfl⟩
  cases wiring
  · exact ⟨rfl, rfl, rfl⟩
  · simp only [Bool.not_true, Bool.true_and, Bool.false_eq_true, if_false]
    exact sameD_trans (sameD_trans (h1 _ _ _ _ _ _ _) (h2 _ _ _)) (h3 _ _ _ _)


-- ---------------------------------------------------------------- Machine/Sequencer.lean

@[simp] theorem State.updGraph_same (s : State) (c : Nat) (f : Graph → Graph) : State.Same s (State.updGraph s c f) := by
  unfold State.updGraph
  refine ⟨?_, ?_, ?_⟩ <;> simp

@[simp] theorem State.reachGate_same (s : State) (c die : Nat) : State.Same s (State.reachGate s c die) := by
  unfold State.reachGate
  refine ⟨?_, ?_, ?_⟩ <;> simp

@[simp] theorem State.ledgerWrite_keeps (s : State) (c rec_ : Nat) : State.Keeps s (State.ledgerWrite s c rec_) := by
  unfold State.ledgerWrite
  split
  · refine ⟨?_, ?_, fun hw => ?_⟩ <;> simp [*]
  · split <;> refine ⟨?_, ?_, fun hw => ?_⟩ <;> simp [*]

@[simp] theorem State.startGraph_same (s : State) (c : Nat) : State.Same s (State.startGraph s c) := by
  unfold State.startGraph
  dsimp only
  repeat' split
  all_goals refine ⟨?_, ?_, ?_⟩ <;> simp

@[simp] theorem State.assignReplay_same (s : State) (c : Nat) : State.Same s (State.assignReplay s c) := by
  suffices h : State.SameD s (s.assignReplay c) from h.out
  unfold State.assignReplay; dsimp only
  have hc : ∀ (s : State) (k : Curator), State.SameD s ({ s with cur := k } : State) := fun s k => ⟨rfl, rfl, rfl⟩
  exact foldl_sameD (fun s d => foldl_sameD (fun s t => hc _ _) _ s) _ s

@[simp] theorem State.graphDone_keeps (s : State) (c : Nat) (st : Status) : State.Keeps s (State.graphDone s c st) := by
  unfold State.graphDone
  dsimp only
  split
  · refine ⟨?_, ?_, fun hw => ?_⟩ <;> simp [*]
  · split <;> refine ⟨?_, ?_, fun hw => ?_⟩ <;> simp [*]

@[simp] theorem State.noteFail_same (s : State) (c : Nat) (st : Status) (detail die tile : Nat) : State.Same s (State.noteFail s c st detail die tile) := by
  unfold State.noteFail
  refine ⟨?_, ?_, ?_⟩ <;> simp

@[simp] theorem State.failEvent_keeps (s : State) (c code : Nat) (st : Status) (addr node nodeTag die tile slot : Nat) : State.Keeps s (State.failEvent s c code st addr node nodeTag die tile slot) := by
  unfold State.failEvent
  refine ⟨?_, ?_, fun hw => ?_⟩ <;> simp [*]

@[simp] theorem State.setStateBit_keeps (s : State) (c i : Nat) (released : Bool) : State.Keeps s (State.setStateBit s c i released) := by
  unfold State.setStateBit
  dsimp only
  repeat' split
  all_goals refine ⟨?_, ?_, fun hw => ?_⟩ <;> simp [*]

@[simp] theorem State.cardsClock_same (s : State) (c : Nat) : State.Same s (State.cardsClock s c) := by
  unfold State.cardsClock
  refine ⟨?_, ?_, ?_⟩ <;> simp

@[simp] theorem State.dropNode_same (s : State) (c i : Nat) : State.Same s (State.dropNode s c i) := by
  unfold State.dropNode
  refine ⟨?_, ?_, ?_⟩ <;> simp

@[simp] theorem State.postNode_same (s : State) (c die i entry : Nat) : State.Same s (State.postNode s c die i entry) := by
  unfold State.postNode
  dsimp only
  split <;> refine ⟨?_, ?_, ?_⟩ <;> simp

@[simp] theorem State.completeNode_keeps (s : State) (c i : Nat) (st : Status) (detail tile : Nat) : State.Keeps s (State.completeNode s c i st detail tile) := by
  unfold State.completeNode
  dsimp only
  repeat' split
  all_goals refine ⟨?_, ?_, fun hw => ?_⟩ <;> simp [*]

@[simp] theorem State.releaseCards_same (s : State) (c : Nat) (n : Node) : State.Same s (State.releaseCards s c n) := by
  unfold State.releaseCards
  dsimp only
  refine foldl_same (fun s x => ?_) _ _
  split <;> refine ⟨?_, ?_, ?_⟩ <;> simp

@[simp] theorem State.loadFailed_keeps (s : State) (c node die tile slot image : Nat) (st : Status) : State.Keeps s (State.loadFailed s c node die tile slot image st) := by
  unfold State.loadFailed
  dsimp only
  repeat' split
  all_goals refine ⟨?_, ?_, fun hw => ?_⟩ <;> simp [*]

@[simp] theorem State.tryLoad_keeps (s : State) (c node die tile image : Nat) : State.Keeps s (State.tryLoad s c node die tile image) := by
  unfold State.tryLoad
  dsimp only
  repeat' split
  all_goals refine ⟨?_, ?_, fun hw => ?_⟩ <;> simp [*]

@[simp] theorem State.requestLoads_keeps (s : State) (c die : Nat) : State.Keeps s (State.requestLoads s c die) := by
  suffices h : State.KeepsD s (s.requestLoads c die) from h.out
  unfold State.requestLoads; split
  · exact ⟨rfl, rfl, id⟩
  · split
    · exact ⟨rfl, rfl, id⟩
    · split
      · exact ⟨rfl, rfl, id⟩
      · dsimp only
        refine keepsD_trans ?_ ⟨keeps_of_same (State.cardsClock_same _ c)⟩
        refine foldl_keepsD (fun s n => ?_) _ s
        have h1 : State.KeepsD s (n.cards.foldl (fun s e => s.tryLoad c n.idx die e.1 e.2) s) := foldl_keepsD (fun s e => ⟨State.tryLoad_keeps _ _ _ _ _ _⟩) n.cards s
        split <;> split <;> first | exact h1 | exact ⟨rfl, rfl, id⟩


-- ---------------------------------------------------------------- Machine/SeqEvents.lean

@[simp] theorem State.refuseSubmit_keeps (s : State) (c value : Nat) (st : Status) : State.Keeps s (State.refuseSubmit s c value st) := by
  unfold State.refuseSubmit
  refine ⟨?_, ?_, fun hw => ?_⟩ <;> simp [*]

@[simp] theorem State.doorbell_keeps (s : State) (ctx value : Nat) : State.Keeps s (State.doorbell s ctx value) := by
  unfold State.doorbell
  dsimp only
  repeat' split
  all_goals refine ⟨?_, ?_, fun hw => ?_⟩ <;> simp [*]

@[simp] theorem State.failNode_keeps (s : State) (c i die tag : Nat) (st : Status) (addr : Nat) : State.Keeps s (State.failNode s c i die tag st addr) := by
  unfold State.failNode
  refine ⟨?_, ?_, fun hw => ?_⟩ <;> simp [*]

@[simp] theorem State.seqRelease_keeps (s : State) (ctx value : Nat) : State.Keeps s (State.seqRelease s ctx value) := by
  unfold State.seqRelease
  dsimp only
  repeat' split
  all_goals refine ⟨?_, ?_, fun hw => ?_⟩ <;> simp [*]

@[simp] theorem State.launch_keeps (s : State) (c : Nat) (n : Node) (released : Bool) : State.Keeps s (State.launch s c n released) := by
  unfold State.launch
  split <;> refine ⟨?_, ?_, fun hw => ?_⟩ <;> simp [*]

@[simp] theorem State.failResident_keeps (s : State) (c h : Nat) (n : Node) : State.Keeps s (State.failResident s c h n) := by
  unfold State.failResident
  split
  · refine ⟨?_, ?_, fun hw => ?_⟩ <;> simp [*]
  · split <;> refine ⟨?_, ?_, fun hw => ?_⟩ <;> simp [*]

@[simp] theorem State.markLeaving_same (s : State) (c die : Nat) (cut : Bool) (target : Nat → Option Nat) : State.Same s (State.markLeaving s c die cut target) := by
  unfold State.markLeaving; (try dsimp only)
  repeat' split
  all_goals first | (refine ⟨?_, ?_, ?_⟩ <;> simp; done) | (refine ⟨?_, ?_, ?_⟩ <;> simp [*]; done) | (refine foldl_same (fun s x => ?_) _ _; (repeat' split) <;> refine ⟨?_, ?_, ?_⟩ <;> simp)

@[simp] theorem State.dropLanded_same (s : State) (die tile k c : Nat) : State.Same s (State.dropLanded s die tile k c) := by
  unfold State.dropLanded
  dsimp only
  refine foldl_same (fun s x => ?_) _ _
  split <;> refine ⟨?_, ?_, ?_⟩ <;> simp

@[simp] theorem State.setArrived_same (s : State) (die tile k wait : Nat) (section_ : Option (Bool × Nat)) : State.Same s (State.setArrived s die tile k wait section_) := by
  unfold State.setArrived
  refine ⟨?_, ?_, ?_⟩ <;> simp

@[simp] theorem State.releaseLeft_same (s : State) (die c section_ : Nat) : State.Same s (State.releaseLeft s die c section_) := by
  unfold State.releaseLeft
  exact foldl_same (fun s t => foldl_same (fun s k => by dsimp only; split <;> exact ⟨by simp, by simp, by simp⟩) _ _) _ _

@[simp] theorem State.cancelSwitches_same (s : State) (die c : Nat) : State.Same s (State.cancelSwitches s die c) := by
  unfold State.cancelSwitches
  refine ⟨?_, ?_, ?_⟩ <;> simp

@[simp] theorem State.closeDie_same (s : State) (c die : Nat) : State.Same s (State.closeDie s c die) := by
  unfold State.closeDie
  dsimp only
  split <;> refine ⟨?_, ?_, ?_⟩ <;> simp

@[simp] theorem State.releaseAll_same (s : State) (c : Nat) : State.Same s (State.releaseAll s c) := by
  suffices h : State.SameD s (s.releaseAll c) from h.out
  unfold State.releaseAll
  refine foldl_sameD (fun s d => foldl_sameD (fun s t => foldl_sameD (fun s k => ?_) (List.range 4) s) (List.range 288) s) (List.range 2) s
  dsimp only; split
  · exact ⟨State.releaseSlot_same _ _ _ _⟩
  · exact ⟨rfl, rfl, rfl⟩

@[simp] theorem State.afterEntry_keeps (s : State) (c : Nat) (w : CqWait) : State.Keeps s (State.afterEntry s c w) := by
  unfold State.afterEntry
  repeat' split
  all_goals refine ⟨?_, ?_, fun hw => ?_⟩ <;> simp [*]

@[simp] theorem State.writeRingCfg_keeps (s : State) (c : Nat) (k : RingKind) (v : Nat) : State.Keeps s (State.writeRingCfg s c k v) := by
  unfold State.writeRingCfg; dsimp only; split
  · exact keeps_trans (by exact ⟨by simp, by simp, fun hw => by simp (maxDischargeDepth := 30) [hw]⟩) (foldl_keeps (fun s w => by exact ⟨by simp, by simp, fun hw => by simp (maxDischargeDepth := 30) [hw]⟩) _ _)
  · exact ⟨by simp, by simp, fun hw => by simp (maxDischargeDepth := 30) [hw]⟩

@[simp] theorem State.writeLaunchAt_same (s : State) (ctx value : Nat) : State.Same s (State.writeLaunchAt s ctx value) := by
  unfold State.writeLaunchAt
  refine ⟨?_, ?_, ?_⟩ <;> simp



-- ---------------------------------------------------------------- Machine/Varoa.lean

@[simp] theorem State.updPortF_same (s : State) (p : Nat) (f : Port → Port) : State.Same s (State.updPortF s p f) := by
  unfold State.updPortF
  refine ⟨?_, ?_, ?_⟩ <;> simp

@[simp] theorem State.emitFrame_same (s : State) (port seq : Nat) (nak : Bool) (type : Nat) (flits : List VaroaFlit) (credits : List (Nat × Nat)) : State.Same s (State.emitFrame s port seq nak type flits credits) := by
  unfold State.emitFrame
  refine ⟨?_, ?_, ?_⟩ <;> simp

@[simp] theorem State.emitData_same (s : State) (port : Nat) (f : VaroaFrame) : State.Same s (State.emitData s port f) := by
  unfold State.emitData
  refine ⟨?_, ?_, ?_⟩ <;> simp

@[simp] theorem State.emitIdle_same (s : State) (port : Nat) (nak : Bool) : State.Same s (State.emitIdle s port nak) := by
  unfold State.emitIdle
  refine ⟨?_, ?_, ?_⟩ <;> simp

@[simp] theorem State.emitLink_same (s : State) (port type fields : Nat) : State.Same s (State.emitLink s port type fields) := by
  unfold State.emitLink
  refine ⟨?_, ?_, ?_⟩ <;> simp

@[simp] theorem State.sendFrame_same (s : State) (port : Nat) (fs : List VaroaFlit) (rest : List TxPacket) (keep : List VaroaFlit) (since : Nat) : State.Same s (State.sendFrame s port fs rest keep since) := by
  unfold State.sendFrame
  refine ⟨?_, ?_, ?_⟩ <;> simp

theorem nextFrame_same {s t : State} {port : Nat} (h : s.nextFrame port = some t) : State.Same s t := by
  unfold State.nextFrame at h
  dsimp only at h
  split at h
  · cases h
  · split at h
    · cases h
    · split at h
      · cases h; exact State.sendFrame_same _ _ _ _ _ _
      · obtain ⟨d, -, rfl⟩ := Option.map_eq_some_iff.1 h; exact State.sendFrame_same _ _ _ _ _ _
    · cases h; exact State.sendFrame_same _ _ _ _ _ _

@[simp] theorem State.pump_same (s : State) (port : Nat) (x1 : Nat) : State.Same s (State.pump s port x1) := by
  induction x1 generalizing s with
  | zero => exact ⟨rfl, rfl, rfl⟩
  | succ n ih =>
    unfold State.pump
    split
    · exact ⟨rfl, rfl, rfl⟩
    · rename_i t h; exact same_trans (nextFrame_same h) (ih _)

@[simp] theorem State.toPort_same (s : State) (port : Nat) (x : TxPacket) : State.Same s (State.toPort s port x) := by
  unfold State.toPort
  refine ⟨?_, ?_, ?_⟩ <;> simp



-- ---------------------------------------------------------------- Machine/Fabric.lean

@[simp] theorem State.reportLate_keeps (s : State) (f seq reason late : Nat) : State.Keeps s (State.reportLate s f seq reason late) := by
  unfold State.reportLate
  split <;> refine ⟨?_, ?_, fun hw => ?_⟩ <;> simp [*]

@[simp] theorem State.forward_same (s : State) (inPort : Option Nat) (h : Nat) (data : List Line) : State.Same s (State.forward s inPort h data) := by
  unfold State.forward
  split
  · refine ⟨?_, ?_, ?_⟩ <;> simp
  · split <;> refine ⟨?_, ?_, ?_⟩ <;> simp

@[simp] theorem State.sendLate_keeps (s : State) (h reason late : Nat) : State.Keeps s (State.sendLate s h reason late) := by
  unfold State.sendLate
  split <;> refine ⟨?_, ?_, fun hw => ?_⟩ <;> simp [*]

@[simp] theorem State.discard_keeps (s : State) (h : Nat) : State.Keeps s (State.discard s h) := by
  unfold State.discard
  split <;> refine ⟨?_, ?_, fun hw => ?_⟩ <;> simp [*]

@[simp] theorem State.routePacket_keeps (s : State) (inPort : Option Nat) (h : Nat) (data : List Line) : State.Keeps s (State.routePacket s inPort h data) := by
  unfold State.routePacket
  repeat' split
  all_goals refine ⟨?_, ?_, fun hw => ?_⟩ <;> simp [*]

@[simp] theorem State.findParents_same (s : State) : State.Same s (State.findParents s) := by
  unfold State.findParents
  split
  · refine ⟨?_, ?_, ?_⟩ <;> simp
  · split <;> refine ⟨?_, ?_, ?_⟩ <;> simp

@[simp] theorem State.discardOld_keeps (s : State) (port : Nat) : State.Keeps s (State.discardOld s port) := by
  unfold State.discardOld; (try dsimp only)
  repeat' split
  all_goals first | exact ⟨by simp, by simp, fun hw => by simp (maxDischargeDepth := 30) [hw]⟩ | exact ⟨by simp [*], by simp [*], fun hw => by simp (maxDischargeDepth := 30) [hw, *]⟩ | (refine foldl_keeps (fun s x => ?_) _ _; (repeat' split) <;> exact ⟨by simp, by simp, fun hw => by simp (maxDischargeDepth := 30) [hw]⟩)

@[simp] theorem State.admit1_keeps (s : State) (h : Nat) (data : List Line) : State.Keeps s (State.admit1 s h data) := by
  unfold State.admit1
  refine ⟨?_, ?_, fun hw => ?_⟩ <;> simp [*]

@[simp] theorem State.fabSend_keeps (s : State) (x : Hdr) (data : List Line) : State.Keeps s (State.fabSend s x data) := by
  unfold State.fabSend
  split <;> refine ⟨?_, ?_, fun hw => ?_⟩ <;> simp [*]

@[simp] theorem State.admitUnsent_keeps (s : State) : State.Keeps s (State.admitUnsent s) := by
  suffices h : State.KeepsD s s.admitUnsent from h.out
  unfold State.admitUnsent
  have hc : ∀ (s : State) (f : Fabric), State.KeepsD s ({ s with fab := f } : State) := fun s f => ⟨rfl, rfl, id⟩
  exact keepsD_trans (hc _ _) (foldl_keepsD (fun s x => ⟨State.admit1_keeps _ _ _⟩) _ _)

@[simp] theorem State.dropUnsent_same (s : State) (t : Nat → Bool) : State.Same s (State.dropUnsent s t) := by
  unfold State.dropUnsent
  refine ⟨?_, ?_, ?_⟩ <;> simp

@[simp] theorem State.broadcast_keeps (s : State) (e origin : Nat) (x : Hdr) : State.Keeps s (State.broadcast s e origin x) := by
  unfold State.broadcast
  generalize s.bcastTo e origin = l
  induction l generalizing s with
  | nil => exact ⟨rfl, rfl, id⟩
  | cons d l ih => exact keeps_trans (State.fabSend_keeps s _ _) (ih _)

@[simp] theorem State.broadcastAbort_keeps (s : State) (c collId cause : Nat) : State.Keeps s (State.broadcastAbort s c collId cause) := by
  unfold State.broadcastAbort
  dsimp only
  split <;> refine ⟨?_, ?_, fun hw => ?_⟩ <;> simp [*]



-- ---------------------------------------------------------------- Machine/CollOps.lean

@[simp] theorem State.unpackLines_keeps (s : State) (a : Nat) (x0 : Nat) (x1 : List Line) : State.Keeps s (State.unpackLines s a x0 x1) := by
  induction x1 generalizing s a x0 with
  | nil => exact ⟨rfl, rfl, id⟩
  | cons l ls ih => unfold State.unpackLines; exact keeps_trans (by exact ⟨by simp, by simp, fun hw => by simp (maxDischargeDepth := 30) [hw]⟩) (ih _ _ _)

@[simp] theorem State.updColl_same (s : State) (c node : Nat) (f : Coll → Coll) : State.Same s (State.updColl s c node f) := by
  unfold State.updColl
  refine ⟨?_, ?_, ?_⟩ <;> simp

@[simp] theorem State.dropColl_same (s : State) (c node : Nat) : State.Same s (State.dropColl s c node) := by
  unfold State.dropColl
  refine ⟨?_, ?_, ?_⟩ <;> simp

@[simp] theorem State.advance_same (s : State) (c : Nat) : State.Same s (State.advance s c) := by
  unfold State.advance
  refine ⟨?_, ?_, ?_⟩ <;> simp

@[simp] theorem State.sendPackets_keeps (s : State) (k : Coll) (x : CollSend) (scratch : Nat) : State.Keeps s (State.sendPackets s k x scratch) := by
  unfold State.sendPackets; dsimp only
  refine foldl_keeps (fun s i => ?_) _ s
  split
  · exact ⟨rfl, rfl, id⟩
  · exact State.fabSend_keeps _ _ _

@[simp] theorem State.flushSends_keeps (s : State) (c node : Nat) : State.Keeps s (State.flushSends s c node) := by
  unfold State.flushSends; split
  · exact ⟨rfl, rfl, id⟩
  · dsimp only
    exact keeps_trans (foldl_keeps (fun s x => keeps_trans (State.sendPackets_keeps _ _ _ _) (keeps_of_same (State.advance_same _ _))) _ s) (keeps_of_same (State.updColl_same _ _ _ _))

@[simp] theorem State.land_keeps (s : State) (k : Coll) (c : Nat) (ls : List Line) : State.Keeps s (State.land s k c ls) := by
  suffices h : State.KeepsD s (s.land k c ls) from h.out
  unfold State.land; dsimp only
  have hm : ∀ (s : State) (l : List Nat), State.KeepsD s (l.foldl (fun s l => if s.linePoison l then s.markPoison 0 (64 * l) else s) s) := fun s l =>
    foldl_keepsD (fun s x => keepsD_ite ⟨keeps_of_same (State.markPoison_same _ _ _)⟩ ⟨rfl, rfl, id⟩) l s
  refine keepsD_trans ?_ ⟨keeps_of_same (same_trans (State.updColl_same _ _ _ _) (State.advance_same _ _))⟩
  refine keepsD_ite (keepsD_trans ?_ (hm _ _)) ?_
  all_goals exact keepsD_ite (keepsD_trans ⟨State.reachFor_keeps _ _ _ _ _⟩ ⟨State.unpackLines_keeps _ _ _ _⟩) ⟨rfl, rfl, id⟩

@[simp] theorem State.ownResult_keeps (s : State) (k : Coll) (ls : List Line) : State.Keeps s (State.ownResult s k ls) := by
  unfold State.ownResult
  refine ⟨?_, ?_, fun hw => ?_⟩ <;> simp [*]

@[simp] theorem State.beginColl_keeps (s0 : State) (k : Coll) : State.Keeps s0 (State.beginColl s0 k) := by
  suffices h : State.KeepsD s0 (s0.beginColl k) from h.out
  unfold State.beginColl; dsimp only
  refine keepsD_trans ⟨State.reachFor_keeps s0 k.ctx (cdSrc k.d) (cdSrcBytes k.d) false⟩ ?_
  generalize s0.reachFor k.ctx (cdSrc k.d) (cdSrcBytes k.d) false = s
  have h1 : ∀ (l : List Nat) (g : State → Nat → Hdr) (s : State), State.KeepsD s (l.foldl (fun s r => s.fabSend (g s r) []) s) := fun l g s => foldl_keepsD (fun s r => ⟨State.fabSend_keeps _ _ _⟩) l s
  split
  · refine keepsD_trans ?_ ⟨State.ownResult_keeps _ _ _⟩
    refine keepsD_trans ?_ ⟨State.flushSends_keeps _ _ _⟩
    refine keepsD_trans ?_ ⟨keeps_of_same (State.updColl_same _ _ _ _)⟩
    exact foldl_keepsD (fun s r => ⟨State.fabSend_keeps _ _ _⟩) _ s
  · refine keepsD_trans ?_ ⟨State.flushSends_keeps _ _ _⟩
    refine keepsD_trans ?_ ⟨keeps_of_same (State.updColl_same _ _ _ _)⟩
    exact foldl_keepsD (fun s r => ⟨State.fabSend_keeps _ _ _⟩) _ s

@[simp] theorem State.beginNext_keeps (s : State) (engine : Nat) : State.Keeps s (State.beginNext s engine) := by
  unfold State.beginNext
  split
  · refine ⟨?_, ?_, fun hw => ?_⟩ <;> simp [*]
  · split <;> refine ⟨?_, ?_, fun hw => ?_⟩ <;> simp [*]

@[simp] theorem State.writeFree_keeps (s : State) (a n : Nat) : State.Keeps s (State.writeFree s a n) := by
  unfold State.writeFree
  refine ⟨?_, ?_, fun hw => ?_⟩ <;> simp [*]

@[simp] theorem State.closeColl_keeps (s : State) (k : Coll) : State.Keeps s (State.closeColl s k) := by
  unfold State.closeColl
  split <;> refine ⟨?_, ?_, fun hw => ?_⟩ <;> simp [*]

@[simp] theorem State.endColl_keeps (s : State) (k : Coll) (st : Status) (cause device time : Nat) : State.Keeps s (State.endColl s k st cause device time) := by
  unfold State.endColl
  dsimp only
  split <;> refine ⟨?_, ?_, fun hw => ?_⟩ <;> simp (maxDischargeDepth := 30) [*]

@[simp] theorem State.abortColl_keeps (s : State) (k : Coll) (cause : Nat) : State.Keeps s (State.abortColl s k cause) := by
  unfold State.abortColl
  refine ⟨?_, ?_, fun hw => ?_⟩ <;> simp [*]

@[simp] theorem State.abortHere_keeps (s : State) (c collId cause : Nat) : State.Keeps s (State.abortHere s c collId cause) := by
  unfold State.abortHere
  split <;> refine ⟨?_, ?_, fun hw => ?_⟩ <;> simp [*]

@[simp] theorem State.abortColls_keeps (s : State) (c cause : Nat) : State.Keeps s (State.abortColls s c cause) := by
  suffices h : State.KeepsD s (s.abortColls c cause) from h.out
  unfold State.abortColls; dsimp only
  have hf : ∀ f : Fabric, State.KeepsD s ({ s with fab := f } : State) := fun f => ⟨rfl, rfl, id⟩
  exact keepsD_trans (keepsD_trans (hf _) (foldl_keepsD (fun s k => ⟨keeps_trans (State.broadcastAbort_keeps _ _ _ _) (State.closeColl_keeps _ _)⟩) _ _))
    (foldl_keepsD (fun s k => ⟨State.beginNext_keeps _ _⟩) _ _)

@[simp] theorem State.abortLost_keeps (s before : State) : State.Keeps s (State.abortLost s before) := by
  unfold State.abortLost
  exact foldl_keeps (fun s f => foldl_keeps (fun s t => State.abortHere_keeps _ _ _ _) _ _) _ _


-- ---------------------------------------------------------------- Machine/Contexts.lean

@[simp] theorem State.writeBankOwner_same (s : State) (die tile : Nat) (x0 : Nat) (x1 : List Nat) : State.Same s (State.writeBankOwner s die tile x0 x1) := by
  induction x1 generalizing s x0 with
  | nil => exact ⟨rfl, rfl, rfl⟩
  | cons v vs ih => unfold State.writeBankOwner; dsimp only; exact same_trans (by split <;> exact ⟨by simp, by simp, by simp⟩) (ih _ _)

@[simp] theorem State.applyWindow_same (s : State) (c e w : Nat) : State.Same s (State.applyWindow s c e w) := by
  unfold State.applyWindow
  dsimp only
  split
  · refine ⟨?_, ?_, ?_⟩ <;> simp
  · split <;> refine ⟨?_, ?_, ?_⟩ <;> simp

@[simp] theorem State.writeWindow_same (s : State) (c e off : Nat) (bytes : List Nat) : State.Same s (State.writeWindow s c e off bytes) := by
  unfold State.writeWindow
  dsimp only
  split
  · exact same_trans (State.updCtx_same _ _ _) (State.applyWindow_same _ _ _ _)
  · exact State.updCtx_same _ _ _

@[simp] theorem State.writeGrant_same (s : State) (c which value : Nat) : State.Same s (State.writeGrant s c which value) := by
  unfold State.writeGrant
  dsimp only
  repeat' split
  all_goals refine ⟨?_, ?_, ?_⟩ <;> simp

@[simp] theorem State.cmdStatus_same (s : State) (c st : Nat) : State.Same s (State.cmdStatus s c st) := by
  unfold State.cmdStatus
  refine ⟨?_, ?_, ?_⟩ <;> simp

@[simp] theorem State.activateCtx_keeps (s : State) (c : Nat) : State.Keeps s (State.activateCtx s c).1 := by
  unfold State.activateCtx
  repeat' split
  all_goals refine ⟨?_, ?_, fun hw => ?_⟩ <;> simp [*]

@[simp] theorem State.ctrlActivate_keeps (s : State) (c : Nat) : State.Keeps s (State.ctrlActivate s c) := by
  unfold State.ctrlActivate
  refine ⟨?_, ?_, fun hw => ?_⟩ <;> simp [*]

@[simp] theorem State.startReset_keeps (s : State) (c : Nat) (cause : Cause) (endsActive rehearsal : Bool) (arg0 arg1 : Nat) : State.Keeps s (State.startReset s c cause endsActive rehearsal arg0 arg1) := by
  unfold State.startReset; (try dsimp only)
  repeat' split
  all_goals first | exact ⟨by simp, by simp, fun hw => by simp (maxDischargeDepth := 30) [hw]⟩ | exact ⟨by simp [*], by simp [*], fun hw => by simp (maxDischargeDepth := 30) [hw, *]⟩ | (refine foldl_keeps (fun s x => ?_) _ _; (repeat' split) <;> exact ⟨by simp, by simp, fun hw => by simp (maxDischargeDepth := 30) [hw]⟩)

@[simp] theorem State.resetCmd_keeps (s : State) (c : Nat) (keep : Bool) : State.Keeps s (State.resetCmd s c keep).1 := by
  unfold State.resetCmd; (try dsimp only)
  repeat' split
  all_goals first | exact ⟨by simp, by simp, fun hw => by simp (maxDischargeDepth := 30) [hw]⟩ | exact ⟨by simp [*], by simp [*], fun hw => by simp (maxDischargeDepth := 30) [hw, *]⟩ | (refine foldl_keeps (fun s x => ?_) _ _; (repeat' split) <;> exact ⟨by simp, by simp, fun hw => by simp (maxDischargeDepth := 30) [hw]⟩)

@[simp] theorem State.ctrlReset_keeps (s : State) (c : Nat) (keep : Bool) : State.Keeps s (State.ctrlReset s c keep) := by
  unfold State.ctrlReset
  refine ⟨?_, ?_, fun hw => ?_⟩ <;> simp [*]

@[simp] theorem State.fenceWrite_keeps (s : State) (c : Nat) (byContext0 : Bool) : State.Keeps s (State.fenceWrite s c byContext0) := by
  unfold State.fenceWrite; (try dsimp only)
  repeat' split
  all_goals first | exact ⟨by simp, by simp, fun hw => by simp (maxDischargeDepth := 30) [hw]⟩ | exact ⟨by simp [*], by simp [*], fun hw => by simp (maxDischargeDepth := 30) [hw, *]⟩ | (refine foldl_keeps (fun s x => ?_) _ _; (repeat' split) <;> exact ⟨by simp, by simp, fun hw => by simp (maxDischargeDepth := 30) [hw]⟩)

@[simp] theorem State.fenceQueues_same (s : State) (die tile c : Nat) : State.Same s (State.fenceQueues s die tile c) := by
  unfold State.fenceQueues
  dsimp only
  refine foldl_same (fun s x => ?_) _ _
  split <;> refine ⟨?_, ?_, ?_⟩ <;> simp

@[simp] theorem State.fenceDie_same (s : State) (c d : Nat) : State.Same s (State.fenceDie s c d) := by
  unfold State.fenceDie; dsimp only
  exact same_trans (same_trans (foldl_same (fun s t => by split <;> exact ⟨by simp, by simp, by simp⟩) _ _) (State.updDie_same _ _ _)) (State.cancelSwitches_same _ _ _)

@[simp] theorem State.drawSelvedge_keeps (s : State) (c : Nat) : State.Keeps s (State.drawSelvedge s c) := by
  unfold State.drawSelvedge; dsimp only
  have h1 : State.Keeps s ((List.range s.factory.computeDies).foldl (fun s d => s.fenceDie c d) s) := foldl_keeps (fun s d => keeps_of_same (State.fenceDie_same s c d)) (List.range s.factory.computeDies) s
  refine keeps_trans h1 ?_
  generalize (List.range s.factory.computeDies).foldl (fun s d => s.fenceDie c d) s = s1
  exact ⟨by simp, by simp, fun hw => by simp (maxDischargeDepth := 30) [hw]⟩

@[simp] theorem State.beginSample_keeps (s : State) (c : Nat) : State.Keeps s (State.beginSample s c) := by
  unfold State.beginSample
  split <;> refine ⟨?_, ?_, fun hw => ?_⟩ <;> simp [*]

@[simp] theorem State.copyLines_keeps (s : State) (src dst n : Nat) : State.Keeps s (State.copyLines s src dst n) := by
  unfold State.copyLines
  refine foldl_keeps (fun s x => ?_) _ _
  refine ⟨?_, ?_, fun hw => ?_⟩ <;> simp [*]

@[simp] theorem State.takeSample_keeps (s : State) (c late : Nat) : State.Keeps s (State.takeSample s c late) := by
  suffices h : State.KeepsD s (s.takeSample c late) from h.out
  unfold State.takeSample; dsimp only
  have hm : ∀ (s : State) (b : Nat) (recs : List Nat), State.KeepsD s
      (((List.range recs.length).foldl (fun s i => s.memWrite (b + 0x1000 + 256 * i) (leBytes 256 (recs.getD i 0)) false) s).takeFree (4 * recs.length)) := fun s b recs =>
    keepsD_trans (foldl_keepsD (fun s i => ⟨State.memWrite_keeps _ _ _ _⟩) _ s) ⟨keeps_of_same (State.takeFree_same _ _)⟩
  have hc : ∀ (s : State) (l : List Nat) (a b n : Nat → Nat), State.KeepsD s (l.foldl (fun s i => s.copyLines (a i) (b i) (n i)) s) := fun s l a b n =>
    foldl_keepsD (fun s i => ⟨State.copyLines_keeps _ _ _ _⟩) l s
  have hh : ∀ (s : State) (a : Nat), State.KeepsD s (({ s with vheaders := SMap.set 0 s.vheaders c a } : State).count 0x8090 6 0 1) := fun s a => ⟨by simp, by simp, by simp⟩
  refine keepsD_trans ?_ (hh _ _)
  split
  all_goals first | refine keepsD_trans ?_ ⟨State.memWrite_keeps _ _ _ _⟩ | skip
  all_goals refine keepsD_trans ?_ (hc _ _ _ _ _)
  all_goals exact hm _ _ _

@[simp] theorem State.freeQueues_same (s : State) (c : Nat) : State.Same s (State.freeQueues s c) := by
  suffices h : State.SameD s (s.freeQueues c) from h.out
  unfold State.freeQueues
  refine foldl_sameD (fun s d => ?_) (List.range 2) s
  refine foldl_sameD (fun s t => ?_) (List.range 288) s
  dsimp only; split
  · exact ⟨State.updTile_same _ _ _ _⟩
  · exact ⟨rfl, rfl, rfl⟩

@[simp] theorem State.disarm_same (s : State) (c : Nat) : State.Same s (State.disarm s c) := by
  unfold State.disarm
  refine ⟨?_, ?_, ?_⟩ <;> simp

@[simp] theorem State.clearCtx_keeps (s : State) (c : Nat) : State.Keeps s (State.clearCtx s c) := by
  unfold State.clearCtx
  dsimp only
  split <;> refine ⟨?_, ?_, fun hw => ?_⟩ <;> simp [*]

@[simp] theorem State.hangEvent_keeps (s : State) (c : Nat) (card : Option (Nat × Nat × Nat)) (ctxKind : Bool) (ms n : Nat) : State.Keeps s (State.hangEvent s c card ctxKind ms n) := by
  unfold State.hangEvent
  split <;> refine ⟨?_, ?_, fun hw => ?_⟩ <;> simp [*]

@[simp] theorem State.sampleCard_keeps (s : State) (c : Nat) (x : Nat × Nat × Nat) : State.Keeps s (State.sampleCard s c x) := by
  unfold State.sampleCard
  dsimp only
  repeat' split
  all_goals refine ⟨?_, ?_, fun hw => ?_⟩ <;> simp [*]



-- ---------------------------------------------------------------- Machine/RegWrite.lean

@[simp] theorem State.writeTileWord_same (s : State) (die tile off b : Nat) (bs : List Nat) : State.Same s (State.writeTileWord s die tile off b bs) := by
  unfold State.writeTileWord; (try dsimp only)
  repeat' split
  all_goals first | (refine ⟨?_, ?_, ?_⟩ <;> simp; done) | (refine ⟨?_, ?_, ?_⟩ <;> simp [*]; done) | (refine foldl_same (fun s x => ?_) _ _; (repeat' split) <;> refine ⟨?_, ?_, ?_⟩ <;> simp)

@[simp] theorem State.writeRingReg_keeps (s : State) (c : Nat) (k : RingKind) (i v : Nat) : State.Keeps s (State.writeRingReg s c k i v) := by
  unfold State.writeRingReg
  split <;> refine ⟨?_, ?_, fun hw => ?_⟩ <;> simp [*]

@[simp] theorem State.writeCtrl_keeps (s : State) (c m : Nat) : State.Keeps s (State.writeCtrl s c m) := by
  unfold State.writeCtrl
  split <;> refine ⟨?_, ?_, fun hw => ?_⟩ <;> simp [*]

@[simp] theorem State.writeAdminWord_keeps (s : State) (off b : Nat) (bs : List Nat) : State.Keeps s (State.writeAdminWord s off b bs) := by
  unfold State.writeAdminWord
  dsimp only
  repeat' split
  all_goals refine ⟨?_, ?_, fun hw => ?_⟩ <;> simp [*]

@[simp] theorem State.writeNumeric_same (s : State) (c v m : Nat) : State.Same s (State.writeNumeric s c v m) := by
  unfold State.writeNumeric
  refine ⟨?_, ?_, ?_⟩ <;> simp

@[simp] theorem State.writeSeqStatus_same (s : State) (c m : Nat) : State.Same s (State.writeSeqStatus s c m) := by
  unfold State.writeSeqStatus
  refine ⟨?_, ?_, ?_⟩ <;> simp

@[simp] theorem State.writePageWord_keeps (s : State) (writer c off b : Nat) (bs : List Nat) : State.Keeps s (State.writePageWord s writer c off b bs) := by
  suffices h : State.KeepsD s (s.writePageWord writer c off b bs) from h.out
  unfold State.writePageWord
  exact keepsD_ite ⟨keeps_of_same (State.writeNumeric_same _ _ _ _)⟩ (keepsD_ite (keepsD_ite ⟨State.fenceWrite_keeps _ _ _⟩ ⟨rfl, rfl, id⟩) (keepsD_ite ⟨keeps_of_same (State.updCtx_same _ _ _)⟩ (keepsD_ite ⟨State.doorbell_keeps _ _ _⟩ (keepsD_ite ⟨keeps_of_same (State.writeSeqStatus_same _ _ _)⟩ (keepsD_ite ⟨State.seqRelease_keeps _ _ _⟩ (keepsD_ite ⟨State.writeRingReg_keeps _ _ _ _ _⟩ (keepsD_ite ⟨State.writeRingReg_keeps _ _ _ _ _⟩ (keepsD_ite ⟨keeps_of_same (State.writeLaunchAt_same _ _ _)⟩ (keepsD_ite ⟨keeps_of_same (State.updCtx_same _ _ _)⟩ (keepsD_ite ⟨State.writeRingReg_keeps _ _ _ _ _⟩ (keepsD_ite ⟨State.writeAdminWord_keeps _ _ _ _⟩ (⟨rfl, rfl, id⟩))))))))))))

@[simp] theorem State.writeRegWord_keeps (s : State) (writer a b : Nat) (bs : List Nat) : State.Keeps s (State.writeRegWord s writer a b bs) := by
  unfold State.writeRegWord
  repeat' split
  all_goals refine ⟨?_, ?_, fun hw => ?_⟩ <;> simp [*]

@[simp] theorem State.writeAny_keeps (s : State) (writer a : Nat) (bs : List Nat) (poison : Bool) : State.Keeps s (State.writeAny s writer a bs poison) := by
  unfold State.writeAny
  split
  · refine foldl_keeps (fun s x => ?_) _ _
    refine ⟨?_, ?_, fun hw => ?_⟩ <;> simp [*]
  · refine ⟨?_, ?_, fun hw => ?_⟩ <;> simp [*]



-- ---------------------------------------------------------------- Machine/Weft.lean

@[simp] theorem State.writeLines_keeps (s : State) (c : Nat) (x0 : Nat) (x1 : List Line) : State.Keeps s (State.writeLines s c x0 x1) := by
  induction x1 generalizing s x0 with
  | nil => exact ⟨rfl, rfl, id⟩
  | cons l ls ih => unfold State.writeLines; exact keeps_trans (by exact ⟨by simp, by simp, fun hw => by simp (maxDischargeDepth := 30) [hw]⟩) (ih _ _)

@[simp] theorem State.writeMasked_keeps (s : State) (c a mask : Nat) (l : Line) : State.Keeps s (State.writeMasked s c a mask l) := by
  unfold State.writeMasked
  exact keeps_trans (foldl_keeps (fun s r => State.writeAny_keeps _ _ _ _ _) _ s) (keeps_of_same (State.gbWeft_same _ _ _))

@[simp] theorem State.perform_keeps (s : State) (c kind a len mask : Nat) (data : List Line) : State.Keeps s (State.perform s c kind a len mask data).1 := by
  unfold State.perform; split
  · exact foldl_keeps (fun s i => keeps_of_same (State.gbWeft_same _ _ _)) (List.range len) s
  · exact State.writeLines_keeps _ _ _ _
  · exact State.writeMasked_keeps _ _ _ _ _
  · exact ⟨rfl, rfl, id⟩

@[simp] theorem State.countRefusal_same (s : State) (c a : Nat) : State.Same s (State.countRefusal s c a) := by
  unfold State.countRefusal
  repeat' split
  all_goals refine ⟨?_, ?_, ?_⟩ <;> simp

@[simp] theorem State.updAcc_same (s : State) (id : Nat) (f : Access → Access) : State.Same s (State.updAcc s id f) := by
  unfold State.updAcc
  refine ⟨?_, ?_, ?_⟩ <;> simp

@[simp] theorem State.dropAcc_same (s : State) (id : Nat) : State.Same s (State.dropAcc s id) := by
  unfold State.dropAcc
  refine ⟨?_, ?_, ?_⟩ <;> simp

@[simp] theorem State.leaveIs4_same (s : State) : State.Same s (State.leaveIs4 s) := by
  suffices h : State.SameD s s.leaveIs4 from h.out
  unfold State.leaveIs4; dsimp only
  have hc : ∀ (s : State) (p : Power) (b : Hbm), State.SameD s ({ s with pwr := p, hbm := b } : State) := fun s p b => ⟨rfl, rfl, rfl⟩
  split
  · exact ⟨rfl, rfl, rfl⟩
  · exact sameD_trans (foldl_sameD (fun s p => ⟨State.updPortF_same _ _ _⟩) (List.range 16) s) (hc _ _ _)

@[simp] theorem State.wakeFor_same (s : State) (a : Nat) : State.Same s (State.wakeFor s a) := by
  unfold State.wakeFor
  repeat' split
  all_goals refine ⟨?_, ?_, ?_⟩ <;> simp

@[simp] theorem State.askWake_same (s : State) (a : Nat) : State.Same s (State.askWake s a) := by
  unfold State.askWake; (try dsimp only)
  repeat' split
  all_goals first | (refine ⟨?_, ?_, ?_⟩ <;> simp; done) | (refine ⟨?_, ?_, ?_⟩ <;> simp [*]; done) | (refine foldl_same (fun s x => ?_) _ _; (repeat' split) <;> refine ⟨?_, ?_, ?_⟩ <;> simp)

@[simp] theorem State.answer_same (s : State) (id : Nat) (st : Status) (data : List Line) : State.Same s (State.answer s id st data) := by
  unfold State.answer
  refine ⟨?_, ?_, ?_⟩ <;> simp

@[simp] theorem State.sendRemote_keeps (s : State) (a : Access) : State.Keeps s (State.sendRemote s a) := by
  unfold State.sendRemote
  dsimp only
  repeat' split
  all_goals refine ⟨?_, ?_, fun hw => ?_⟩ <;> simp [*]

@[simp] theorem State.serve_keeps (s : State) (id kind : Nat) : State.Keeps s (State.serve s id kind) := by
  unfold State.serve
  repeat' split
  all_goals refine ⟨?_, ?_, fun hw => ?_⟩ <;> simp [*]

@[simp] theorem State.noteAtomic_same (s : State) (c fn a : Nat) : State.Same s (State.noteAtomic s c fn a) := by
  unfold State.noteAtomic
  dsimp only
  split <;> refine ⟨?_, ?_, ?_⟩ <;> simp

@[simp] theorem State.atomic_keeps (s : State) (c fn a size op x cmp : Nat) : State.Keeps s (State.atomic s c fn a size op x cmp).1 := by
  unfold State.atomic
  dsimp only
  split <;> refine ⟨?_, ?_, fun hw => ?_⟩ <;> simp [*]

@[simp] theorem State.respond_keeps (s : State) (a : Access) (st : Status) (lines : List Line) (lost : Bool) : State.Keeps s (State.respond s a st lines lost) := by
  unfold State.respond
  dsimp only
  split
  · refine ⟨?_, ?_, fun hw => ?_⟩ <;> simp [*]
  · split <;> refine ⟨?_, ?_, fun hw => ?_⟩ <;> simp [*]

@[simp] theorem State.deliver_keeps (s : State) (a : Access) : State.Keeps s (State.deliver s a) := by
  unfold State.deliver
  split
  · refine ⟨?_, ?_, fun hw => ?_⟩ <;> simp [*]
  · split <;> refine ⟨?_, ?_, fun hw => ?_⟩ <;> simp [*]

@[simp] theorem State.lose_keeps (s : State) (a : Access) : State.Keeps s (State.lose s a) := by
  unfold State.lose
  split
  · refine ⟨?_, ?_, fun hw => ?_⟩ <;> simp [*]
  · split <;> refine ⟨?_, ?_, fun hw => ?_⟩ <;> simp [*]

@[simp] theorem State.tallyEvery_same (s : State) (key n : Nat) : State.Same s (State.tallyEvery s key n) := by
  unfold State.tallyEvery
  refine ⟨?_, ?_, ?_⟩ <;> simp

@[simp] theorem State.hardDue_same (s : State) (u : Nat) : State.Same s (State.hardDue s u) := by
  unfold State.hardDue
  refine ⟨?_, ?_, ?_⟩ <;> simp

@[simp] theorem State.hardFail_same (s : State) (u : Nat) : State.Same s (State.hardFail s u) := by
  unfold State.hardFail
  refine ⟨?_, ?_, ?_⟩ <;> simp

@[simp] theorem State.bumpDist_same (s : State) : State.Same s (State.bumpDist s) := by
  unfold State.bumpDist
  refine ⟨?_, ?_, ?_⟩ <;> simp

@[simp] theorem State.bumpIf_same (s before : State) : State.Same s (State.bumpIf s before) := by
  unfold State.bumpIf
  split <;> refine ⟨?_, ?_, ?_⟩ <;> simp

@[simp] theorem State.memError_same (s : State) (a kind : Nat) : State.Same s (State.memError s a kind) := by
  unfold State.memError
  repeat' split
  all_goals refine ⟨?_, ?_, ?_⟩ <;> simp

@[simp] theorem State.poisonStore_same (s : State) (e : EccStore) (unit i : Nat) : State.Same s (State.poisonStore s e unit i) := by
  unfold State.poisonStore
  dsimp only
  repeat' split
  all_goals refine ⟨?_, ?_, ?_⟩ <;> simp

@[simp] theorem State.storeError_same (s : State) (e : EccStore) (unit i err : Nat) : State.Same s (State.storeError s e unit i err) := by
  unfold State.storeError
  dsimp only
  repeat' split
  all_goals refine ⟨?_, ?_, ?_⟩ <;> simp



-- ---------------------------------------------------------------- Machine/Streamers.lean

@[simp] theorem State.updStreamAt_same (s : State) (die n i : Nat) (f : Stream → Stream) : State.Same s (State.updStreamAt s die n i f) := by
  unfold State.updStreamAt
  refine ⟨?_, ?_, ?_⟩ <;> simp



-- ---------------------------------------------------------------- Machine/FabricEvents.lean

@[simp] theorem State.putObj_same (s : State) (index sub el v : Nat) : State.Same s (State.putObj s index sub el v) := by
  unfold State.putObj
  repeat' split
  all_goals refine ⟨?_, ?_, ?_⟩ <;> simp

@[simp] theorem State.countResent_same (s : State) (port n : Nat) : State.Same s (State.countResent s port n) := by
  unfold State.countResent
  refine ⟨?_, ?_, ?_⟩ <;> simp

@[simp] theorem State.scoreFec_same (s : State) (port : Nat) (x0 : Nat) : State.Same s (State.scoreFec s port x0) := by
  induction x0 generalizing s with
  | zero => exact ⟨rfl, rfl, rfl⟩
  | succ n ih => unfold State.scoreFec; exact same_trans (by exact ⟨by simp, by simp, by simp⟩) (ih _)

@[simp] theorem State.resend_same (s : State) (port : Nat) : State.Same s (State.resend s port) := by
  suffices h : State.SameD s (s.resend port) from h.out
  unfold State.resend; dsimp only
  split
  · exact ⟨rfl, rfl, rfl⟩
  · exact sameD_trans ⟨same_trans (State.updPortF_same _ _ _) (State.countResent_same _ _ _)⟩ (foldl_sameD (fun s f => ⟨State.emitData_same _ _ _⟩) _ _)

@[simp] theorem State.returnCredits_same (s : State) (port : Nat) : State.Same s (State.returnCredits s port) := by
  unfold State.returnCredits
  dsimp only
  split <;> refine ⟨?_, ?_, ?_⟩ <;> simp

@[simp] theorem State.frameBack_same (s : State) (port header : Nat) : State.Same s (State.frameBack s port header) := by
  unfold State.frameBack
  split <;> refine ⟨?_, ?_, ?_⟩ <;> simp

@[simp] theorem State.frameIn_same (s : State) (port header : Nat) (slots : List Nat) : State.Same s (State.frameIn s port header slots) := by
  unfold State.frameIn
  dsimp only
  repeat' split
  all_goals refine ⟨?_, ?_, ?_⟩ <;> simp

@[simp] theorem State.linkLost_keeps (s : State) (port : Nat) : State.Keeps s (State.linkLost s port) := by
  suffices h : State.KeepsD s (s.linkLost port) from h.out
  unfold State.linkLost; dsimp only
  refine keepsD_trans ?_ ⟨keeps_of_same (State.findParents_same _)⟩
  refine keepsD_trans ?_ ⟨State.abortLost_keeps _ _⟩
  refine keepsD_trans ?_ (foldl_keepsD (fun s x => ⟨State.routePacket_keeps _ _ _ _⟩) _ _)
  refine keepsD_trans ⟨keeps_of_same (State.updPortF_same _ _ _)⟩ (foldl_keepsD (fun s x => ⟨State.discard_keeps _ _⟩) _ _)

@[simp] theorem State.portDown_keeps (s : State) (port reason : Nat) : State.Keeps s (State.portDown s port reason) := by
  unfold State.portDown
  refine ⟨?_, ?_, fun hw => ?_⟩ <;> simp [*]

@[simp] theorem State.scoreWl_same (s : State) (port : Nat) (x0 : Nat) : State.Same s (State.scoreWl s port x0) := by
  induction x0 generalizing s with
  | zero => exact ⟨rfl, rfl, rfl⟩
  | succ n ih => unfold State.scoreWl; exact same_trans (by exact ⟨by simp, by simp, by simp⟩) (ih _)

@[simp] theorem State.startLinkUp_keeps (s : State) (port : Nat) : State.Keeps s (State.startLinkUp s port) := by
  unfold State.startLinkUp; (try dsimp only)
  repeat' split
  all_goals first | exact ⟨by simp, by simp, fun hw => by simp (maxDischargeDepth := 30) [hw]⟩ | exact ⟨by simp [*], by simp [*], fun hw => by simp (maxDischargeDepth := 30) [hw, *]⟩ | (refine foldl_keeps (fun s x => ?_) _ _; (repeat' split) <;> exact ⟨by simp, by simp, fun hw => by simp (maxDischargeDepth := 30) [hw]⟩)

@[simp] theorem State.writeFabricCfg_keeps (s : State) (object elem value : Nat) : State.Keeps s (State.writeFabricCfg s object elem value) := by
  unfold State.writeFabricCfg
  generalize List.range 16 = l
  (repeat' split) <;> first | exact ⟨rfl, rfl, id⟩ | exact keeps_trans (keeps_of_same (State.putObj_same _ _ _ _ _)) (foldl_keeps (fun s x => State.startLinkUp_keeps _ _) l _) | exact keeps_trans (keeps_of_same (State.putObj_same _ _ _ _ _)) (State.startLinkUp_keeps _ _)

@[simp] theorem State.setFailover_same (s : State) (on : Bool) (l : Nat × Nat) : State.Same s (State.setFailover s on l) := by
  unfold State.setFailover
  split <;> refine ⟨?_, ?_, ?_⟩ <;> simp

@[simp] theorem State.fabReply_keeps (s : State) (h op status : Nat) (data : List Line) : State.Keeps s (State.fabReply s h op status data) := by
  unfold State.fabReply
  refine ⟨?_, ?_, fun hw => ?_⟩ <;> simp [*]

@[simp] theorem State.nackReset_keeps (s : State) (h : Nat) (c : Option Nat) : State.Keeps s (State.nackReset s h c) := by
  suffices h : State.KeepsD s (s.nackReset h c) from h.out
  unfold State.nackReset; dsimp only
  refine keepsD_trans ?_ ⟨State.fabReply_keeps _ _ _ _ _⟩
  cases c
  · exact ⟨keeps_of_same (State.count_same _ _ _ _ _)⟩
  · exact ⟨keeps_of_same (same_trans (State.count_same _ _ _ _ _) (State.updCtx_same _ _ _))⟩

@[simp] theorem State.peerLost_keeps (s : State) (h kind : Nat) : State.Keeps s (State.peerLost s h kind) := by
  unfold State.peerLost
  split <;> refine ⟨?_, ?_, fun hw => ?_⟩ <;> simp [*]

@[simp] theorem State.fabRequest_keeps (s : State) (kind h : Nat) (data : List Line) : State.Keeps s (State.fabRequest s kind h data) := by
  unfold State.fabRequest
  dsimp only
  repeat' split
  all_goals exact ⟨by simp, by simp, fun hw => by simp (maxDischargeDepth := 30) [hw]⟩

@[simp] theorem State.dropRemote_same (s : State) (tag : Nat) : State.Same s (State.dropRemote s tag) := by
  unfold State.dropRemote
  refine ⟨?_, ?_, ?_⟩ <;> simp

@[simp] theorem State.fabResponse_keeps (s : State) (op h : Nat) (st : Status) (data : List Line) : State.Keeps s (State.fabResponse s op h st data) := by
  unfold State.fabResponse
  dsimp only
  repeat' split
  all_goals refine ⟨?_, ?_, fun hw => ?_⟩ <;> simp [*]

@[simp] theorem State.writeEndpoint_same (s : State) (c v : Nat) : State.Same s (State.writeEndpoint s c v) := by
  unfold State.writeEndpoint
  split <;> refine ⟨?_, ?_, ?_⟩ <;> simp

@[simp] theorem State.writePartition_same (s : State) (i v : Nat) : State.Same s (State.writePartition s i v) := by
  unfold State.writePartition
  refine ⟨?_, ?_, ?_⟩ <;> simp

@[simp] theorem State.writeFlow_same (s : State) (f v : Nat) : State.Same s (State.writeFlow s f v) := by
  unfold State.writeFlow
  dsimp only
  split <;> refine ⟨?_, ?_, ?_⟩ <;> simp

theorem State.taken_keeps (s : State) (expected : Bool) (h : Nat) (f : State → State) (k : State.Keeps s (f s)) : State.Keeps s (s.taken expected h f) := by
  unfold State.taken; split
  · exact ⟨rfl, rfl, id⟩
  · split
    · exact State.discard_keeps _ _
    · exact k

@[simp] theorem State.delivered_keeps (s : State) (h : Nat) : State.Keeps s (State.delivered s h) := by
  unfold State.delivered
  dsimp only
  split <;> refine ⟨?_, ?_, fun hw => ?_⟩ <;> simp [*]

@[simp] theorem State.partSpread_keeps (s : State) (part pid device : Nat) : State.Keeps s (State.partSpread s part pid device) := by
  unfold State.partSpread
  refine ⟨?_, ?_, fun hw => ?_⟩ <;> simp [*]

@[simp] theorem State.partReset_keeps (s : State) (pid device : Nat) (rehearsal : Bool) : State.Keeps s (State.partReset s pid device rehearsal) := by
  unfold State.partReset
  refine foldl_keeps (fun s c => ?_) _ _
  dsimp only; split
  · exact keeps_trans (State.startReset_keeps _ _ _ _ _ _ _) (keeps_of_same (State.count_same _ _ _ _ _))
  · exact ⟨rfl, rfl, id⟩

@[simp] theorem State.startPartReset_keeps (s : State) (pid : Nat) (rehearsal : Bool) : State.Keeps s (State.startPartReset s pid rehearsal) := by
  unfold State.startPartReset
  split <;> refine ⟨?_, ?_, fun hw => ?_⟩ <;> simp [*]



-- ---------------------------------------------------------------- Machine/Collectives.lean

@[simp] theorem State.countSum_same (s : State) (c : Nat) (es : List Ev) : State.Same s (State.countSum s c es) := by
  unfold State.countSum
  refine ⟨?_, ?_, ?_⟩ <;> simp

@[simp] theorem State.countOrder_same (s : State) (c node : Nat) : State.Same s (State.countOrder s c node) := by
  unfold State.countOrder
  repeat' split
  all_goals refine ⟨?_, ?_, ?_⟩ <;> simp

@[simp] theorem State.finishColl_keeps (s : State) (c node : Nat) : State.Keeps s (State.finishColl s c node) := by
  unfold State.finishColl
  repeat' split
  all_goals refine ⟨?_, ?_, fun hw => ?_⟩ <;> simp (maxDischargeDepth := 30) [*]

@[simp] theorem State.readyFor_keeps (s : State) (c h : Nat) : State.Keeps s (State.readyFor s c h) := by
  unfold State.readyFor
  dsimp only
  repeat' split
  all_goals refine ⟨?_, ?_, fun hw => ?_⟩ <;> simp [*]

@[simp] theorem State.ringStep_keeps (s : State) (k : Coll) (c : Nat) (ls : List Line) : State.Keeps s (State.ringStep s k c ls) := by
  unfold State.ringStep
  dsimp only
  split
  · refine ⟨?_, ?_, fun hw => ?_⟩ <;> simp [*]
  · split <;> refine ⟨?_, ?_, fun hw => ?_⟩ <;> simp [*]

@[simp] theorem State.gatherStep_keeps (s : State) (k : Coll) (rank : Nat) (ls : List Line) : State.Keeps s (State.gatherStep s k rank ls) := by
  unfold State.gatherStep
  dsimp only
  repeat' split
  all_goals refine ⟨?_, ?_, fun hw => ?_⟩ <;> simp [*]

@[simp] theorem State.dataPacket_keeps (s : State) (h : Nat) : State.Keeps s (State.dataPacket s h) := by
  unfold State.dataPacket; (try dsimp only)
  repeat' split
  all_goals first | exact ⟨by simp, by simp, fun hw => by simp (maxDischargeDepth := 30) [hw]⟩ | exact ⟨by simp [*], by simp [*], fun hw => by simp (maxDischargeDepth := 30) [hw, *]⟩ | (refine foldl_keeps (fun s x => ?_) _ _; (repeat' split) <;> exact ⟨by simp, by simp, fun hw => by simp (maxDischargeDepth := 30) [hw]⟩)

@[simp] theorem State.scratchIn_keeps (s : State) (k : Coll) (x0 : List Nat) (x1 : List Line) : State.Keeps s (State.scratchIn s k x0 x1) := by
  induction x0 generalizing s x1 with
  | nil => exact ⟨rfl, rfl, id⟩
  | cons h hs ih =>
    unfold State.scratchIn; dsimp only
    refine keeps_trans ?_ (ih _ _)
    split
    · exact keeps_trans (State.reachFor_keeps _ _ _ _ _) (State.writeLines_keeps _ _ _ _)
    · exact ⟨rfl, rfl, id⟩

@[simp] theorem State.chunkIn_keeps (s : State) (k : Coll) (rank chunk part : Nat) (ls : List Line) : State.Keeps s (State.chunkIn s k rank chunk part ls) := by
  unfold State.chunkIn
  dsimp only
  repeat' split
  all_goals refine ⟨?_, ?_, fun hw => ?_⟩ <;> simp [*]



-- ---------------------------------------------------------------- Machine/Time.lean

@[simp] theorem State.sendTime_same (s : State) (port arg : Nat) : State.Same s (State.sendTime s port arg) := by
  unfold State.sendTime
  refine ⟨?_, ?_, ?_⟩ <;> simp

@[simp] theorem State.judgeLink_same (s : State) (port : Nat) : State.Same s (State.judgeLink s port) := by
  unfold State.judgeLink
  dsimp only
  repeat' split
  all_goals refine ⟨?_, ?_, ?_⟩ <;> simp

@[simp] theorem State.timeBegins_keeps (s : State) (ftc16 : Nat) : State.Keeps s (State.timeBegins s ftc16) := by
  unfold State.timeBegins
  refine ⟨?_, ?_, fun hw => ?_⟩ <;> simp [*]



-- ---------------------------------------------------------------- Machine/Darner.lean

@[simp] theorem State.updSlot_same (s : State) (die tile k : Nat) (f : Slot → Slot) : State.Same s (State.updSlot s die tile k f) := by
  unfold State.updSlot
  refine ⟨?_, ?_, ?_⟩ <;> simp

@[simp] theorem State.homeSlots_same (s : State) (die tile site : Nat) : State.Same s (State.homeSlots s die tile site) := by
  unfold State.homeSlots; (try dsimp only)
  repeat' split
  all_goals first | (refine ⟨?_, ?_, ?_⟩ <;> simp; done) | (refine ⟨?_, ?_, ?_⟩ <;> simp [*]; done) | (refine foldl_same (fun s x => ?_) _ _; (repeat' split) <;> refine ⟨?_, ?_, ?_⟩ <;> simp)

@[simp] theorem State.pauseCirc_same (s : State) (die : Nat) (on : Bool) (x : Crossing) : State.Same s (State.pauseCirc s die on x) := by
  unfold State.pauseCirc
  dsimp only
  repeat' split
  all_goals refine ⟨?_, ?_, ?_⟩ <;> simp


-- ---------------------------------------------------------------- Machine/Replace.lean

@[simp] theorem State.dropOps_same (s : State) (die tile k : Nat) : State.Same s (State.dropOps s die tile k) := by
  unfold State.dropOps
  refine ⟨?_, ?_, ?_⟩ <;> simp

@[simp] theorem State.retireCard_keeps (s : State) (die tile k : Nat) : State.Keeps s (State.retireCard s die tile k) := by
  unfold State.retireCard
  split <;> refine ⟨?_, ?_, fun hw => ?_⟩ <;> simp [*]

@[simp] theorem State.retireSlot_keeps (s : State) (die t k : Nat) : State.Keeps s (State.retireSlot s die t k) := by
  unfold State.retireSlot
  dsimp only
  split <;> refine ⟨?_, ?_, fun hw => ?_⟩ <;> simp [*]

@[simp] theorem State.retireEnds_keeps (s : State) (die : Nat) (x : Crossing) : State.Keeps s (State.retireEnds s die x) := by
  unfold State.retireEnds
  dsimp only
  split <;> refine ⟨?_, ?_, fun hw => ?_⟩ <;> simp [*]

@[simp] theorem State.stopLink_keeps (s : State) (die link : Nat) (hard : Bool) : State.Keeps s (State.stopLink s die link hard) := by
  suffices h : State.KeepsD s (s.stopLink die link hard) from h.out
  unfold State.stopLink; dsimp only
  exact keepsD_trans (foldl_keepsD (fun s x => ⟨keeps_of_same (State.pauseCirc_same _ _ _ _)⟩) _ s) ⟨keeps_of_same (State.updDie_same _ _ _)⟩

theorem State.updSlot_same' (s : State) (die tile k : Nat) (f : Slot → Slot) : State.Same s (s.updSlot die tile k f) := ⟨rfl, rfl, rfl⟩

theorem State.bypass_same {s t : State} {die : Nat} {x : Crossing} (h : s.bypass die x = some t) : State.Same s t := by
  unfold State.bypass at h; dsimp only at h
  split at h
  · obtain ⟨w, -, rfl⟩ := Option.map_eq_some_iff.1 h; exact ⟨rfl, rfl, rfl⟩
  · cases h

theorem State.darnCirc_same {s t : State} {die tile k old new : Nat} {c : Circ} (h : s.darnCirc die tile k old new c = some t) :
    State.Same s t := by
  unfold State.darnCirc at h; dsimp only at h
  split at h
  · cases h; exact ⟨rfl, rfl, rfl⟩
  · split at h <;> (obtain ⟨w, -, rfl⟩ := Option.map_eq_some_iff.1 h; exact ⟨rfl, rfl, rfl⟩)

theorem State.darnTile_same {s t : State} {die tile old new : Nat} (h : s.darnTile die tile old new = some t) : State.Same s t := by
  unfold State.darnTile at h
  refine foldl_bind_same (fun s k t ht => ?_) _ (some (s.homeSlots die tile old)) s t (fun u hu => ?_) h
  · dsimp only at ht; split at ht
    · cases ht; exact ⟨rfl, rfl, rfl⟩
    · exact foldl_bind_same (fun s c t ht => State.darnCirc_same ht) _ (some s) s t (fun u hu => by cases hu; exact ⟨rfl, rfl, rfl⟩) ht
  · cases hu; exact State.homeSlots_same _ _ _ _

@[simp] theorem State.darnLink_keeps (s : State) (die link : Nat) : State.Keeps s (State.darnLink s die link) := by
  unfold State.darnLink
  refine foldl_keeps (fun s x => ?_) _ s
  split
  · rename_i s1 h; exact keeps_of_same (same_trans (State.bypass_same h) (State.pauseCirc_same _ _ _ _))
  · exact State.retireEnds_keeps _ _ _

@[simp] theorem State.darnLinks_keeps (s : State) (die : Nat) : State.Keeps s (State.darnLinks s die) := by
  suffices h : State.KeepsD s (s.darnLinks die) from h.out
  unfold State.darnLinks
  exact keepsD_trans (keepsD_trans ⟨keeps_of_same (State.updDie_same _ _ _)⟩ (foldl_keepsD (fun s l => ⟨State.darnLink_keeps _ _ _⟩) _ _))
    ⟨keeps_of_same (State.commitReady_same _ _)⟩

@[simp] theorem State.updSlice_same (s : State) (die site : Nat) (f : SliceRec → SliceRec) : State.Same s (State.updSlice s die site f) := by
  unfold State.updSlice
  refine ⟨?_, ?_, ?_⟩ <;> simp

@[simp] theorem State.replacedEvent_keeps (s : State) (r : Replacement) (newSite durUs : Nat) (cs : List Nat) : State.Keeps s (State.replacedEvent s r newSite durUs cs) := by
  unfold State.replacedEvent
  refine foldl_keeps (fun s x => ?_) _ _
  refine ⟨?_, ?_, fun hw => ?_⟩ <;> simp [*]

@[simp] theorem State.noSpare_keeps (s : State) (r : Replacement) : State.Keeps s (State.noSpare s r) := by
  suffices h : State.KeepsD s (s.noSpare r) from h.out
  unfold State.noSpare; dsimp only
  have hc : ∀ (s : State) (k : Curator), State.KeepsD s ({ s with cur := k } : State) := fun s k => ⟨rfl, rfl, id⟩
  refine keepsD_trans ?_ ⟨State.replacedEvent_keeps _ _ _ _ _⟩
  refine keepsD_trans ?_ ⟨keeps_of_same (same_trans (State.updDie_same _ _ _) (State.bumpDist_same _))⟩
  refine keepsD_trans ?_ (hc _ _)
  refine keepsD_trans ?_ (foldl_keepsD (fun s k => ⟨State.retireSlot_keeps _ _ _ _⟩) _ _)
  exact ⟨keeps_of_same (same_trans (State.homeSlots_same _ _ _ _) (same_trans (State.logAcc_same _ _) (State.count_same _ _ _ _ _)))⟩

@[simp] theorem State.pickSpare_keeps (s : State) (r : Replacement) : State.Keeps s (State.pickSpare s r) := by
  unfold State.pickSpare
  dsimp only
  split
  · refine ⟨?_, ?_, fun hw => ?_⟩ <;> simp [*]
  · split <;> refine ⟨?_, ?_, fun hw => ?_⟩ <;> simp [*]

@[simp] theorem State.endMove_same (s : State) (r : Replacement) : State.Same s (State.endMove s r) := by
  unfold State.endMove
  refine ⟨?_, ?_, ?_⟩ <;> simp

@[simp] theorem State.isolateTile_same (s : State) (die tile : Nat) : State.Same s (State.isolateTile s die tile) := by
  suffices h : State.SameD s (s.isolateTile die tile) from h.out
  unfold State.isolateTile; dsimp only
  refine sameD_trans (foldl_sameD (fun s q => ?_) (List.range 8) s) ⟨State.updTile_same _ _ _ _⟩
  split
  · exact ⟨same_trans (State.updTile_same _ _ _ _) (State.notice_same _ _ _ _ _)⟩
  · exact ⟨rfl, rfl, rfl⟩

@[simp] theorem State.rejoinTile_keeps (s : State) (die tile : Nat) : State.Keeps s (State.rejoinTile s die tile) := by
  suffices h : State.KeepsD s (s.rejoinTile die tile) from h.out
  unfold State.rejoinTile; dsimp only
  refine keepsD_trans (keepsD_trans (foldl_keepsD (fun s q => ?_) (List.range 8) s) ⟨keeps_of_same (State.updTile_same _ _ _ _)⟩)
    (foldl_keepsD (fun s o => ⟨State.feedOp_keeps _ _ _ _⟩) _ _)
  split
  · exact ⟨keeps_of_same (same_trans (State.updTile_same _ _ _ _) (State.notice_same _ _ _ _ _))⟩
  · exact ⟨rfl, rfl, id⟩

@[simp] theorem State.markNodes_same (s : State) (die tile : Nat) (cs : List Nat) (f : Node → Node) : State.Same s (State.markNodes s die tile cs f) := by
  unfold State.markNodes
  refine foldl_same (fun s x => ?_) _ _
  refine ⟨?_, ?_, ?_⟩ <;> simp

@[simp] theorem State.translate_same (s : State) (r : Replacement) : State.Same s (State.translate s r) := by
  unfold State.translate
  dsimp only
  split <;> refine ⟨?_, ?_, ?_⟩ <;> simp

@[simp] theorem State.reportMove_keeps (s : State) (r : Replacement) (current held : List Nat) : State.Keeps s (State.reportMove s r current held) := by
  suffices h : State.KeepsD s (s.reportMove r current held) from h.out
  unfold State.reportMove; dsimp only
  have hn : ∀ (s : State) (l : List Nat), State.KeepsD s (l.foldl (fun s c => s.ndcTiming c) s) := fun s l => foldl_keepsD (fun s c => ⟨keeps_of_same (State.ndcTiming_same _ _)⟩) l s
  have hp : ∀ (s : State) (l : List Nat) (f : State → Nat → Event), State.KeepsD s (l.foldl (fun s c => ((((s.postEvent c (f s c)).ndcTiming c).count 0x8080 7 c 1).tally c 528 1)) s) := fun s l f =>
    foldl_keepsD (fun s c => ⟨keeps_trans (State.postEvent_keeps _ _ _) (keeps_of_same (same_trans (same_trans (State.ndcTiming_same _ _) (State.count_same _ _ _ _ _)) (State.tally_same _ _ _ _)))⟩) l s
  have h3 : ∀ (s : State) (sp d : Nat) (ms : List Nat) (f g : Node → Node), State.KeepsD s (if r.rehearsal then ((s.replacedEvent r sp d held).markNodes r.die r.tile held f).markRehearsal held else (s.replacedEvent r sp d held).markNodes r.die r.tile held f) := fun s sp d ms f g => by
    have h : State.KeepsD s ((s.replacedEvent r sp d held).markNodes r.die r.tile held f) := keepsD_trans ⟨State.replacedEvent_keeps _ _ _ _ _⟩ ⟨keeps_of_same (State.markNodes_same _ _ _ _ _)⟩
    split
    · exact keepsD_trans h ⟨keeps_of_same (State.markRehearsal_same _ _)⟩
    · exact h
  have h2 : ∀ s : State, State.KeepsD s ((current.foldl (fun s c => s.ndcTiming c) s).tallyAll held 496 1) := fun s => keepsD_trans (hn _ _) ⟨keeps_of_same (State.tallyAll_same _ _ _ _)⟩
  have h0 : ∀ a : AccRec, State.KeepsD s ((s.logAcc a).count 0x80C0 0x08 0 1) := fun a => ⟨by simp, by simp, fun hw => by simp (maxDischargeDepth := 30) [hw]⟩
  split
  · refine keepsD_trans ?_ ⟨keeps_of_same (State.markNodes_same _ _ _ _ _)⟩
    refine keepsD_trans ?_ (hp _ _ _)
    refine keepsD_trans ?_ (h3 _ _ _ [] _ id)
    exact keepsD_trans (h0 _) (h2 _)
  · refine keepsD_trans ?_ (h3 _ _ _ [] _ id)
    exact keepsD_trans (h0 _) (h2 _)

@[simp] theorem State.retryMove_keeps (s : State) (r : Replacement) : State.Keeps s (State.retryMove s r) := by
  unfold State.retryMove
  refine ⟨?_, ?_, fun hw => ?_⟩ <;> simp [*]


-- ---------------------------------------------------------------- Machine/Slices.lean

@[simp] theorem State.startSlice_same (s : State) (die site grant : Nat) (rehearsed : Bool) : State.Same s (State.startSlice s die site grant rehearsed) := by
  unfold State.startSlice
  dsimp only
  repeat' split
  all_goals refine ⟨?_, ?_, ?_⟩ <;> simp

@[simp] theorem State.unloadTile_same (s : State) (die t : Nat) : State.Same s (State.unloadTile s die t) := by
  unfold State.unloadTile; (try dsimp only)
  repeat' split
  all_goals first | (refine ⟨?_, ?_, ?_⟩ <;> simp; done) | (refine ⟨?_, ?_, ?_⟩ <;> simp [*]; done) | (refine foldl_same (fun s x => ?_) _ _; (repeat' split) <;> refine ⟨?_, ?_, ?_⟩ <;> simp)

@[simp] theorem State.dropSpare_keeps (s : State) (die site : Nat) : State.Keeps s (State.dropSpare s die site) := by
  unfold State.dropSpare
  dsimp only
  split <;> refine ⟨?_, ?_, fun hw => ?_⟩ <;> simp [*]

@[simp] theorem State.dropReplay_same (s : State) (die site : Nat) : State.Same s (State.dropReplay s die site) := by
  unfold State.dropReplay
  refine ⟨?_, ?_, ?_⟩ <;> simp

@[simp] theorem State.endRetest_same (s : State) (u : Nat) : State.Same s (State.endRetest s u) := by
  unfold State.endRetest
  refine ⟨?_, ?_, ?_⟩ <;> simp

@[simp] theorem State.endSlice_keeps (s : State) (die site result durUs : Nat) (fails : List Nat) : State.Keeps s (State.endSlice s die site result durUs fails) := by
  unfold State.endSlice
  dsimp only
  repeat' split
  all_goals refine ⟨?_, ?_, fun hw => ?_⟩ <;> simp [*]

@[simp] theorem State.reportDelay_keeps (s : State) (die tile ns : Nat) : State.Keeps s (State.reportDelay s die tile ns) := by
  suffices h : State.KeepsD s (s.reportDelay die tile ns) from h.out
  unfold State.reportDelay; dsimp only
  refine keepsD_trans ?_ (foldl_keepsD (fun s c => ⟨keeps_of_same (State.updGraph_same _ _ _)⟩) _ _)
  refine keepsD_trans ?_ ⟨keeps_of_same (State.markNodes_same _ _ _ _ _)⟩
  exact foldl_keepsD (fun s c => ⟨keeps_trans (State.postEvent_keeps _ _ _) (keeps_of_same (same_trans (same_trans (State.ndcTiming_same _ _) (State.count_same _ _ _ _ _)) (State.tally_same _ _ _ _)))⟩) _ s

@[simp] theorem State.addSpare_same (s : State) (die site : Nat) : State.Same s (State.addSpare s die site) := by
  unfold State.addSpare
  split <;> refine ⟨?_, ?_, ?_⟩ <;> simp

@[simp] theorem State.abortSlices_keeps (s : State) : State.Keeps s (State.abortSlices s) := by
  unfold State.abortSlices
  refine foldl_keeps (fun s x => ?_) _ _
  refine ⟨?_, ?_, fun hw => ?_⟩ <;> simp [*]



-- ---------------------------------------------------------------- Machine/Integrity.lean

@[simp] theorem State.countDip_same (s : State) (supply : Nat) (rehearsal : Bool) : State.Same s (State.countDip s supply rehearsal) := by
  suffices h : State.SameD s (s.countDip supply rehearsal) from h.out
  unfold State.countDip; dsimp only
  have hl : ∀ (s : State) (a : AccRec), State.SameD s (s.logAcc a) := fun s a => ⟨State.logAcc_same _ _⟩
  have h1 : ∀ (s : State) (a : AccRec), State.SameD s ((s.logAcc a).count 0x80C0 5 supply 1) := fun s a => sameD_trans (hl _ _) ⟨id (State.count_same _ _ _ _ _)⟩
  have hc : ∀ (s : State) (k : Curator), State.SameD s ({ s with cur := k } : State) := fun s k => ⟨rfl, rfl, rfl⟩
  have hr : ∀ (s : State) (n : Nat), State.SameD s ((List.range n).foldl (fun s d => s.raiseOpen d 1 true) s) := fun s n => foldl_sameD (fun s d => ⟨id (State.raiseOpen_same _ _ _ _)⟩) _ s
  have h2 := fun (a : AccRec) (k : Curator) => sameD_trans (h1 s a) (hc _ k)
  split
  · split
    · exact sameD_trans (sameD_trans (sameD_trans (h2 _ _) (hc _ _)) (hl _ _)) (hr _ _)
    · exact sameD_trans (sameD_trans (h2 _ _) (hc _ _)) (hl _ _)
  · exact h2 _ _

@[simp] theorem State.coreDip_same (s : State) (rehearsal : Bool) : State.Same s (State.coreDip s rehearsal) := by
  unfold State.coreDip
  split <;> refine ⟨?_, ?_, ?_⟩ <;> simp

@[simp] theorem State.startStretch_keeps (s : State) (rehearsal : Bool) : State.Keeps s (State.startStretch s rehearsal) := by
  suffices h : State.KeepsD s (s.startStretch rehearsal) from h.out
  unfold State.startStretch; dsimp only
  have hr : ∀ (s : State) (n : Nat), State.KeepsD s ((List.range n).foldl (fun s d => s.raiseOpen d 0 true) s) := fun s n => foldl_keepsD (fun s d => ⟨keeps_of_same (State.raiseOpen_same _ _ _ _)⟩) _ s
  have hc : ∀ (s : State) (p : Power) (t : SMap Tile), State.KeepsD s ({ s with pwr := p, tiles := t } : State) := fun s p t => ⟨rfl, rfl, id⟩
  refine keepsD_trans ?_ ⟨State.abortSlices_keeps _⟩
  refine keepsD_trans ?_ (hr _ _)
  exact keepsD_trans ⟨keeps_of_same (State.coreDip_same _ _)⟩ (hc _ _ _)

@[simp] theorem State.endStretch_same (s : State) : State.Same s (State.endStretch s) := by
  unfold State.endStretch
  refine foldl_same (fun s x => ?_) _ _
  refine ⟨?_, ?_, ?_⟩ <;> simp

@[simp] theorem State.saveScores_same (s : State) : State.Same s (State.saveScores s) := by
  unfold State.saveScores
  refine ⟨?_, ?_, ?_⟩ <;> simp

@[simp] theorem State.deferUnit_same (s : State) (u n : Nat) : State.Same s (State.deferUnit s u n) := by
  unfold State.deferUnit
  dsimp only
  split
  · refine ⟨?_, ?_, ?_⟩ <;> simp
  · split <;> refine ⟨?_, ?_, ?_⟩ <;> simp

@[simp] theorem State.retireUnit_keeps (s : State) (u : Nat) (hard : Bool) (before : Nat) : State.Keeps s (State.retireUnit s u hard before) := by
  unfold State.retireUnit
  dsimp only
  repeat' split
  all_goals refine ⟨?_, ?_, fun hw => ?_⟩ <;> simp [*]

@[simp] theorem State.reaccession_same (s : State) (v : Nat) : State.Same s (State.reaccession s v) := by
  unfold State.reaccession
  split <;> refine ⟨?_, ?_, ?_⟩ <;> simp

@[simp] theorem State.licInstall_same (s : State) (record : Nat) : State.Same s (State.licInstall s record) := by
  unfold State.licInstall
  dsimp only
  split
  · refine ⟨?_, ?_, ?_⟩ <;> simp
  · split <;> refine ⟨?_, ?_, ?_⟩ <;> simp



-- ---------------------------------------------------------------- Machine/SelfTest.lean

@[simp] theorem State.checkFailed_same (s : State) (check unit : Nat) : State.Same s (State.checkFailed s check unit) := by
  unfold State.checkFailed
  refine ⟨?_, ?_, ?_⟩ <;> simp

@[simp] theorem State.failWl_keeps (s : State) (port mask : Nat) : State.Keeps s (State.failWl s port mask) := by
  unfold State.failWl
  dsimp only
  split <;> refine ⟨?_, ?_, fun hw => ?_⟩ <;> simp [*]

@[simp] theorem State.logCheck_same (s : State) (check unit : Nat) : State.Same s (State.logCheck s check unit) := by
  unfold State.logCheck
  split <;> refine ⟨?_, ?_, ?_⟩ <;> simp

@[simp] theorem State.scoreCheck_same (s : State) (u : Nat) : State.Same s (State.scoreCheck s u) := by
  unfold State.scoreCheck
  dsimp only
  split <;> refine ⟨?_, ?_, ?_⟩ <;> simp

@[simp] theorem State.checkFailedTwice_keeps (s : State) (check unit : Nat) : State.Keeps s (State.checkFailedTwice s check unit) := by
  suffices h : State.KeepsD s (s.checkFailedTwice check unit) from h.out
  unfold State.checkFailedTwice; dsimp only
  have h2 : State.KeepsD s (if (checkUnits check unit).isEmpty then (s.count 0x80D0 6 0 1).logCheck check unit
      else (checkUnits check unit).foldl State.scoreCheck (s.count 0x80D0 6 0 1)) := by
    refine keepsD_trans ⟨keeps_of_same (State.count_same s 0x80D0 6 0 1)⟩ ?_
    exact keepsD_ite ⟨keeps_of_same (State.logCheck_same _ _ _)⟩ (foldl_keepsD (fun s u => ⟨keeps_of_same (State.scoreCheck_same _ _)⟩) _ _)
  refine keepsD_trans h2 ?_
  generalize (if (checkUnits check unit).isEmpty then (s.count 0x80D0 6 0 1).logCheck check unit
      else (checkUnits check unit).foldl State.scoreCheck (s.count 0x80D0 6 0 1)) = s2
  split
  · exact ⟨keeps_of_same (State.updPortF_same _ _ _)⟩
  · exact ⟨State.failWl_keeps _ _ _⟩
  · exact ⟨rfl, rfl, id⟩
  · exact ⟨rfl, rfl, id⟩

@[simp] theorem State.rehStatus_same (s : State) (r code : Nat) : State.Same s (State.rehStatus s r code) := by
  unfold State.rehStatus
  refine ⟨?_, ?_, ?_⟩ <;> simp

@[simp] theorem State.addRehLog_same (s : State) (e : BitVec 256) : State.Same s (State.addRehLog s e) := by
  unfold State.addRehLog
  refine ⟨?_, ?_, ?_⟩ <;> simp

@[simp] theorem State.rehEvent_keeps (s : State) (r phase mask : Nat) : State.Keeps s (State.rehEvent s r phase mask) := by
  unfold State.rehEvent
  refine foldl_keeps (fun s x => ?_) _ _
  refine ⟨?_, ?_, fun hw => ?_⟩ <;> simp [*]

@[simp] theorem State.injApply_keeps (s : State) (r : Nat) : State.Keeps s (State.injApply s r) := by
  unfold State.injApply
  dsimp only
  repeat' split
  all_goals refine ⟨?_, ?_, fun hw => ?_⟩ <;> simp [*]

@[simp] theorem State.injStop_same (s : State) (r : Nat) : State.Same s (State.injStop s r) := by
  unfold State.injStop
  dsimp only
  repeat' split
  all_goals refine ⟨?_, ?_, ?_⟩ <;> simp

@[simp] theorem State.injStart_keeps (s : State) (r : Nat) : State.Keeps s (State.injStart s r) := by
  unfold State.injStart
  refine ⟨?_, ?_, fun hw => ?_⟩ <;> simp [*]

@[simp] theorem State.injRefuse_same (s : State) (r code : Nat) : State.Same s (State.injRefuse s r code) := by
  unfold State.injRefuse
  refine ⟨?_, ?_, ?_⟩ <;> simp

@[simp] theorem State.giveBack_same (s : State) (u : Nat) : State.Same s (State.giveBack s u) := by
  unfold State.giveBack
  dsimp only
  split <;> refine ⟨?_, ?_, ?_⟩ <;> simp

@[simp] theorem State.setInject_same (s : State) (i : Inject) (y : Option Inject) : State.Same s (State.setInject s i y) := by
  unfold State.setInject
  refine ⟨?_, ?_, ?_⟩ <;> simp

@[simp] theorem State.giveBackAll_same (s : State) : State.Same s (State.giveBackAll s) := by
  unfold State.giveBackAll; (try dsimp only)
  repeat' split
  all_goals first | (refine ⟨?_, ?_, ?_⟩ <;> simp; done) | (refine ⟨?_, ?_, ?_⟩ <;> simp [*]; done) | (refine foldl_same (fun s x => ?_) _ _; (repeat' split) <;> refine ⟨?_, ?_, ?_⟩ <;> simp)

@[simp] theorem State.injEnd_keeps (s : State) (i : Inject) (cancelled : Bool) : State.Keeps s (State.injEnd s i cancelled) := by
  unfold State.injEnd
  dsimp only
  repeat' split
  all_goals refine ⟨?_, ?_, fun hw => ?_⟩ <;> simp [*]

@[simp] theorem State.inject_keeps (s : State) (r : Nat) : State.Keeps s (State.inject s r) := by
  unfold State.inject
  dsimp only
  repeat' split
  all_goals refine ⟨?_, ?_, fun hw => ?_⟩ <;> simp [*]

@[simp] theorem State.injectKind_keeps (s : State) (k r : Nat) : State.Keeps s (State.injectKind s k r) := by
  unfold State.injectKind
  split <;> refine ⟨?_, ?_, fun hw => ?_⟩ <;> simp [*]

@[simp] theorem State.writeConsent_same (s : State) (c v : Nat) : State.Same s (State.writeConsent s c v) := by
  unfold State.writeConsent
  refine ⟨?_, ?_, ?_⟩ <;> simp



-- ---------------------------------------------------------------- Machine/Power.lean

@[simp] theorem State.enter_same (s : State) (st : ModSt) (phase : Nat) : State.Same s (State.enter s st phase) := by
  unfold State.enter
  split <;> refine ⟨?_, ?_, ?_⟩ <;> simp

@[simp] theorem State.fault_same (s : State) (code : Nat) : State.Same s (State.fault s code) := by
  unfold State.fault
  refine ⟨?_, ?_, ?_⟩ <;> simp

@[simp] theorem State.storeRwp_same (s : State) : State.Same s (State.storeRwp s) := by
  unfold State.storeRwp
  split <;> refine ⟨?_, ?_, ?_⟩ <;> simp

@[simp] theorem State.appendAll_keeps (s : State) : State.Keeps s (State.appendAll s) := by
  suffices h : State.KeepsD s s.appendAll from h.out
  unfold State.appendAll; dsimp only
  have hc : ∀ (s : State) (k : Curator), State.KeepsD s ({ s with cur := k } : State) := fun s k => ⟨rfl, rfl, id⟩
  exact keepsD_trans (foldl_keepsD (fun s p => ⟨State.appendOwed_keeps _ _⟩) _ _) (hc _ _)

@[simp] theorem State.wipe_keeps (s0 : State) : State.Keeps s0 (State.wipe s0) := by
  suffices h : State.KeepsD s0 s0.wipe from h.out
  unfold State.wipe; dsimp only
  have h : State.Keeps s0 s0.appendAll.storeRwp := by first | exact keeps_trans (State.appendAll_keeps _) (keeps_of_same (State.storeRwp_same _)) | exact keeps_of_same (same_trans (State.appendAll_same _) (State.storeRwp_same _))
  exact ⟨h.1, h.2.1, fun _ => rfl⟩

@[simp] theorem State.moduleReset_keeps (s : State) (st : ModSt) : State.Keeps s (State.moduleReset s st) := by
  unfold State.moduleReset
  refine ⟨?_, ?_, fun hw => ?_⟩ <;> simp [*]

@[simp] theorem State.hold_keeps (s : State) (code : Nat) : State.Keeps s (State.hold s code) := by
  unfold State.hold
  refine ⟨?_, ?_, fun hw => ?_⟩ <;> simp [*]

@[simp] theorem State.coldStart_same (s : State) : State.Same s (State.coldStart s) := by
  unfold State.coldStart
  refine ⟨?_, ?_, ?_⟩ <;> simp

@[simp] theorem State.abortAll_keeps (s : State) : State.Keeps s (State.abortAll s) := by
  unfold State.abortAll
  refine foldl_keeps (fun s x => ?_) _ _
  refine ⟨?_, ?_, fun hw => ?_⟩ <;> simp [*]

@[simp] theorem State.loadObjs_same (s : State) : State.Same s (State.loadObjs s) := by
  unfold State.loadObjs
  refine ⟨?_, ?_, ?_⟩ <;> simp

@[simp] theorem State.bootMonitor_same (s : State) : State.Same s (State.bootMonitor s) := by
  unfold State.bootMonitor
  refine ⟨?_, ?_, ?_⟩ <;> simp

@[simp] theorem State.sequenceFault_keeps (s : State) : State.Keeps s (State.sequenceFault s) := by
  unfold State.sequenceFault
  split <;> refine ⟨?_, ?_, fun hw => ?_⟩ <;> simp [*]

@[simp] theorem State.powerOff_keeps (s : State) : State.Keeps s (State.powerOff s) := by
  unfold State.powerOff
  refine ⟨?_, ?_, fun hw => ?_⟩ <;> simp [*]

@[simp] theorem State.nextPhase_same (s : State) (n : Nat) : State.Same s (State.nextPhase s n) := by
  unfold State.nextPhase
  refine ⟨?_, ?_, ?_⟩ <;> simp

@[simp] theorem State.bootLine_same (s : State) : State.Same s (State.bootLine s) := by
  unfold State.bootLine
  refine ⟨?_, ?_, ?_⟩ <;> simp

@[simp] theorem State.bootController_same (s : State) : State.Same s (State.bootController s) := by
  unfold State.bootController
  split <;> refine ⟨?_, ?_, ?_⟩ <;> simp

@[simp] theorem State.trainHosts_same (s : State) : State.Same s (State.trainHosts s) := by
  unfold State.trainHosts
  refine foldl_same (fun s x => ?_) _ _
  split <;> refine ⟨?_, ?_, ?_⟩ <;> simp

@[simp] theorem State.noteAtTest_same (s : State) (u : Nat) : State.Same s (State.noteAtTest s u) := by
  unfold State.noteAtTest
  refine ⟨?_, ?_, ?_⟩ <;> simp

@[simp] theorem State.appendAtTest_same (s : State) (u : Nat) (noSpare : Bool) : State.Same s (State.appendAtTest s u noSpare) := by
  unfold State.appendAtTest
  refine ⟨?_, ?_, ?_⟩ <;> simp

@[simp] theorem State.retireAtTest_same (s : State) (u : Nat) : State.Same s (State.retireAtTest s u) := by
  unfold State.retireAtTest
  refine ⟨?_, ?_, ?_⟩ <;> simp

@[simp] theorem State.remapDie_same (s : State) (d : Nat) : State.Same s (State.remapDie s d) := by
  unfold State.remapDie
  refine ⟨?_, ?_, ?_⟩ <;> simp

@[simp] theorem State.bist_same (s : State) (kind durationMs : Nat) (failed retested coverage fails : List Nat) : State.Same s (State.bist s kind durationMs failed retested coverage fails) := by
  suffices h : State.SameD s (s.bist kind durationMs failed retested coverage fails) from h.out
  unfold State.bist; dsimp only
  have h1 := fun s : State => foldl_sameD (f := State.noteAtTest) (fun s u => ⟨State.noteAtTest_same s u⟩) failed s
  have h2 : ∀ (s : State) (n : Nat), State.SameD s ((List.range n).foldl State.remapDie s) := fun s n => foldl_sameD (fun s d => ⟨State.remapDie_same s d⟩) _ s
  have h3 : ∀ (s : State), State.SameD s (retested.foldl (fun s u => s.setScore u s.probation) s) := fun s => foldl_sameD (fun s u => ⟨State.setScore_same _ _ _⟩) retested s
  have h4 : ∀ (s : State) (n : Nat), State.SameD s ((List.range n).foldl State.bootRoutes s) := fun s n => foldl_sameD (fun s d => ⟨State.bootRoutes_same s d⟩) _ s
  have h5 : ∀ (s : State) (g : State → Nat → Bool), State.SameD s (failed.foldl (fun t u => t.appendAtTest u (g t u)) s) := fun s g => foldl_sameD (fun s u => ⟨State.appendAtTest_same _ _ _⟩) failed s
  have hc : ∀ (s : State) (t : SelfTest), State.SameD s ({ s with test := t } : State) := fun s t => ⟨rfl, rfl, rfl⟩
  refine sameD_trans ?_ (hc _ _)
  refine sameD_trans ?_ (h3 _)
  refine sameD_trans ?_ (h5 _ _)
  exact sameD_trans (sameD_trans (h1 _) (h2 _ _)) (h4 _ _)

@[simp] theorem State.restoreScores_same (s : State) : State.Same s (State.restoreScores s) := by
  unfold State.restoreScores
  refine foldl_same (fun s x => ?_) _ _
  split <;> refine ⟨?_, ?_, ?_⟩ <;> simp

@[simp] theorem State.zeroTiles_keeps (s : State) : State.Keeps s (State.zeroTiles s) := by
  unfold State.zeroTiles
  refine ⟨?_, ?_, fun hw => ?_⟩ <;> simp [*]

@[simp] theorem State.calibratePort_same (s : State) (wl : List (Nat × Nat)) (p : Nat) : State.Same s (State.calibratePort s wl p) := by
  unfold State.calibratePort
  split
  · refine ⟨?_, ?_, ?_⟩ <;> simp
  · split <;> refine ⟨?_, ?_, ?_⟩ <;> simp

@[simp] theorem State.powerCmd_keeps (s : State) (v : Nat) : State.Keeps s (State.powerCmd s v) := by
  unfold State.powerCmd
  split
  · refine ⟨?_, ?_, fun hw => ?_⟩ <;> simp [*]
  · split <;> refine ⟨?_, ?_, fun hw => ?_⟩ <;> simp [*]

@[simp] theorem State.sleepRequest_keeps (s : State) : State.Keeps s (State.sleepRequest s) := by
  unfold State.sleepRequest
  split <;> refine ⟨?_, ?_, fun hw => ?_⟩ <;> simp [*]

@[simp] theorem State.resetRequest_keeps (s : State) (v : Nat) : State.Keeps s (State.resetRequest s v) := by
  unfold State.resetRequest
  split <;> refine ⟨?_, ?_, fun hw => ?_⟩ <;> simp [*]



-- ---------------------------------------------------------------- Machine/WarmReset.lean

@[simp] theorem State.warmCmd_keeps (s : State) (v : Nat) : State.Keeps s (State.warmCmd s v) := by
  suffices h : State.KeepsD s (s.warmCmd v) from h.out
  unfold State.warmCmd; dsimp only
  have hp : ∀ (s : State) (p : Power), State.KeepsD s ({ s with pwr := p } : State) := fun s p => ⟨rfl, rfl, id⟩
  split
  · refine keepsD_trans ?_ ⟨by first | exact State.enter_keeps _ _ _ | exact keeps_of_same (State.enter_same _ _ _)⟩
    refine keepsD_trans ?_ ⟨keeps_of_same (State.updCtx_same _ _ _)⟩
    refine keepsD_trans ?_ ⟨State.abortColls_keeps _ _ _⟩
    refine keepsD_trans ?_ (foldl_keepsD (fun s j => ⟨keeps_of_same (State.updCtx_same _ _ _)⟩) _ _)
    exact keepsD_trans (hp _ _) (foldl_keepsD (fun s j => ⟨State.startReset_keeps _ _ _ _ _ _ _⟩) _ _)
  · exact ⟨rfl, rfl, id⟩

@[simp] theorem State.selfRefreshAll_same (s : State) : State.Same s (State.selfRefreshAll s) := by
  unfold State.selfRefreshAll
  refine ⟨?_, ?_, ?_⟩ <;> simp

@[simp] theorem State.holdDies_same (s : State) : State.Same s (State.holdDies s) := by
  unfold State.holdDies
  refine ⟨?_, ?_, ?_⟩ <;> simp

@[simp] theorem State.warmClearCtx_keeps (s : State) (c : Nat) : State.Keeps s (State.warmClearCtx s c) := by
  unfold State.warmClearCtx
  split <;> refine ⟨?_, ?_, fun hw => ?_⟩ <;> simp [*]



-- ---------------------------------------------------------------- Machine/Idle.lean

@[simp] theorem State.throttled_same (s old : State) : State.Same s (State.throttled s old) := by
  unfold State.throttled
  split <;> refine ⟨?_, ?_, ?_⟩ <;> simp

@[simp] theorem State.judgeGroup_same (s : State) (g : Nat) : State.Same s (State.judgeGroup s g) := by
  unfold State.judgeGroup
  refine ⟨?_, ?_, ?_⟩ <;> simp

@[simp] theorem State.noteFloor_same (s : State) : State.Same s (State.noteFloor s) := by
  unfold State.noteFloor
  refine ⟨?_, ?_, ?_⟩ <;> simp

@[simp] theorem State.shutdown_keeps (s : State) : State.Keeps s (State.shutdown s) := by
  unfold State.shutdown
  refine ⟨?_, ?_, fun hw => ?_⟩ <;> simp [*]

@[simp] theorem State.freePoison_same (s : State) (a n : Nat) : State.Same s (State.freePoison s a n) := by
  unfold State.freePoison
  refine ⟨?_, ?_, ?_⟩ <;> simp

@[simp] theorem State.enterIdle_keeps (s : State) (die site n : Nat) : State.Keeps s (State.enterIdle s die site n) := by
  unfold State.enterIdle
  dsimp only
  repeat' split
  all_goals refine ⟨?_, ?_, fun hw => ?_⟩ <;> simp [*]

@[simp] theorem State.dimPort_same (s : State) (p : Nat) : State.Same s (State.dimPort s p) := by
  unfold State.dimPort
  split <;> refine ⟨?_, ?_, ?_⟩ <;> simp

@[simp] theorem State.wakeTooDeep_same (s : State) : State.Same s (State.wakeTooDeep s) := by
  suffices h : State.SameD s s.wakeTooDeep from h.out
  unfold State.wakeTooDeep; dsimp only
  split
  · exact ⟨rfl, rfl, rfl⟩
  · exact sameD_trans ⟨State.leaveIs4_same _⟩ (foldl_sameD (fun s p => ⟨State.updSite_same _ _ _ _⟩) _ _)

@[simp] theorem State.writeWakeUs_same (s : State) (ctx value : Nat) : State.Same s (State.writeWakeUs s ctx value) := by
  unfold State.writeWakeUs
  refine ⟨?_, ?_, ?_⟩ <;> simp



-- ---------------------------------------------------------------- Machine/Host.lean

@[simp] theorem State.hostRefuse_same (s : State) (p f status : Nat) (answered : Bool) : State.Same s (State.hostRefuse s p f status answered) := by
  unfold State.hostRefuse
  split <;> refine ⟨?_, ?_, ?_⟩ <;> simp

@[simp] theorem State.hostRefused_same (s : State) (p f status : Nat) (fenced idle slice answered : Bool) : State.Same s (State.hostRefused s p f status fenced idle slice answered) := by
  unfold State.hostRefused
  repeat' split
  all_goals refine ⟨?_, ?_, ?_⟩ <;> simp

@[simp] theorem State.hostTurnAway_same (s : State) (p f off n status : Nat) (fenced idle slice answered : Bool) : State.Same s (State.hostTurnAway s p f off n status fenced idle slice answered) := by
  unfold State.hostTurnAway
  split <;> refine ⟨?_, ?_, ?_⟩ <;> simp

@[simp] theorem State.hostRead_same (s : State) (p f a n : Nat) : State.Same s (State.hostRead s p f a n) := by
  unfold State.hostRead
  dsimp only
  repeat' split
  all_goals refine ⟨?_, ?_, ?_⟩ <;> simp

@[simp] theorem State.hostWrite_keeps (s : State) (p f a : Nat) (bytes : List Nat) (ep : Bool) : State.Keeps s (State.hostWrite s p f a bytes ep) := by
  unfold State.hostWrite
  dsimp only
  repeat' split
  all_goals refine ⟨?_, ?_, fun hw => ?_⟩ <;> simp [*]

@[simp] theorem State.hostAtomic_keeps (s : State) (p f a size op x cmp : Nat) : State.Keeps s (State.hostAtomic s p f a size op x cmp) := by
  suffices h : State.KeepsD s (s.hostAtomic p f a size op x cmp) from h.out
  unfold State.hostAtomic; dsimp only
  have hw : State.KeepsD s ((s.wakeFor a).atomic f (p * 16 + f) a size op x cmp).1 := keepsD_trans ⟨keeps_of_same (State.wakeFor_same _ _)⟩ ⟨State.atomic_keeps _ _ _ _ _ _ _ _⟩
  have hn : ∀ (s : State) (a b e n : Nat), State.KeepsD s (s.count a b e n) := fun s a b e n => ⟨keeps_of_same (State.count_same _ _ _ _ _)⟩
  have he : ∀ (s : State) (o : Output), State.KeepsD s (s.emit o) := fun s o => ⟨keeps_of_same (State.emit_same _ _)⟩
  split
  · refine keepsD_trans ?_ (he _ _)
    refine keepsD_trans ?_ ⟨keeps_of_same (State.takeFree_same _ _)⟩
    refine keepsD_trans ?_ (hn _ _ _ _ _)
    refine keepsD_trans ?_ (hn _ _ _ _ _)
    exact keepsD_ite (keepsD_trans hw (hn _ _ _ _ _)) ⟨keeps_of_same (State.wakeFor_same _ _)⟩
  · refine keepsD_trans ?_ (he _ _)
    have h0 := keepsD_trans hw (hn _ 0x80F0 4 f 1)
    exact keepsD_ite (keepsD_trans h0 (hn _ _ _ _ _)) h0

theorem hostGate_same {s t : State} {p f : Nat} {z : Option Nat} (h : s.hostGate p f z = some t) : State.Same s t := by
  unfold State.hostGate at h
  (repeat' split at h) <;> first | (cases h; done) | (cases h; exact ⟨rfl, rfl, rfl⟩) | (cases h; exact State.emit_same _ _)

@[simp] theorem State.hostTry_keeps (s : State) (p : Nat) (r : HostReq) : State.Keeps s (State.hostTry s p r).1 := by
  unfold State.hostTry
  split
  · rename_i s1 h; exact keeps_of_same (hostGate_same h)
  · split
    · exact State.writeAny_keeps _ _ _ _ _
    · split
      · exact keeps_of_same (State.hostTurnAway_same _ _ _ _ _ _ _ _ _ _)
      · exact keeps_of_same (State.hbmDelay_same _ _ _ _)
      · split
        · exact keeps_of_same (State.hostRead_same _ _ _ _ _)
        · exact State.hostWrite_keeps _ _ _ _ _ _
        · exact State.hostAtomic_keeps _ _ _ _ _ _ _ _

@[simp] theorem State.hostKeep_same (s : State) (p : Nat) (r : HostReq) : State.Same s (State.hostKeep s p r) := by
  unfold State.hostKeep
  refine ⟨?_, ?_, ?_⟩ <;> simp

@[simp] theorem State.hostRun_keeps (s : State) (p : Nat) (x0 : List HostReq) : State.Keeps s (State.hostRun s p x0) := by
  induction x0 generalizing s with
  | nil => exact ⟨rfl, rfl, id⟩
  | cons r rs ih =>
    unfold State.hostRun; dsimp only
    split
    · exact keeps_trans (keeps_of_same (State.hostKeep_same _ _ _)) (ih _)
    · refine keeps_trans ?_ (ih _)
      split
      · exact State.hostTry_keeps _ _ _
      · exact keeps_trans (State.hostTry_keeps _ _ _) (keeps_of_same (State.hostKeep_same _ _ _))

@[simp] theorem State.hostDrain_keeps (s : State) (p : Nat) : State.Keeps s (State.hostDrain s p) := by
  unfold State.hostDrain
  split <;> refine ⟨?_, ?_, fun hw => ?_⟩ <;> simp [*]

@[simp] theorem State.hostDrainAll_keeps (s : State) : State.Keeps s (State.hostDrainAll s) := by
  unfold State.hostDrainAll
  refine ⟨?_, ?_, fun hw => ?_⟩ <;> simp [*]

@[simp] theorem State.hostPost_keeps (s : State) (p : Nat) (r : HostReq) : State.Keeps s (State.hostPost s p r) := by
  unfold State.hostPost
  dsimp only
  repeat' split
  all_goals refine ⟨?_, ?_, fun hw => ?_⟩ <;> simp [*]

@[simp] theorem State.bar0Write_keeps (s : State) (p f off : Nat) (bytes : List Nat) : State.Keeps s (State.bar0Write s p f off bytes) := by
  unfold State.bar0Write
  refine ⟨?_, ?_, fun hw => ?_⟩ <;> simp [*]

@[simp] theorem State.resetBound_keeps (s : State) (p : Nat) : State.Keeps s (State.resetBound s p) := by
  unfold State.resetBound; (try dsimp only)
  repeat' split
  all_goals first | exact ⟨by simp, by simp, fun hw => by simp (maxDischargeDepth := 30) [hw]⟩ | exact ⟨by simp [*], by simp [*], fun hw => by simp (maxDischargeDepth := 30) [hw, *]⟩ | (refine foldl_keeps (fun s x => ?_) _ _; (repeat' split) <;> exact ⟨by simp, by simp, fun hw => by simp (maxDischargeDepth := 30) [hw]⟩)

@[simp] theorem State.resetBoundIf_keeps (s : State) (p : Nat) : State.Keeps s (State.resetBoundIf s p) := by
  unfold State.resetBoundIf
  split <;> refine ⟨?_, ?_, fun hw => ?_⟩ <;> simp [*]

@[simp] theorem State.clearVfEnable_keeps (s : State) (port : Nat) : State.Keeps s (State.clearVfEnable s port) := by
  unfold State.clearVfEnable
  split <;> refine ⟨?_, ?_, fun hw => ?_⟩ <;> simp [*]



-- ---------------------------------------------------------------- Machine/Dielfen.lean

@[simp] theorem State.applyElem_keeps (s : State) (index sub el v : Nat) : State.Keeps s (State.applyElem s index sub el v).1 := by
  unfold State.applyElem
  dsimp only
  repeat' split
  all_goals refine ⟨?_, ?_, fun hw => ?_⟩ <;> simp [*]

@[simp] theorem State.writeKey_same (s : State) (slot v : Nat) : State.Same s (State.writeKey s slot v) := by
  unfold State.writeKey
  split <;> refine ⟨?_, ?_, ?_⟩ <;> simp

@[simp] theorem State.keyWrite_same (s : State) (path slot v : Nat) : State.Same s (State.keyWrite s path slot v).1 := by
  unfold State.keyWrite
  split
  · refine ⟨?_, ?_, ?_⟩ <;> simp
  · split <;> refine ⟨?_, ?_, ?_⟩ <;> simp

@[simp] theorem State.writeElems_keeps (s : State) (r : ObjRow) (first : Nat) (vals : List Nat) : State.Keeps s (State.writeElems s r first vals).1 := by
  unfold State.writeElems; dsimp only
  split
  · exact ⟨rfl, rfl, id⟩
  · split
    · exact ⟨rfl, rfl, id⟩
    · exact foldl_keepsP (f := fun (acc : State × Bool) (e : Nat × Nat) => ((acc.1.applyElem r.index r.sub e.1 e.2).1, acc.2 && (acc.1.applyElem r.index r.sub e.1 e.2).2)) (fun acc e => State.applyElem_keeps _ _ _ _ _) _ (s, true)

@[simp] theorem State.dfSet_keeps (s : State) (priv who index sub ty : Nat) (data : List Nat) : State.Keeps s (State.dfSet s priv who index sub ty data).1 := by
  unfold State.dfSet
  repeat' split
  all_goals refine ⟨?_, ?_, fun hw => ?_⟩ <;> simp [*]

@[simp] theorem State.takeSnap_same (s : State) (who : Nat) (r : ObjRow) : State.Same s (State.takeSnap s who r).1 := by
  unfold State.takeSnap
  refine ⟨?_, ?_, ?_⟩ <;> simp

@[simp] theorem State.touchSnap_same (s : State) (x : Snapshot) : State.Same s (State.touchSnap s x) := by
  unfold State.touchSnap
  refine ⟨?_, ?_, ?_⟩ <;> simp

@[simp] theorem State.dfGetSeg_same (s : State) (priv who index sub off len room : Nat) : State.Same s (State.dfGetSeg s priv who index sub off len room).1 := by
  unfold State.dfGetSeg
  dsimp only
  repeat' split
  all_goals refine ⟨?_, ?_, ?_⟩ <;> simp

@[simp] theorem State.dfSetSeg_keeps (s : State) (priv who index sub ty off : Nat) (data : List Nat) : State.Keeps s (State.dfSetSeg s priv who index sub ty off data).1 := by
  unfold State.dfSetSeg
  dsimp only
  repeat' split
  all_goals refine ⟨?_, ?_, fun hw => ?_⟩ <;> simp [*]

theorem State.dfAnswer_keeps (s : State) (o : State × DfResult × List Nat) (h : State.Keeps s o.1) : ∃ t, State.dfAnswer s o = .next t ∧ State.Keeps s t := by
  unfold State.dfAnswer; split
  · exact ⟨_, rfl, keeps_trans h (keeps_of_same (State.emit_same _ _))⟩
  · exact ⟨s, rfl, rfl, rfl, id⟩


-- ---------------------------------------------------------------- Machine/Mgmt.lean

@[simp] theorem State.execRec_keeps (s : State) (priv who room : Nat) (r : DfRec) : State.Keeps s (State.execRec s priv who room r).1 := by
  unfold State.execRec
  dsimp only
  repeat' split
  all_goals refine ⟨?_, ?_, fun hw => ?_⟩ <;> simp [*]

@[simp] theorem State.execRecs_keeps (s : State) (priv who : Nat) (x0 : Nat) (x1 : List DfRec) : State.Keeps s (State.execRecs s priv who x0 x1).1 := by
  induction x1 generalizing s x0 with
  | nil => exact ⟨rfl, rfl, id⟩
  | cons r rs ih => unfold State.execRecs; exact keeps_trans (State.execRec_keeps _ _ _ _ _) (ih _ _)

@[simp] theorem State.updKey_same (s : State) (slot : Nat) (f : KeySlot → KeySlot) : State.Same s (State.updKey s slot f) := by
  unfold State.updKey
  refine ⟨?_, ?_, ?_⟩ <;> simp

@[simp] theorem State.sendT1s_same (s : State) (dest : Nat) (payload : List Nat) : State.Same s (State.sendT1s s dest payload) := by
  unfold State.sendT1s
  refine ⟨?_, ?_, ?_⟩ <;> simp

@[simp] theorem State.answerT1s_same (s : State) (m : Message) (resp : List Nat) : State.Same s (State.answerT1s s m resp) := by
  unfold State.answerT1s
  split <;> refine ⟨?_, ?_, ?_⟩ <;> simp

@[simp] theorem State.answerMailbox_same (s : State) (m : Message) (resp : List Nat) : State.Same s (State.answerMailbox s m resp) := by
  unfold State.answerMailbox
  split <;> refine ⟨?_, ?_, ?_⟩ <;> simp

@[simp] theorem State.answerMsg_same (s : State) (m : Message) (resp : List Nat) : State.Same s (State.answerMsg s m resp) := by
  unfold State.answerMsg
  split <;> refine ⟨?_, ?_, ?_⟩ <;> simp

@[simp] theorem State.runMsg_keeps (s : State) (m : Message) : State.Keeps s (State.runMsg s m) := by
  unfold State.runMsg
  dsimp only
  split <;> refine ⟨?_, ?_, fun hw => ?_⟩ <;> simp [*]

@[simp] theorem State.serveMsg_keeps (s : State) : State.Keeps s (State.serveMsg s) := by
  unfold State.serveMsg
  split <;> refine ⟨?_, ?_, fun hw => ?_⟩ <;> simp [*]

@[simp] theorem State.acceptMsg_same (s : State) (m : Message) : State.Same s (State.acceptMsg s m) := by
  unfold State.acceptMsg
  split <;> refine ⟨?_, ?_, ?_⟩ <;> simp

@[simp] theorem State.judgeFrame_same (s : State) (dest src : Nat) (bs : List Nat) : State.Same s (State.judgeFrame s dest src bs) := by
  unfold State.judgeFrame
  dsimp only
  repeat' split
  all_goals refine ⟨?_, ?_, ?_⟩ <;> simp

@[simp] theorem State.writeMbCtrl_same (s : State) (port fn v : Nat) : State.Same s (State.writeMbCtrl s port fn v) := by
  unfold State.writeMbCtrl
  dsimp only
  repeat' split
  all_goals refine ⟨?_, ?_, ?_⟩ <;> simp



-- ---------------------------------------------------------------- Machine/Monitor.lean

theorem State.monDone_keeps (s : State) (lines : List String) (err : Option MonErr) : ∃ t, State.monDone s lines err = .next t ∧ State.Keeps s t := by
  unfold State.monDone
  refine ⟨_, rfl, ?_, ?_, fun hw => ?_⟩ <;> simp [*]

theorem State.monOk_keeps (s : State) (lines : List String) : ∃ t, State.monOk s lines = .next t ∧ State.Keeps s t := by
  unfold State.monOk
  refine ⟨_, rfl, ?_, ?_, fun hw => ?_⟩ <;> simp [*]

theorem State.monErr_keeps (s : State) (e : MonErr) : ∃ t, State.monErr s e = .next t ∧ State.Keeps s t := by
  unfold State.monErr
  refine ⟨_, rfl, ?_, ?_, fun hw => ?_⟩ <;> simp [*]

@[simp] theorem State.lock_same (s : State) : State.Same s (State.lock s) := by
  unfold State.lock
  refine ⟨?_, ?_, ?_⟩ <;> simp

@[simp] theorem State.loginFailed_same (s : State) : State.Same s (State.loginFailed s) := by
  unfold State.loginFailed
  refine ⟨?_, ?_, ?_⟩ <;> simp

theorem State.loginDenied_keeps (s : State) : ∃ t, State.loginDenied s = .next t ∧ State.Keeps s t := by
  unfold State.loginDenied
  refine ⟨_, rfl, ?_, ?_, fun hw => ?_⟩ <;> simp [*]

theorem State.monLine_keeps (s : State) (f : State → Out) (h : ∀ s, ∃ t, f s = .next t ∧ State.Keeps s t) : ∃ t, State.monLine s f = .next t ∧ State.Keeps s t := by
  unfold State.monLine; split
  · exact ⟨s, rfl, rfl, rfl, id⟩
  · split
    · exact State.loginDenied_keeps s
    · exact h s

theorem State.monPriv_keeps (s : State) (least : Nat) (rom : Bool) (f : State → Out) (h : ∀ s, ∃ t, f s = .next t ∧ State.Keeps s t) : ∃ t, State.monPriv s least rom f = .next t ∧ State.Keeps s t := by
  unfold State.monPriv; refine State.monLine_keeps s _ (fun s => ?_); split
  · exact State.monErr_keeps _ _
  · split
    · exact State.monErr_keeps _ _
    · exact h s

theorem State.drainQueue_keeps (n : Nat) : ∀ s : State, State.Keeps s (State.drainQueue n s) := by
  induction n with
  | zero => exact fun s => ⟨rfl, rfl, id⟩
  | succ n ih => exact fun s => keeps_trans (State.serveMsg_keeps s) (ih _)

theorem State.monObj_keeps (s : State) (least : Nat) (f : State → Out) (h : ∀ s, ∃ t, f s = .next t ∧ State.Keeps s t) : ∃ t, State.monObj s least f = .next t ∧ State.Keeps s t := by
  unfold State.monObj; refine State.monPriv_keeps s _ _ _ (fun s => ?_); split
  · obtain ⟨t, h1, h2⟩ := State.monErr_keeps (s.count 0x8100 0x0C 0 1) (.df .busy)
    exact ⟨t, h1, keeps_trans (keeps_of_same (State.count_same _ _ _ _ _)) h2⟩
  · obtain ⟨t, h1, h2⟩ := h (s.drainQueue s.mgmt.queue.length)
    exact ⟨t, h1, keeps_trans (State.drainQueue_keeps _ _) h2⟩

theorem State.monMsg_keeps (s : State) (f : State → Nat → Out) (h : ∀ s n, ∃ t, f s n = .next t ∧ State.Keeps s t) : ∃ t, State.monMsg s f = .next t ∧ State.Keeps s t := by
  unfold State.monMsg; refine State.monLine_keeps s _ (fun s => ?_); split
  · exact State.monErr_keeps _ _
  · split
    · exact State.monErr_keeps _ _
    · split
      · obtain ⟨t, h1, h2⟩ := State.monErr_keeps (s.count 0x8100 0x0C 0 1) (.df .busy)
        exact ⟨t, h1, keeps_trans (keeps_of_same (State.count_same _ _ _ _ _)) h2⟩
      · obtain ⟨t, h1, h2⟩ := h (s.drainQueue s.mgmt.queue.length) (s.mon.state - 1)
        exact ⟨t, h1, keeps_trans (State.drainQueue_keeps _ _) h2⟩

theorem State.monCtrl_keeps (s : State) (c cmd : Nat) : ∃ t, State.monCtrl s c cmd = .next t ∧ State.Keeps s t := by
  unfold State.monCtrl; refine State.monPriv_keeps s _ _ _ (fun s => ?_); split
  · exact State.monErr_keeps _ _
  · obtain ⟨t, h1, h2⟩ := State.monOk_keeps (s.writeCtrl c cmd) ["CMD_STATUS " ++ dec ((s.writeCtrl c cmd).ctx c).cmdStatus]
    exact ⟨t, h1, keeps_trans (State.writeCtrl_keeps _ _ _) h2⟩

theorem State.peekTurnAway_keeps (s : State) (a : Nat) (word : String) : ∃ t, State.peekTurnAway s a word = .next t ∧ State.Keeps s t := by
  unfold State.peekTurnAway; (try dsimp only)
  repeat' split
  all_goals first | exact ⟨_, rfl, by simp, by simp, fun hw => by simp (maxDischargeDepth := 30) [hw]⟩ | exact ⟨_, rfl, by simp [*], by simp [*], fun hw => by simp (maxDischargeDepth := 30) [hw, *]⟩

theorem State.monReset_keeps (s : State) (now rom : Bool) (f : State → State) (h : ∀ s, State.Keeps s (f s)) : ∃ t, State.monReset s now rom f = .next t ∧ State.Keeps s t := by
  unfold State.monReset; refine State.monPriv_keeps s _ _ _ (fun s => ?_); split
  · exact State.monErr_keeps _ _
  · exact ⟨_, rfl, keeps_trans (keeps_of_same (State.emit_same _ _)) (h _)⟩

theorem State.monTrace_keeps (s : State) (v : Nat) : ∃ t, State.monTrace s v = .next t ∧ State.Keeps s t := by
  unfold State.monTrace; refine State.monPriv_keeps s _ _ _ (fun s => ?_)
  exact State.monOk_keeps { s with mon := { s.mon with trace := v } } []


-- ---------------------------------------------------------------- Machine/RegisterWrite.lean

@[simp] theorem State.retrySignal_same (s : State) (p f v : Nat) : State.Same s (State.retrySignal s p f v) := by
  unfold State.retrySignal
  split <;> refine ⟨?_, ?_, ?_⟩ <;> simp

@[simp] theorem State.writeBar2Word_same (s : State) (p f a b : Nat) (bs : List Nat) : State.Same s (State.writeBar2Word s p f a b bs) := by
  unfold State.writeBar2Word
  repeat' split
  all_goals refine ⟨?_, ?_, ?_⟩ <;> simp

@[simp] theorem State.retryAll_same (s : State) (p f : Nat) : State.Same s (State.retryAll s p f) := by
  unfold State.retryAll
  refine foldl_same (fun s x => ?_) _ _
  refine ⟨?_, ?_, ?_⟩ <;> simp

@[simp] theorem State.writeConfig_keeps (s : State) (p f off v : Nat) : State.Keeps s (State.writeConfig s p f off v) := by
  unfold State.writeConfig; (try dsimp only)
  repeat' split
  all_goals first | exact ⟨by simp, by simp, fun hw => by simp (maxDischargeDepth := 30) [hw]⟩ | exact ⟨by simp [*], by simp [*], fun hw => by simp (maxDischargeDepth := 30) [hw, *]⟩ | (refine foldl_keeps (fun s x => ?_) _ _; (repeat' split) <;> exact ⟨by simp, by simp, fun hw => by simp (maxDischargeDepth := 30) [hw]⟩)



-- ---------------------------------------------------------------- Machine/Tick.lean

@[simp] theorem State.tickDie_same (s : State) (d : Nat) : State.Same s (State.tickDie s d) := by
  unfold State.tickDie
  refine ⟨?_, ?_, ?_⟩ <;> simp

@[simp] theorem State.tickMs_same (s : State) : State.Same s (State.tickMs s) := by
  suffices h : State.SameD s s.tickMs from h.out
  unfold State.tickMs; dsimp only
  have hn : ∀ (s : State) (a b e n : Nat), State.SameD s (s.count a b e n) := fun s a b e n => ⟨State.count_same _ _ _ _ _⟩
  have hi : ∀ (s a b : State) (p : Prop) [Decidable p], State.SameD s a → State.SameD s b → State.SameD s (if p then a else b) := fun s a b p _ ha hb => by split <;> assumption
  refine hi _ _ _ _ ⟨rfl, rfl, rfl⟩ ?_
  have h0 : State.SameD s ([0, 1].foldl (fun s v => if ((if v = 0 then s.pwr.core else s.pwr.io) && s.supplyLow v) = true then s.count 0x80E0 4 v 1 else s) s) :=
    foldl_sameD (fun s v => hi _ _ _ _ (hn _ _ _ _ _) ⟨rfl, rfl, rfl⟩) _ s
  generalize ([0, 1].foldl (fun s v => if ((if v = 0 then s.pwr.core else s.pwr.io) && s.supplyLow v) = true then s.count 0x80E0 4 v 1 else s) s) = s0 at h0 ⊢
  have h1 : State.SameD s (if (s.pwr.powCore || s.pwr.powIo) = true then s0.count 0x80E0 5 0 1 else s0) := hi _ _ _ _ (sameD_trans h0 (hn _ _ _ _ _)) h0
  exact hi _ _ _ _ h1 (sameD_trans h1 (hn _ 0x80E0 6 0 1))

@[simp] theorem State.noteCalm_same (s : State) : State.Same s (State.noteCalm s) := by
  unfold State.noteCalm
  refine ⟨?_, ?_, ?_⟩ <;> simp

@[simp] theorem State.tick_same (s : State) : State.Same s (State.tick s) := by
  suffices h : State.SameD s s.tick from h.out
  unfold State.tick; dsimp only
  have hc : ∀ (s : State) (t : FTime) (f : Fabric), State.SameD s ({ s with time := t, fab := f } : State) := fun s t f => ⟨rfl, rfl, rfl⟩
  have hp : ∀ (s : State) (p : Power), State.SameD s ({ s with pwr := p } : State) := fun s p => ⟨rfl, rfl, rfl⟩
  split
  · exact ⟨rfl, rfl, rfl⟩
  · split
    · exact sameD_trans (hp _ _) ⟨State.tickMs_same _⟩
    · refine sameD_trans (sameD_trans ?_ (hc _ _ _)) (foldl_sameD (fun s d => ⟨State.tickDie_same s d⟩) _ _)
      exact sameD_trans (sameD_trans (hp _ _) ⟨State.tickMs_same _⟩) ⟨State.noteCalm_same _⟩

end Sys2Proof.Machine
end

