-- ==== Sys2Proof/Laws/State.lean ====
section
/-! SUPPORT. What each named update of the state leaves as it is: one lemma per field. -/

namespace Sys2Proof.Machine

variable (s : State)

@[simp] theorem State.emit_factory (o : Output) : (s.emit o).factory = s.factory := rfl
@[simp] theorem State.emit_flash (o : Output) : (s.emit o).flash = s.flash := rfl
@[simp] theorem State.emit_cat (o : Output) : (s.emit o).cat = s.cat := rfl
@[simp] theorem State.emit_pwr (o : Output) : (s.emit o).pwr = s.pwr := rfl
@[simp] theorem State.emit_mem (o : Output) : (s.emit o).mem = s.mem := rfl
@[simp] theorem State.emit_poison (o : Output) : (s.emit o).poison = s.poison := rfl
@[simp] theorem State.emit_tiles (o : Output) : (s.emit o).tiles = s.tiles := rfl
@[simp] theorem State.emit_sites (o : Output) : (s.emit o).sites = s.sites := rfl
@[simp] theorem State.emit_dies (o : Output) : (s.emit o).dies = s.dies := rfl
@[simp] theorem State.emit_ctxs (o : Output) : (s.emit o).ctxs = s.ctxs := rfl
@[simp] theorem State.emit_ctx0 (o : Output) : (s.emit o).ctx0 = s.ctx0 := rfl
@[simp] theorem State.emit_accs (o : Output) : (s.emit o).accs = s.accs := rfl
@[simp] theorem State.emit_nextAcc (o : Output) : (s.emit o).nextAcc = s.nextAcc := rfl
@[simp] theorem State.emit_atomics (o : Output) : (s.emit o).atomics = s.atomics := rfl
@[simp] theorem State.emit_fab (o : Output) : (s.emit o).fab = s.fab := rfl
@[simp] theorem State.emit_time (o : Output) : (s.emit o).time = s.time := rfl
@[simp] theorem State.emit_cur (o : Output) : (s.emit o).cur = s.cur := rfl
@[simp] theorem State.emit_test (o : Output) : (s.emit o).test = s.test := rfl
@[simp] theorem State.emit_host (o : Output) : (s.emit o).host = s.host := rfl
@[simp] theorem State.emit_hbm (o : Output) : (s.emit o).hbm = s.hbm := rfl
@[simp] theorem State.emit_mgmt (o : Output) : (s.emit o).mgmt = s.mgmt := rfl
@[simp] theorem State.emit_mon (o : Output) : (s.emit o).mon = s.mon := rfl
@[simp] theorem State.emit_vheaders (o : Output) : (s.emit o).vheaders = s.vheaders := rfl
@[simp] theorem State.emit_free (o : Output) : (s.emit o).free = s.free := rfl
@[simp] theorem State.emit_pending (o : Output) : (s.emit o).pending = s.pending := rfl

@[simp] theorem State.takeFree_factory (n : Nat) : (s.takeFree n).factory = s.factory := rfl
@[simp] theorem State.takeFree_flash (n : Nat) : (s.takeFree n).flash = s.flash := rfl
@[simp] theorem State.takeFree_cat (n : Nat) : (s.takeFree n).cat = s.cat := rfl
@[simp] theorem State.takeFree_pwr (n : Nat) : (s.takeFree n).pwr = s.pwr := rfl
@[simp] theorem State.takeFree_mem (n : Nat) : (s.takeFree n).mem = s.mem := rfl
@[simp] theorem State.takeFree_poison (n : Nat) : (s.takeFree n).poison = s.poison := rfl
@[simp] theorem State.takeFree_tiles (n : Nat) : (s.takeFree n).tiles = s.tiles := rfl
@[simp] theorem State.takeFree_sites (n : Nat) : (s.takeFree n).sites = s.sites := rfl
@[simp] theorem State.takeFree_dies (n : Nat) : (s.takeFree n).dies = s.dies := rfl
@[simp] theorem State.takeFree_ctxs (n : Nat) : (s.takeFree n).ctxs = s.ctxs := rfl
@[simp] theorem State.takeFree_ctx0 (n : Nat) : (s.takeFree n).ctx0 = s.ctx0 := rfl
@[simp] theorem State.takeFree_accs (n : Nat) : (s.takeFree n).accs = s.accs := rfl
@[simp] theorem State.takeFree_nextAcc (n : Nat) : (s.takeFree n).nextAcc = s.nextAcc := rfl
@[simp] theorem State.takeFree_atomics (n : Nat) : (s.takeFree n).atomics = s.atomics := rfl
@[simp] theorem State.takeFree_fab (n : Nat) : (s.takeFree n).fab = s.fab := rfl
@[simp] theorem State.takeFree_time (n : Nat) : (s.takeFree n).time = s.time := rfl
@[simp] theorem State.takeFree_cur (n : Nat) : (s.takeFree n).cur = s.cur := rfl
@[simp] theorem State.takeFree_test (n : Nat) : (s.takeFree n).test = s.test := rfl
@[simp] theorem State.takeFree_host (n : Nat) : (s.takeFree n).host = s.host := rfl
@[simp] theorem State.takeFree_hbm (n : Nat) : (s.takeFree n).hbm = s.hbm := rfl
@[simp] theorem State.takeFree_mgmt (n : Nat) : (s.takeFree n).mgmt = s.mgmt := rfl
@[simp] theorem State.takeFree_mon (n : Nat) : (s.takeFree n).mon = s.mon := rfl
@[simp] theorem State.takeFree_vheaders (n : Nat) : (s.takeFree n).vheaders = s.vheaders := rfl
@[simp] theorem State.takeFree_out (n : Nat) : (s.takeFree n).out = s.out := rfl
@[simp] theorem State.takeFree_pending (n : Nat) : (s.takeFree n).pending = s.pending := rfl

@[simp] theorem State.setTile_factory (die tile : Nat) (x : Tile) : (s.setTile die tile x).factory = s.factory := rfl
@[simp] theorem State.setTile_flash (die tile : Nat) (x : Tile) : (s.setTile die tile x).flash = s.flash := rfl
@[simp] theorem State.setTile_cat (die tile : Nat) (x : Tile) : (s.setTile die tile x).cat = s.cat := rfl
@[simp] theorem State.setTile_pwr (die tile : Nat) (x : Tile) : (s.setTile die tile x).pwr = s.pwr := rfl
@[simp] theorem State.setTile_mem (die tile : Nat) (x : Tile) : (s.setTile die tile x).mem = s.mem := rfl
@[simp] theorem State.setTile_poison (die tile : Nat) (x : Tile) : (s.setTile die tile x).poison = s.poison := rfl
@[simp] theorem State.setTile_sites (die tile : Nat) (x : Tile) : (s.setTile die tile x).sites = s.sites := rfl
@[simp] theorem State.setTile_dies (die tile : Nat) (x : Tile) : (s.setTile die tile x).dies = s.dies := rfl
@[simp] theorem State.setTile_ctxs (die tile : Nat) (x : Tile) : (s.setTile die tile x).ctxs = s.ctxs := rfl
@[simp] theorem State.setTile_ctx0 (die tile : Nat) (x : Tile) : (s.setTile die tile x).ctx0 = s.ctx0 := rfl
@[simp] theorem State.setTile_accs (die tile : Nat) (x : Tile) : (s.setTile die tile x).accs = s.accs := rfl
@[simp] theorem State.setTile_nextAcc (die tile : Nat) (x : Tile) : (s.setTile die tile x).nextAcc = s.nextAcc := rfl
@[simp] theorem State.setTile_atomics (die tile : Nat) (x : Tile) : (s.setTile die tile x).atomics = s.atomics := rfl
@[simp] theorem State.setTile_fab (die tile : Nat) (x : Tile) : (s.setTile die tile x).fab = s.fab := rfl
@[simp] theorem State.setTile_time (die tile : Nat) (x : Tile) : (s.setTile die tile x).time = s.time := rfl
@[simp] theorem State.setTile_cur (die tile : Nat) (x : Tile) : (s.setTile die tile x).cur = s.cur := rfl
@[simp] theorem State.setTile_test (die tile : Nat) (x : Tile) : (s.setTile die tile x).test = s.test := rfl
@[simp] theorem State.setTile_host (die tile : Nat) (x : Tile) : (s.setTile die tile x).host = s.host := rfl
@[simp] theorem State.setTile_hbm (die tile : Nat) (x : Tile) : (s.setTile die tile x).hbm = s.hbm := rfl
@[simp] theorem State.setTile_mgmt (die tile : Nat) (x : Tile) : (s.setTile die tile x).mgmt = s.mgmt := rfl
@[simp] theorem State.setTile_mon (die tile : Nat) (x : Tile) : (s.setTile die tile x).mon = s.mon := rfl
@[simp] theorem State.setTile_vheaders (die tile : Nat) (x : Tile) : (s.setTile die tile x).vheaders = s.vheaders := rfl
@[simp] theorem State.setTile_free (die tile : Nat) (x : Tile) : (s.setTile die tile x).free = s.free := rfl
@[simp] theorem State.setTile_out (die tile : Nat) (x : Tile) : (s.setTile die tile x).out = s.out := rfl
@[simp] theorem State.setTile_pending (die tile : Nat) (x : Tile) : (s.setTile die tile x).pending = s.pending := rfl

@[simp] theorem State.updTile_factory (die tile : Nat) (f : Tile → Tile) : (s.updTile die tile f).factory = s.factory := rfl
@[simp] theorem State.updTile_flash (die tile : Nat) (f : Tile → Tile) : (s.updTile die tile f).flash = s.flash := rfl
@[simp] theorem State.updTile_cat (die tile : Nat) (f : Tile → Tile) : (s.updTile die tile f).cat = s.cat := rfl
@[simp] theorem State.updTile_pwr (die tile : Nat) (f : Tile → Tile) : (s.updTile die tile f).pwr = s.pwr := rfl
@[simp] theorem State.updTile_mem (die tile : Nat) (f : Tile → Tile) : (s.updTile die tile f).mem = s.mem := rfl
@[simp] theorem State.updTile_poison (die tile : Nat) (f : Tile → Tile) : (s.updTile die tile f).poison = s.poison := rfl
@[simp] theorem State.updTile_sites (die tile : Nat) (f : Tile → Tile) : (s.updTile die tile f).sites = s.sites := rfl
@[simp] theorem State.updTile_dies (die tile : Nat) (f : Tile → Tile) : (s.updTile die tile f).dies = s.dies := rfl
@[simp] theorem State.updTile_ctxs (die tile : Nat) (f : Tile → Tile) : (s.updTile die tile f).ctxs = s.ctxs := rfl
@[simp] theorem State.updTile_ctx0 (die tile : Nat) (f : Tile → Tile) : (s.updTile die tile f).ctx0 = s.ctx0 := rfl
@[simp] theorem State.updTile_accs (die tile : Nat) (f : Tile → Tile) : (s.updTile die tile f).accs = s.accs := rfl
@[simp] theorem State.updTile_nextAcc (die tile : Nat) (f : Tile → Tile) : (s.updTile die tile f).nextAcc = s.nextAcc := rfl
@[simp] theorem State.updTile_atomics (die tile : Nat) (f : Tile → Tile) : (s.updTile die tile f).atomics = s.atomics := rfl
@[simp] theorem State.updTile_fab (die tile : Nat) (f : Tile → Tile) : (s.updTile die tile f).fab = s.fab := rfl
@[simp] theorem State.updTile_time (die tile : Nat) (f : Tile → Tile) : (s.updTile die tile f).time = s.time := rfl
@[simp] theorem State.updTile_cur (die tile : Nat) (f : Tile → Tile) : (s.updTile die tile f).cur = s.cur := rfl
@[simp] theorem State.updTile_test (die tile : Nat) (f : Tile → Tile) : (s.updTile die tile f).test = s.test := rfl
@[simp] theorem State.updTile_host (die tile : Nat) (f : Tile → Tile) : (s.updTile die tile f).host = s.host := rfl
@[simp] theorem State.updTile_hbm (die tile : Nat) (f : Tile → Tile) : (s.updTile die tile f).hbm = s.hbm := rfl
@[simp] theorem State.updTile_mgmt (die tile : Nat) (f : Tile → Tile) : (s.updTile die tile f).mgmt = s.mgmt := rfl
@[simp] theorem State.updTile_mon (die tile : Nat) (f : Tile → Tile) : (s.updTile die tile f).mon = s.mon := rfl
@[simp] theorem State.updTile_vheaders (die tile : Nat) (f : Tile → Tile) : (s.updTile die tile f).vheaders = s.vheaders := rfl
@[simp] theorem State.updTile_free (die tile : Nat) (f : Tile → Tile) : (s.updTile die tile f).free = s.free := rfl
@[simp] theorem State.updTile_out (die tile : Nat) (f : Tile → Tile) : (s.updTile die tile f).out = s.out := rfl
@[simp] theorem State.updTile_pending (die tile : Nat) (f : Tile → Tile) : (s.updTile die tile f).pending = s.pending := rfl

@[simp] theorem State.updSite_factory (die site : Nat) (f : Site → Site) : (s.updSite die site f).factory = s.factory := rfl
@[simp] theorem State.updSite_flash (die site : Nat) (f : Site → Site) : (s.updSite die site f).flash = s.flash := rfl
@[simp] theorem State.updSite_cat (die site : Nat) (f : Site → Site) : (s.updSite die site f).cat = s.cat := rfl
@[simp] theorem State.updSite_pwr (die site : Nat) (f : Site → Site) : (s.updSite die site f).pwr = s.pwr := rfl
@[simp] theorem State.updSite_mem (die site : Nat) (f : Site → Site) : (s.updSite die site f).mem = s.mem := rfl
@[simp] theorem State.updSite_poison (die site : Nat) (f : Site → Site) : (s.updSite die site f).poison = s.poison := rfl
@[simp] theorem State.updSite_tiles (die site : Nat) (f : Site → Site) : (s.updSite die site f).tiles = s.tiles := rfl
@[simp] theorem State.updSite_dies (die site : Nat) (f : Site → Site) : (s.updSite die site f).dies = s.dies := rfl
@[simp] theorem State.updSite_ctxs (die site : Nat) (f : Site → Site) : (s.updSite die site f).ctxs = s.ctxs := rfl
@[simp] theorem State.updSite_ctx0 (die site : Nat) (f : Site → Site) : (s.updSite die site f).ctx0 = s.ctx0 := rfl
@[simp] theorem State.updSite_accs (die site : Nat) (f : Site → Site) : (s.updSite die site f).accs = s.accs := rfl
@[simp] theorem State.updSite_nextAcc (die site : Nat) (f : Site → Site) : (s.updSite die site f).nextAcc = s.nextAcc := rfl
@[simp] theorem State.updSite_atomics (die site : Nat) (f : Site → Site) : (s.updSite die site f).atomics = s.atomics := rfl
@[simp] theorem State.updSite_fab (die site : Nat) (f : Site → Site) : (s.updSite die site f).fab = s.fab := rfl
@[simp] theorem State.updSite_time (die site : Nat) (f : Site → Site) : (s.updSite die site f).time = s.time := rfl
@[simp] theorem State.updSite_cur (die site : Nat) (f : Site → Site) : (s.updSite die site f).cur = s.cur := rfl
@[simp] theorem State.updSite_test (die site : Nat) (f : Site → Site) : (s.updSite die site f).test = s.test := rfl
@[simp] theorem State.updSite_host (die site : Nat) (f : Site → Site) : (s.updSite die site f).host = s.host := rfl
@[simp] theorem State.updSite_hbm (die site : Nat) (f : Site → Site) : (s.updSite die site f).hbm = s.hbm := rfl
@[simp] theorem State.updSite_mgmt (die site : Nat) (f : Site → Site) : (s.updSite die site f).mgmt = s.mgmt := rfl
@[simp] theorem State.updSite_mon (die site : Nat) (f : Site → Site) : (s.updSite die site f).mon = s.mon := rfl
@[simp] theorem State.updSite_vheaders (die site : Nat) (f : Site → Site) : (s.updSite die site f).vheaders = s.vheaders := rfl
@[simp] theorem State.updSite_free (die site : Nat) (f : Site → Site) : (s.updSite die site f).free = s.free := rfl
@[simp] theorem State.updSite_out (die site : Nat) (f : Site → Site) : (s.updSite die site f).out = s.out := rfl
@[simp] theorem State.updSite_pending (die site : Nat) (f : Site → Site) : (s.updSite die site f).pending = s.pending := rfl

@[simp] theorem State.updDie_factory (d : Nat) (f : Die → Die) : (s.updDie d f).factory = s.factory := rfl
@[simp] theorem State.updDie_flash (d : Nat) (f : Die → Die) : (s.updDie d f).flash = s.flash := rfl
@[simp] theorem State.updDie_cat (d : Nat) (f : Die → Die) : (s.updDie d f).cat = s.cat := rfl
@[simp] theorem State.updDie_pwr (d : Nat) (f : Die → Die) : (s.updDie d f).pwr = s.pwr := rfl
@[simp] theorem State.updDie_mem (d : Nat) (f : Die → Die) : (s.updDie d f).mem = s.mem := rfl
@[simp] theorem State.updDie_poison (d : Nat) (f : Die → Die) : (s.updDie d f).poison = s.poison := rfl
@[simp] theorem State.updDie_tiles (d : Nat) (f : Die → Die) : (s.updDie d f).tiles = s.tiles := rfl
@[simp] theorem State.updDie_sites (d : Nat) (f : Die → Die) : (s.updDie d f).sites = s.sites := rfl
@[simp] theorem State.updDie_ctxs (d : Nat) (f : Die → Die) : (s.updDie d f).ctxs = s.ctxs := rfl
@[simp] theorem State.updDie_ctx0 (d : Nat) (f : Die → Die) : (s.updDie d f).ctx0 = s.ctx0 := rfl
@[simp] theorem State.updDie_accs (d : Nat) (f : Die → Die) : (s.updDie d f).accs = s.accs := rfl
@[simp] theorem State.updDie_nextAcc (d : Nat) (f : Die → Die) : (s.updDie d f).nextAcc = s.nextAcc := rfl
@[simp] theorem State.updDie_atomics (d : Nat) (f : Die → Die) : (s.updDie d f).atomics = s.atomics := rfl
@[simp] theorem State.updDie_fab (d : Nat) (f : Die → Die) : (s.updDie d f).fab = s.fab := rfl
@[simp] theorem State.updDie_time (d : Nat) (f : Die → Die) : (s.updDie d f).time = s.time := rfl
@[simp] theorem State.updDie_cur (d : Nat) (f : Die → Die) : (s.updDie d f).cur = s.cur := rfl
@[simp] theorem State.updDie_test (d : Nat) (f : Die → Die) : (s.updDie d f).test = s.test := rfl
@[simp] theorem State.updDie_host (d : Nat) (f : Die → Die) : (s.updDie d f).host = s.host := rfl
@[simp] theorem State.updDie_hbm (d : Nat) (f : Die → Die) : (s.updDie d f).hbm = s.hbm := rfl
@[simp] theorem State.updDie_mgmt (d : Nat) (f : Die → Die) : (s.updDie d f).mgmt = s.mgmt := rfl
@[simp] theorem State.updDie_mon (d : Nat) (f : Die → Die) : (s.updDie d f).mon = s.mon := rfl
@[simp] theorem State.updDie_vheaders (d : Nat) (f : Die → Die) : (s.updDie d f).vheaders = s.vheaders := rfl
@[simp] theorem State.updDie_free (d : Nat) (f : Die → Die) : (s.updDie d f).free = s.free := rfl
@[simp] theorem State.updDie_out (d : Nat) (f : Die → Die) : (s.updDie d f).out = s.out := rfl
@[simp] theorem State.updDie_pending (d : Nat) (f : Die → Die) : (s.updDie d f).pending = s.pending := rfl

@[simp] theorem State.setCtx_factory (c : Nat) (x : Ctx) : (s.setCtx c x).factory = s.factory := by
  unfold State.setCtx; split <;> rfl
@[simp] theorem State.setCtx_flash (c : Nat) (x : Ctx) : (s.setCtx c x).flash = s.flash := by
  unfold State.setCtx; split <;> rfl
@[simp] theorem State.setCtx_cat (c : Nat) (x : Ctx) : (s.setCtx c x).cat = s.cat := by
  unfold State.setCtx; split <;> rfl
@[simp] theorem State.setCtx_pwr (c : Nat) (x : Ctx) : (s.setCtx c x).pwr = s.pwr := by
  unfold State.setCtx; split <;> rfl
@[simp] theorem State.setCtx_mem (c : Nat) (x : Ctx) : (s.setCtx c x).mem = s.mem := by
  unfold State.setCtx; split <;> rfl
@[simp] theorem State.setCtx_poison (c : Nat) (x : Ctx) : (s.setCtx c x).poison = s.poison := by
  unfold State.setCtx; split <;> rfl
@[simp] theorem State.setCtx_tiles (c : Nat) (x : Ctx) : (s.setCtx c x).tiles = s.tiles := by
  unfold State.setCtx; split <;> rfl
@[simp] theorem State.setCtx_sites (c : Nat) (x : Ctx) : (s.setCtx c x).sites = s.sites := by
  unfold State.setCtx; split <;> rfl
@[simp] theorem State.setCtx_dies (c : Nat) (x : Ctx) : (s.setCtx c x).dies = s.dies := by
  unfold State.setCtx; split <;> rfl
@[simp] theorem State.setCtx_accs (c : Nat) (x : Ctx) : (s.setCtx c x).accs = s.accs := by
  unfold State.setCtx; split <;> rfl
@[simp] theorem State.setCtx_nextAcc (c : Nat) (x : Ctx) : (s.setCtx c x).nextAcc = s.nextAcc := by
  unfold State.setCtx; split <;> rfl
@[simp] theorem State.setCtx_atomics (c : Nat) (x : Ctx) : (s.setCtx c x).atomics = s.atomics := by
  unfold State.setCtx; split <;> rfl
@[simp] theorem State.setCtx_fab (c : Nat) (x : Ctx) : (s.setCtx c x).fab = s.fab := by
  unfold State.setCtx; split <;> rfl
@[simp] theorem State.setCtx_time (c : Nat) (x : Ctx) : (s.setCtx c x).time = s.time := by
  unfold State.setCtx; split <;> rfl
@[simp] theorem State.setCtx_cur (c : Nat) (x : Ctx) : (s.setCtx c x).cur = s.cur := by
  unfold State.setCtx; split <;> rfl
@[simp] theorem State.setCtx_test (c : Nat) (x : Ctx) : (s.setCtx c x).test = s.test := by
  unfold State.setCtx; split <;> rfl
@[simp] theorem State.setCtx_host (c : Nat) (x : Ctx) : (s.setCtx c x).host = s.host := by
  unfold State.setCtx; split <;> rfl
@[simp] theorem State.setCtx_hbm (c : Nat) (x : Ctx) : (s.setCtx c x).hbm = s.hbm := by
  unfold State.setCtx; split <;> rfl
@[simp] theorem State.setCtx_mgmt (c : Nat) (x : Ctx) : (s.setCtx c x).mgmt = s.mgmt := by
  unfold State.setCtx; split <;> rfl
@[simp] theorem State.setCtx_mon (c : Nat) (x : Ctx) : (s.setCtx c x).mon = s.mon := by
  unfold State.setCtx; split <;> rfl
@[simp] theorem State.setCtx_vheaders (c : Nat) (x : Ctx) : (s.setCtx c x).vheaders = s.vheaders := by
  unfold State.setCtx; split <;> rfl
@[simp] theorem State.setCtx_free (c : Nat) (x : Ctx) : (s.setCtx c x).free = s.free := by
  unfold State.setCtx; split <;> rfl
@[simp] theorem State.setCtx_out (c : Nat) (x : Ctx) : (s.setCtx c x).out = s.out := by
  unfold State.setCtx; split <;> rfl
@[simp] theorem State.setCtx_pending (c : Nat) (x : Ctx) : (s.setCtx c x).pending = s.pending := by
  unfold State.setCtx; split <;> rfl

@[simp] theorem State.updCtx_factory (c : Nat) (f : Ctx → Ctx) : (s.updCtx c f).factory = s.factory := State.setCtx_factory s c _
@[simp] theorem State.updCtx_flash (c : Nat) (f : Ctx → Ctx) : (s.updCtx c f).flash = s.flash := State.setCtx_flash s c _
@[simp] theorem State.updCtx_cat (c : Nat) (f : Ctx → Ctx) : (s.updCtx c f).cat = s.cat := State.setCtx_cat s c _
@[simp] theorem State.updCtx_pwr (c : Nat) (f : Ctx → Ctx) : (s.updCtx c f).pwr = s.pwr := State.setCtx_pwr s c _
@[simp] theorem State.updCtx_mem (c : Nat) (f : Ctx → Ctx) : (s.updCtx c f).mem = s.mem := State.setCtx_mem s c _
@[simp] theorem State.updCtx_poison (c : Nat) (f : Ctx → Ctx) : (s.updCtx c f).poison = s.poison := State.setCtx_poison s c _
@[simp] theorem State.updCtx_tiles (c : Nat) (f : Ctx → Ctx) : (s.updCtx c f).tiles = s.tiles := State.setCtx_tiles s c _
@[simp] theorem State.updCtx_sites (c : Nat) (f : Ctx → Ctx) : (s.updCtx c f).sites = s.sites := State.setCtx_sites s c _
@[simp] theorem State.updCtx_dies (c : Nat) (f : Ctx → Ctx) : (s.updCtx c f).dies = s.dies := State.setCtx_dies s c _
@[simp] theorem State.updCtx_accs (c : Nat) (f : Ctx → Ctx) : (s.updCtx c f).accs = s.accs := State.setCtx_accs s c _
@[simp] theorem State.updCtx_nextAcc (c : Nat) (f : Ctx → Ctx) : (s.updCtx c f).nextAcc = s.nextAcc := State.setCtx_nextAcc s c _
@[simp] theorem State.updCtx_atomics (c : Nat) (f : Ctx → Ctx) : (s.updCtx c f).atomics = s.atomics := State.setCtx_atomics s c _
@[simp] theorem State.updCtx_fab (c : Nat) (f : Ctx → Ctx) : (s.updCtx c f).fab = s.fab := State.setCtx_fab s c _
@[simp] theorem State.updCtx_time (c : Nat) (f : Ctx → Ctx) : (s.updCtx c f).time = s.time := State.setCtx_time s c _
@[simp] theorem State.updCtx_cur (c : Nat) (f : Ctx → Ctx) : (s.updCtx c f).cur = s.cur := State.setCtx_cur s c _
@[simp] theorem State.updCtx_test (c : Nat) (f : Ctx → Ctx) : (s.updCtx c f).test = s.test := State.setCtx_test s c _
@[simp] theorem State.updCtx_host (c : Nat) (f : Ctx → Ctx) : (s.updCtx c f).host = s.host := State.setCtx_host s c _
@[simp] theorem State.updCtx_hbm (c : Nat) (f : Ctx → Ctx) : (s.updCtx c f).hbm = s.hbm := State.setCtx_hbm s c _
@[simp] theorem State.updCtx_mgmt (c : Nat) (f : Ctx → Ctx) : (s.updCtx c f).mgmt = s.mgmt := State.setCtx_mgmt s c _
@[simp] theorem State.updCtx_mon (c : Nat) (f : Ctx → Ctx) : (s.updCtx c f).mon = s.mon := State.setCtx_mon s c _
@[simp] theorem State.updCtx_vheaders (c : Nat) (f : Ctx → Ctx) : (s.updCtx c f).vheaders = s.vheaders := State.setCtx_vheaders s c _
@[simp] theorem State.updCtx_free (c : Nat) (f : Ctx → Ctx) : (s.updCtx c f).free = s.free := State.setCtx_free s c _
@[simp] theorem State.updCtx_out (c : Nat) (f : Ctx → Ctx) : (s.updCtx c f).out = s.out := State.setCtx_out s c _
@[simp] theorem State.updCtx_pending (c : Nat) (f : Ctx → Ctx) : (s.updCtx c f).pending = s.pending := State.setCtx_pending s c _

@[simp] theorem State.setObj_factory (index sub el v : Nat) : (s.setObj index sub el v).factory = s.factory := rfl
@[simp] theorem State.setObj_flash (index sub el v : Nat) : (s.setObj index sub el v).flash = s.flash := rfl
@[simp] theorem State.setObj_cat (index sub el v : Nat) : (s.setObj index sub el v).cat = s.cat := rfl
@[simp] theorem State.setObj_pwr (index sub el v : Nat) : (s.setObj index sub el v).pwr = s.pwr := rfl
@[simp] theorem State.setObj_mem (index sub el v : Nat) : (s.setObj index sub el v).mem = s.mem := rfl
@[simp] theorem State.setObj_poison (index sub el v : Nat) : (s.setObj index sub el v).poison = s.poison := rfl
@[simp] theorem State.setObj_tiles (index sub el v : Nat) : (s.setObj index sub el v).tiles = s.tiles := rfl
@[simp] theorem State.setObj_sites (index sub el v : Nat) : (s.setObj index sub el v).sites = s.sites := rfl
@[simp] theorem State.setObj_dies (index sub el v : Nat) : (s.setObj index sub el v).dies = s.dies := rfl
@[simp] theorem State.setObj_ctxs (index sub el v : Nat) : (s.setObj index sub el v).ctxs = s.ctxs := rfl
@[simp] theorem State.setObj_ctx0 (index sub el v : Nat) : (s.setObj index sub el v).ctx0 = s.ctx0 := rfl
@[simp] theorem State.setObj_accs (index sub el v : Nat) : (s.setObj index sub el v).accs = s.accs := rfl
@[simp] theorem State.setObj_nextAcc (index sub el v : Nat) : (s.setObj index sub el v).nextAcc = s.nextAcc := rfl
@[simp] theorem State.setObj_atomics (index sub el v : Nat) : (s.setObj index sub el v).atomics = s.atomics := rfl
@[simp] theorem State.setObj_fab (index sub el v : Nat) : (s.setObj index sub el v).fab = s.fab := rfl
@[simp] theorem State.setObj_time (index sub el v : Nat) : (s.setObj index sub el v).time = s.time := rfl
@[simp] theorem State.setObj_cur (index sub el v : Nat) : (s.setObj index sub el v).cur = s.cur := rfl
@[simp] theorem State.setObj_test (index sub el v : Nat) : (s.setObj index sub el v).test = s.test := rfl
@[simp] theorem State.setObj_host (index sub el v : Nat) : (s.setObj index sub el v).host = s.host := rfl
@[simp] theorem State.setObj_hbm (index sub el v : Nat) : (s.setObj index sub el v).hbm = s.hbm := rfl
@[simp] theorem State.setObj_mon (index sub el v : Nat) : (s.setObj index sub el v).mon = s.mon := rfl
@[simp] theorem State.setObj_vheaders (index sub el v : Nat) : (s.setObj index sub el v).vheaders = s.vheaders := rfl
@[simp] theorem State.setObj_free (index sub el v : Nat) : (s.setObj index sub el v).free = s.free := rfl
@[simp] theorem State.setObj_out (index sub el v : Nat) : (s.setObj index sub el v).out = s.out := rfl
@[simp] theorem State.setObj_pending (index sub el v : Nat) : (s.setObj index sub el v).pending = s.pending := rfl

@[simp] theorem State.count_factory (index sub el n : Nat) : (s.count index sub el n).factory = s.factory := rfl
@[simp] theorem State.count_flash (index sub el n : Nat) : (s.count index sub el n).flash = s.flash := rfl
@[simp] theorem State.count_cat (index sub el n : Nat) : (s.count index sub el n).cat = s.cat := rfl
@[simp] theorem State.count_pwr (index sub el n : Nat) : (s.count index sub el n).pwr = s.pwr := rfl
@[simp] theorem State.count_mem (index sub el n : Nat) : (s.count index sub el n).mem = s.mem := rfl
@[simp] theorem State.count_poison (index sub el n : Nat) : (s.count index sub el n).poison = s.poison := rfl
@[simp] theorem State.count_tiles (index sub el n : Nat) : (s.count index sub el n).tiles = s.tiles := rfl
@[simp] theorem State.count_sites (index sub el n : Nat) : (s.count index sub el n).sites = s.sites := rfl
@[simp] theorem State.count_dies (index sub el n : Nat) : (s.count index sub el n).dies = s.dies := rfl
@[simp] theorem State.count_ctxs (index sub el n : Nat) : (s.count index sub el n).ctxs = s.ctxs := rfl
@[simp] theorem State.count_ctx0 (index sub el n : Nat) : (s.count index sub el n).ctx0 = s.ctx0 := rfl
@[simp] theorem State.count_accs (index sub el n : Nat) : (s.count index sub el n).accs = s.accs := rfl
@[simp] theorem State.count_nextAcc (index sub el n : Nat) : (s.count index sub el n).nextAcc = s.nextAcc := rfl
@[simp] theorem State.count_atomics (index sub el n : Nat) : (s.count index sub el n).atomics = s.atomics := rfl
@[simp] theorem State.count_fab (index sub el n : Nat) : (s.count index sub el n).fab = s.fab := rfl
@[simp] theorem State.count_time (index sub el n : Nat) : (s.count index sub el n).time = s.time := rfl
@[simp] theorem State.count_cur (index sub el n : Nat) : (s.count index sub el n).cur = s.cur := rfl
@[simp] theorem State.count_test (index sub el n : Nat) : (s.count index sub el n).test = s.test := rfl
@[simp] theorem State.count_host (index sub el n : Nat) : (s.count index sub el n).host = s.host := rfl
@[simp] theorem State.count_hbm (index sub el n : Nat) : (s.count index sub el n).hbm = s.hbm := rfl
@[simp] theorem State.count_mon (index sub el n : Nat) : (s.count index sub el n).mon = s.mon := rfl
@[simp] theorem State.count_vheaders (index sub el n : Nat) : (s.count index sub el n).vheaders = s.vheaders := rfl
@[simp] theorem State.count_free (index sub el n : Nat) : (s.count index sub el n).free = s.free := rfl
@[simp] theorem State.count_out (index sub el n : Nat) : (s.count index sub el n).out = s.out := rfl
@[simp] theorem State.count_pending (index sub el n : Nat) : (s.count index sub el n).pending = s.pending := rfl

@[simp] theorem State.setCounter_factory (index sub el v : Nat) : (s.setCounter index sub el v).factory = s.factory := rfl
@[simp] theorem State.setCounter_flash (index sub el v : Nat) : (s.setCounter index sub el v).flash = s.flash := rfl
@[simp] theorem State.setCounter_cat (index sub el v : Nat) : (s.setCounter index sub el v).cat = s.cat := rfl
@[simp] theorem State.setCounter_pwr (index sub el v : Nat) : (s.setCounter index sub el v).pwr = s.pwr := rfl
@[simp] theorem State.setCounter_mem (index sub el v : Nat) : (s.setCounter index sub el v).mem = s.mem := rfl
@[simp] theorem State.setCounter_poison (index sub el v : Nat) : (s.setCounter index sub el v).poison = s.poison := rfl
@[simp] theorem State.setCounter_tiles (index sub el v : Nat) : (s.setCounter index sub el v).tiles = s.tiles := rfl
@[simp] theorem State.setCounter_sites (index sub el v : Nat) : (s.setCounter index sub el v).sites = s.sites := rfl
@[simp] theorem State.setCounter_dies (index sub el v : Nat) : (s.setCounter index sub el v).dies = s.dies := rfl
@[simp] theorem State.setCounter_ctxs (index sub el v : Nat) : (s.setCounter index sub el v).ctxs = s.ctxs := rfl
@[simp] theorem State.setCounter_ctx0 (index sub el v : Nat) : (s.setCounter index sub el v).ctx0 = s.ctx0 := rfl
@[simp] theorem State.setCounter_accs (index sub el v : Nat) : (s.setCounter index sub el v).accs = s.accs := rfl
@[simp] theorem State.setCounter_nextAcc (index sub el v : Nat) : (s.setCounter index sub el v).nextAcc = s.nextAcc := rfl
@[simp] theorem State.setCounter_atomics (index sub el v : Nat) : (s.setCounter index sub el v).atomics = s.atomics := rfl
@[simp] theorem State.setCounter_fab (index sub el v : Nat) : (s.setCounter index sub el v).fab = s.fab := rfl
@[simp] theorem State.setCounter_time (index sub el v : Nat) : (s.setCounter index sub el v).time = s.time := rfl
@[simp] theorem State.setCounter_cur (index sub el v : Nat) : (s.setCounter index sub el v).cur = s.cur := rfl
@[simp] theorem State.setCounter_test (index sub el v : Nat) : (s.setCounter index sub el v).test = s.test := rfl
@[simp] theorem State.setCounter_host (index sub el v : Nat) : (s.setCounter index sub el v).host = s.host := rfl
@[simp] theorem State.setCounter_hbm (index sub el v : Nat) : (s.setCounter index sub el v).hbm = s.hbm := rfl
@[simp] theorem State.setCounter_mon (index sub el v : Nat) : (s.setCounter index sub el v).mon = s.mon := rfl
@[simp] theorem State.setCounter_vheaders (index sub el v : Nat) : (s.setCounter index sub el v).vheaders = s.vheaders := rfl
@[simp] theorem State.setCounter_free (index sub el v : Nat) : (s.setCounter index sub el v).free = s.free := rfl
@[simp] theorem State.setCounter_out (index sub el v : Nat) : (s.setCounter index sub el v).out = s.out := rfl
@[simp] theorem State.setCounter_pending (index sub el v : Nat) : (s.setCounter index sub el v).pending = s.pending := rfl

@[simp] theorem State.updPort_factory (p : Nat) (f : HostPort → HostPort) : (s.updPort p f).factory = s.factory := rfl
@[simp] theorem State.updPort_flash (p : Nat) (f : HostPort → HostPort) : (s.updPort p f).flash = s.flash := rfl
@[simp] theorem State.updPort_cat (p : Nat) (f : HostPort → HostPort) : (s.updPort p f).cat = s.cat := rfl
@[simp] theorem State.updPort_pwr (p : Nat) (f : HostPort → HostPort) : (s.updPort p f).pwr = s.pwr := rfl
@[simp] theorem State.updPort_mem (p : Nat) (f : HostPort → HostPort) : (s.updPort p f).mem = s.mem := rfl
@[simp] theorem State.updPort_poison (p : Nat) (f : HostPort → HostPort) : (s.updPort p f).poison = s.poison := rfl
@[simp] theorem State.updPort_tiles (p : Nat) (f : HostPort → HostPort) : (s.updPort p f).tiles = s.tiles := rfl
@[simp] theorem State.updPort_sites (p : Nat) (f : HostPort → HostPort) : (s.updPort p f).sites = s.sites := rfl
@[simp] theorem State.updPort_dies (p : Nat) (f : HostPort → HostPort) : (s.updPort p f).dies = s.dies := rfl
@[simp] theorem State.updPort_ctxs (p : Nat) (f : HostPort → HostPort) : (s.updPort p f).ctxs = s.ctxs := rfl
@[simp] theorem State.updPort_ctx0 (p : Nat) (f : HostPort → HostPort) : (s.updPort p f).ctx0 = s.ctx0 := rfl
@[simp] theorem State.updPort_accs (p : Nat) (f : HostPort → HostPort) : (s.updPort p f).accs = s.accs := rfl
@[simp] theorem State.updPort_nextAcc (p : Nat) (f : HostPort → HostPort) : (s.updPort p f).nextAcc = s.nextAcc := rfl
@[simp] theorem State.updPort_atomics (p : Nat) (f : HostPort → HostPort) : (s.updPort p f).atomics = s.atomics := rfl
@[simp] theorem State.updPort_fab (p : Nat) (f : HostPort → HostPort) : (s.updPort p f).fab = s.fab := rfl
@[simp] theorem State.updPort_time (p : Nat) (f : HostPort → HostPort) : (s.updPort p f).time = s.time := rfl
@[simp] theorem State.updPort_cur (p : Nat) (f : HostPort → HostPort) : (s.updPort p f).cur = s.cur := rfl
@[simp] theorem State.updPort_test (p : Nat) (f : HostPort → HostPort) : (s.updPort p f).test = s.test := rfl
@[simp] theorem State.updPort_hbm (p : Nat) (f : HostPort → HostPort) : (s.updPort p f).hbm = s.hbm := rfl
@[simp] theorem State.updPort_mgmt (p : Nat) (f : HostPort → HostPort) : (s.updPort p f).mgmt = s.mgmt := rfl
@[simp] theorem State.updPort_mon (p : Nat) (f : HostPort → HostPort) : (s.updPort p f).mon = s.mon := rfl
@[simp] theorem State.updPort_vheaders (p : Nat) (f : HostPort → HostPort) : (s.updPort p f).vheaders = s.vheaders := rfl
@[simp] theorem State.updPort_free (p : Nat) (f : HostPort → HostPort) : (s.updPort p f).free = s.free := rfl
@[simp] theorem State.updPort_out (p : Nat) (f : HostPort → HostPort) : (s.updPort p f).out = s.out := rfl
@[simp] theorem State.updPort_pending (p : Nat) (f : HostPort → HostPort) : (s.updPort p f).pending = s.pending := rfl

@[simp] theorem State.updFn_factory (p k : Nat) (f : Fn → Fn) : (s.updFn p k f).factory = s.factory := rfl
@[simp] theorem State.updFn_flash (p k : Nat) (f : Fn → Fn) : (s.updFn p k f).flash = s.flash := rfl
@[simp] theorem State.updFn_cat (p k : Nat) (f : Fn → Fn) : (s.updFn p k f).cat = s.cat := rfl
@[simp] theorem State.updFn_pwr (p k : Nat) (f : Fn → Fn) : (s.updFn p k f).pwr = s.pwr := rfl
@[simp] theorem State.updFn_mem (p k : Nat) (f : Fn → Fn) : (s.updFn p k f).mem = s.mem := rfl
@[simp] theorem State.updFn_poison (p k : Nat) (f : Fn → Fn) : (s.updFn p k f).poison = s.poison := rfl
@[simp] theorem State.updFn_tiles (p k : Nat) (f : Fn → Fn) : (s.updFn p k f).tiles = s.tiles := rfl
@[simp] theorem State.updFn_sites (p k : Nat) (f : Fn → Fn) : (s.updFn p k f).sites = s.sites := rfl
@[simp] theorem State.updFn_dies (p k : Nat) (f : Fn → Fn) : (s.updFn p k f).dies = s.dies := rfl
@[simp] theorem State.updFn_ctxs (p k : Nat) (f : Fn → Fn) : (s.updFn p k f).ctxs = s.ctxs := rfl
@[simp] theorem State.updFn_ctx0 (p k : Nat) (f : Fn → Fn) : (s.updFn p k f).ctx0 = s.ctx0 := rfl
@[simp] theorem State.updFn_accs (p k : Nat) (f : Fn → Fn) : (s.updFn p k f).accs = s.accs := rfl
@[simp] theorem State.updFn_nextAcc (p k : Nat) (f : Fn → Fn) : (s.updFn p k f).nextAcc = s.nextAcc := rfl
@[simp] theorem State.updFn_atomics (p k : Nat) (f : Fn → Fn) : (s.updFn p k f).atomics = s.atomics := rfl
@[simp] theorem State.updFn_fab (p k : Nat) (f : Fn → Fn) : (s.updFn p k f).fab = s.fab := rfl
@[simp] theorem State.updFn_time (p k : Nat) (f : Fn → Fn) : (s.updFn p k f).time = s.time := rfl
@[simp] theorem State.updFn_cur (p k : Nat) (f : Fn → Fn) : (s.updFn p k f).cur = s.cur := rfl
@[simp] theorem State.updFn_test (p k : Nat) (f : Fn → Fn) : (s.updFn p k f).test = s.test := rfl
@[simp] theorem State.updFn_hbm (p k : Nat) (f : Fn → Fn) : (s.updFn p k f).hbm = s.hbm := rfl
@[simp] theorem State.updFn_mgmt (p k : Nat) (f : Fn → Fn) : (s.updFn p k f).mgmt = s.mgmt := rfl
@[simp] theorem State.updFn_mon (p k : Nat) (f : Fn → Fn) : (s.updFn p k f).mon = s.mon := rfl
@[simp] theorem State.updFn_vheaders (p k : Nat) (f : Fn → Fn) : (s.updFn p k f).vheaders = s.vheaders := rfl
@[simp] theorem State.updFn_free (p k : Nat) (f : Fn → Fn) : (s.updFn p k f).free = s.free := rfl
@[simp] theorem State.updFn_out (p k : Nat) (f : Fn → Fn) : (s.updFn p k f).out = s.out := rfl
@[simp] theorem State.updFn_pending (p k : Nat) (f : Fn → Fn) : (s.updFn p k f).pending = s.pending := rfl

@[simp] theorem State.updPortF_factory (p : Nat) (f : Port → Port) : (s.updPortF p f).factory = s.factory := rfl
@[simp] theorem State.updPortF_flash (p : Nat) (f : Port → Port) : (s.updPortF p f).flash = s.flash := rfl
@[simp] theorem State.updPortF_cat (p : Nat) (f : Port → Port) : (s.updPortF p f).cat = s.cat := rfl
@[simp] theorem State.updPortF_pwr (p : Nat) (f : Port → Port) : (s.updPortF p f).pwr = s.pwr := rfl
@[simp] theorem State.updPortF_mem (p : Nat) (f : Port → Port) : (s.updPortF p f).mem = s.mem := rfl
@[simp] theorem State.updPortF_poison (p : Nat) (f : Port → Port) : (s.updPortF p f).poison = s.poison := rfl
@[simp] theorem State.updPortF_tiles (p : Nat) (f : Port → Port) : (s.updPortF p f).tiles = s.tiles := rfl
@[simp] theorem State.updPortF_sites (p : Nat) (f : Port → Port) : (s.updPortF p f).sites = s.sites := rfl
@[simp] theorem State.updPortF_dies (p : Nat) (f : Port → Port) : (s.updPortF p f).dies = s.dies := rfl
@[simp] theorem State.updPortF_ctxs (p : Nat) (f : Port → Port) : (s.updPortF p f).ctxs = s.ctxs := rfl
@[simp] theorem State.updPortF_ctx0 (p : Nat) (f : Port → Port) : (s.updPortF p f).ctx0 = s.ctx0 := rfl
@[simp] theorem State.updPortF_accs (p : Nat) (f : Port → Port) : (s.updPortF p f).accs = s.accs := rfl
@[simp] theorem State.updPortF_nextAcc (p : Nat) (f : Port → Port) : (s.updPortF p f).nextAcc = s.nextAcc := rfl
@[simp] theorem State.updPortF_atomics (p : Nat) (f : Port → Port) : (s.updPortF p f).atomics = s.atomics := rfl
@[simp] theorem State.updPortF_time (p : Nat) (f : Port → Port) : (s.updPortF p f).time = s.time := rfl
@[simp] theorem State.updPortF_cur (p : Nat) (f : Port → Port) : (s.updPortF p f).cur = s.cur := rfl
@[simp] theorem State.updPortF_test (p : Nat) (f : Port → Port) : (s.updPortF p f).test = s.test := rfl
@[simp] theorem State.updPortF_host (p : Nat) (f : Port → Port) : (s.updPortF p f).host = s.host := rfl
@[simp] theorem State.updPortF_hbm (p : Nat) (f : Port → Port) : (s.updPortF p f).hbm = s.hbm := rfl
@[simp] theorem State.updPortF_mgmt (p : Nat) (f : Port → Port) : (s.updPortF p f).mgmt = s.mgmt := rfl
@[simp] theorem State.updPortF_mon (p : Nat) (f : Port → Port) : (s.updPortF p f).mon = s.mon := rfl
@[simp] theorem State.updPortF_vheaders (p : Nat) (f : Port → Port) : (s.updPortF p f).vheaders = s.vheaders := rfl
@[simp] theorem State.updPortF_free (p : Nat) (f : Port → Port) : (s.updPortF p f).free = s.free := rfl
@[simp] theorem State.updPortF_out (p : Nat) (f : Port → Port) : (s.updPortF p f).out = s.out := rfl
@[simp] theorem State.updPortF_pending (p : Nat) (f : Port → Port) : (s.updPortF p f).pending = s.pending := rfl

@[simp] theorem State.memPoison_factory (a n : Nat) : (s.memPoison a n).factory = s.factory := rfl
@[simp] theorem State.memPoison_flash (a n : Nat) : (s.memPoison a n).flash = s.flash := rfl
@[simp] theorem State.memPoison_cat (a n : Nat) : (s.memPoison a n).cat = s.cat := rfl
@[simp] theorem State.memPoison_pwr (a n : Nat) : (s.memPoison a n).pwr = s.pwr := rfl
@[simp] theorem State.memPoison_mem (a n : Nat) : (s.memPoison a n).mem = s.mem := rfl
@[simp] theorem State.memPoison_tiles (a n : Nat) : (s.memPoison a n).tiles = s.tiles := rfl
@[simp] theorem State.memPoison_sites (a n : Nat) : (s.memPoison a n).sites = s.sites := rfl
@[simp] theorem State.memPoison_dies (a n : Nat) : (s.memPoison a n).dies = s.dies := rfl
@[simp] theorem State.memPoison_ctxs (a n : Nat) : (s.memPoison a n).ctxs = s.ctxs := rfl
@[simp] theorem State.memPoison_ctx0 (a n : Nat) : (s.memPoison a n).ctx0 = s.ctx0 := rfl
@[simp] theorem State.memPoison_accs (a n : Nat) : (s.memPoison a n).accs = s.accs := rfl
@[simp] theorem State.memPoison_nextAcc (a n : Nat) : (s.memPoison a n).nextAcc = s.nextAcc := rfl
@[simp] theorem State.memPoison_atomics (a n : Nat) : (s.memPoison a n).atomics = s.atomics := rfl
@[simp] theorem State.memPoison_fab (a n : Nat) : (s.memPoison a n).fab = s.fab := rfl
@[simp] theorem State.memPoison_time (a n : Nat) : (s.memPoison a n).time = s.time := rfl
@[simp] theorem State.memPoison_cur (a n : Nat) : (s.memPoison a n).cur = s.cur := rfl
@[simp] theorem State.memPoison_test (a n : Nat) : (s.memPoison a n).test = s.test := rfl
@[simp] theorem State.memPoison_host (a n : Nat) : (s.memPoison a n).host = s.host := rfl
@[simp] theorem State.memPoison_hbm (a n : Nat) : (s.memPoison a n).hbm = s.hbm := rfl
@[simp] theorem State.memPoison_mgmt (a n : Nat) : (s.memPoison a n).mgmt = s.mgmt := rfl
@[simp] theorem State.memPoison_mon (a n : Nat) : (s.memPoison a n).mon = s.mon := rfl
@[simp] theorem State.memPoison_vheaders (a n : Nat) : (s.memPoison a n).vheaders = s.vheaders := rfl
@[simp] theorem State.memPoison_free (a n : Nat) : (s.memPoison a n).free = s.free := rfl
@[simp] theorem State.memPoison_out (a n : Nat) : (s.memPoison a n).out = s.out := rfl
@[simp] theorem State.memPoison_pending (a n : Nat) : (s.memPoison a n).pending = s.pending := rfl

@[simp] theorem State.memZero_factory (a n : Nat) : (s.memZero a n).factory = s.factory := rfl
@[simp] theorem State.memZero_flash (a n : Nat) : (s.memZero a n).flash = s.flash := rfl
@[simp] theorem State.memZero_cat (a n : Nat) : (s.memZero a n).cat = s.cat := rfl
@[simp] theorem State.memZero_pwr (a n : Nat) : (s.memZero a n).pwr = s.pwr := rfl
@[simp] theorem State.memZero_tiles (a n : Nat) : (s.memZero a n).tiles = s.tiles := rfl
@[simp] theorem State.memZero_sites (a n : Nat) : (s.memZero a n).sites = s.sites := rfl
@[simp] theorem State.memZero_dies (a n : Nat) : (s.memZero a n).dies = s.dies := rfl
@[simp] theorem State.memZero_ctxs (a n : Nat) : (s.memZero a n).ctxs = s.ctxs := rfl
@[simp] theorem State.memZero_ctx0 (a n : Nat) : (s.memZero a n).ctx0 = s.ctx0 := rfl
@[simp] theorem State.memZero_accs (a n : Nat) : (s.memZero a n).accs = s.accs := rfl
@[simp] theorem State.memZero_nextAcc (a n : Nat) : (s.memZero a n).nextAcc = s.nextAcc := rfl
@[simp] theorem State.memZero_atomics (a n : Nat) : (s.memZero a n).atomics = s.atomics := rfl
@[simp] theorem State.memZero_fab (a n : Nat) : (s.memZero a n).fab = s.fab := rfl
@[simp] theorem State.memZero_time (a n : Nat) : (s.memZero a n).time = s.time := rfl
@[simp] theorem State.memZero_cur (a n : Nat) : (s.memZero a n).cur = s.cur := rfl
@[simp] theorem State.memZero_test (a n : Nat) : (s.memZero a n).test = s.test := rfl
@[simp] theorem State.memZero_host (a n : Nat) : (s.memZero a n).host = s.host := rfl
@[simp] theorem State.memZero_hbm (a n : Nat) : (s.memZero a n).hbm = s.hbm := rfl
@[simp] theorem State.memZero_mgmt (a n : Nat) : (s.memZero a n).mgmt = s.mgmt := rfl
@[simp] theorem State.memZero_mon (a n : Nat) : (s.memZero a n).mon = s.mon := rfl
@[simp] theorem State.memZero_vheaders (a n : Nat) : (s.memZero a n).vheaders = s.vheaders := rfl
@[simp] theorem State.memZero_free (a n : Nat) : (s.memZero a n).free = s.free := rfl
@[simp] theorem State.memZero_out (a n : Nat) : (s.memZero a n).out = s.out := rfl
@[simp] theorem State.memZero_pending (a n : Nat) : (s.memZero a n).pending = s.pending := rfl

@[simp] theorem State.memWriteRaw_factory (a : Nat) (bs : List Nat) (p : Bool) : (s.memWriteRaw a bs p).factory = s.factory := rfl
@[simp] theorem State.memWriteRaw_flash (a : Nat) (bs : List Nat) (p : Bool) : (s.memWriteRaw a bs p).flash = s.flash := rfl
@[simp] theorem State.memWriteRaw_cat (a : Nat) (bs : List Nat) (p : Bool) : (s.memWriteRaw a bs p).cat = s.cat := rfl
@[simp] theorem State.memWriteRaw_pwr (a : Nat) (bs : List Nat) (p : Bool) : (s.memWriteRaw a bs p).pwr = s.pwr := rfl
@[simp] theorem State.memWriteRaw_tiles (a : Nat) (bs : List Nat) (p : Bool) : (s.memWriteRaw a bs p).tiles = s.tiles := rfl
@[simp] theorem State.memWriteRaw_sites (a : Nat) (bs : List Nat) (p : Bool) : (s.memWriteRaw a bs p).sites = s.sites := rfl
@[simp] theorem State.memWriteRaw_dies (a : Nat) (bs : List Nat) (p : Bool) : (s.memWriteRaw a bs p).dies = s.dies := rfl
@[simp] theorem State.memWriteRaw_ctxs (a : Nat) (bs : List Nat) (p : Bool) : (s.memWriteRaw a bs p).ctxs = s.ctxs := rfl
@[simp] theorem State.memWriteRaw_ctx0 (a : Nat) (bs : List Nat) (p : Bool) : (s.memWriteRaw a bs p).ctx0 = s.ctx0 := rfl
@[simp] theorem State.memWriteRaw_accs (a : Nat) (bs : List Nat) (p : Bool) : (s.memWriteRaw a bs p).accs = s.accs := rfl
@[simp] theorem State.memWriteRaw_nextAcc (a : Nat) (bs : List Nat) (p : Bool) : (s.memWriteRaw a bs p).nextAcc = s.nextAcc := rfl
@[simp] theorem State.memWriteRaw_atomics (a : Nat) (bs : List Nat) (p : Bool) : (s.memWriteRaw a bs p).atomics = s.atomics := rfl
@[simp] theorem State.memWriteRaw_fab (a : Nat) (bs : List Nat) (p : Bool) : (s.memWriteRaw a bs p).fab = s.fab := rfl
@[simp] theorem State.memWriteRaw_time (a : Nat) (bs : List Nat) (p : Bool) : (s.memWriteRaw a bs p).time = s.time := rfl
@[simp] theorem State.memWriteRaw_cur (a : Nat) (bs : List Nat) (p : Bool) : (s.memWriteRaw a bs p).cur = s.cur := rfl
@[simp] theorem State.memWriteRaw_test (a : Nat) (bs : List Nat) (p : Bool) : (s.memWriteRaw a bs p).test = s.test := rfl
@[simp] theorem State.memWriteRaw_host (a : Nat) (bs : List Nat) (p : Bool) : (s.memWriteRaw a bs p).host = s.host := rfl
@[simp] theorem State.memWriteRaw_hbm (a : Nat) (bs : List Nat) (p : Bool) : (s.memWriteRaw a bs p).hbm = s.hbm := rfl
@[simp] theorem State.memWriteRaw_mgmt (a : Nat) (bs : List Nat) (p : Bool) : (s.memWriteRaw a bs p).mgmt = s.mgmt := rfl
@[simp] theorem State.memWriteRaw_mon (a : Nat) (bs : List Nat) (p : Bool) : (s.memWriteRaw a bs p).mon = s.mon := rfl
@[simp] theorem State.memWriteRaw_vheaders (a : Nat) (bs : List Nat) (p : Bool) : (s.memWriteRaw a bs p).vheaders = s.vheaders := rfl
@[simp] theorem State.memWriteRaw_free (a : Nat) (bs : List Nat) (p : Bool) : (s.memWriteRaw a bs p).free = s.free := rfl
@[simp] theorem State.memWriteRaw_out (a : Nat) (bs : List Nat) (p : Bool) : (s.memWriteRaw a bs p).out = s.out := rfl
@[simp] theorem State.memWriteRaw_pending (a : Nat) (bs : List Nat) (p : Bool) : (s.memWriteRaw a bs p).pending = s.pending := rfl

-- what an update reads back as

/-- Tiles of a die have keys of their own. -/
theorem tkey_inj {d t d' t' : Nat} (h : t < 288) (h' : t' < 288) (e : tkey d t = tkey d' t') : d = d' ∧ t = t' := by
  unfold tkey at e; omega

@[simp] theorem State.tile_setTile (die tile : Nat) (x : Tile) : (s.setTile die tile x).tile die tile = x := SMap.get_set_same _ _ _
@[simp] theorem State.tile_updTile (die tile : Nat) (f : Tile → Tile) : (s.updTile die tile f).tile die tile = f (s.tile die tile) :=
  SMap.get_set_same _ _ _
theorem State.tile_setTile_other {die tile d t : Nat} (x : Tile) (h : tkey d t ≠ tkey die tile) :
    (s.setTile die tile x).tile d t = s.tile d t := SMap.get_set_other _ _ h
theorem State.tile_updTile_other {die tile d t : Nat} (f : Tile → Tile) (h : tkey d t ≠ tkey die tile) :
    (s.updTile die tile f).tile d t = s.tile d t := SMap.get_set_other _ _ h
@[simp] theorem State.site_updSite (die site : Nat) (f : Site → Site) : (s.updSite die site f).site die site = f (s.site die site) :=
  SMap.get_set_same _ _ _
theorem State.site_updSite_other {die site d t : Nat} (f : Site → Site) (h : tkey d t ≠ tkey die site) :
    (s.updSite die site f).site d t = s.site d t := SMap.get_set_other _ _ h
@[simp] theorem State.die_updDie (d : Nat) (f : Die → Die) : (s.updDie d f).die d = f (s.die d) := SMap.get_set_same _ _ _
theorem State.die_updDie_other {d e : Nat} (f : Die → Die) (h : e ≠ d) : (s.updDie d f).die e = s.die e := SMap.get_set_other _ _ h
@[simp] theorem State.ctx_setCtx (c : Nat) (x : Ctx) : (s.setCtx c x).ctx c = x := by
  unfold State.setCtx State.ctx
  by_cases h : c = 0 <;> simp [h]
theorem State.ctx_setCtx_other {c e : Nat} (x : Ctx) (h : e ≠ c) : (s.setCtx c x).ctx e = s.ctx e := by
  unfold State.setCtx State.ctx
  by_cases hc : c = 0 <;> by_cases he : e = 0 <;> simp_all [SMap.get_set_other]
@[simp] theorem State.ctx_updCtx (c : Nat) (f : Ctx → Ctx) : (s.updCtx c f).ctx c = f (s.ctx c) := State.ctx_setCtx _ _ _
theorem State.ctx_updCtx_other {c e : Nat} (f : Ctx → Ctx) (h : e ≠ c) : (s.updCtx c f).ctx e = s.ctx e :=
  State.ctx_setCtx_other _ _ h
@[simp] theorem State.port_updPort (p : Nat) (f : HostPort → HostPort) : (s.updPort p f).port p = f (s.port p) := SMap.get_set_same _ _ _
@[simp] theorem State.counter_setCounter (i k e v : Nat) : (s.setCounter i k e v).counter i k e = v := SMap.get_set_same _ _ _
@[simp] theorem State.counter_count (i k e n : Nat) : (s.count i k e n).counter i k e = min (2 ^ 64 - 1) (s.counter i k e + n) :=
  SMap.get_set_same _ _ _
@[simp] theorem State.obj_setObj (i k e v : Nat) : (s.setObj i k e v).obj i k e = v := by
  unfold State.setObj State.obj
  simp only [SMap.get_set_same]
  cases hd : objDef? i k with
  | none => by_cases h : v = 0 <;> simp [h]
  | some o => by_cases h : v = o.dflt <;> simp [h]

-- what reads of a part see of an update of another part

@[simp] theorem State.ctx_updTile (die tile c : Nat) (f : Tile → Tile) : (s.updTile die tile f).ctx c = s.ctx c := rfl
@[simp] theorem State.die_updTile (die tile d : Nat) (f : Tile → Tile) : (s.updTile die tile f).die d = s.die d := rfl
@[simp] theorem State.tile_updDie (d die tile : Nat) (f : Die → Die) : (s.updDie d f).tile die tile = s.tile die tile := rfl
@[simp] theorem State.ctx_updDie (d c : Nat) (f : Die → Die) : (s.updDie d f).ctx c = s.ctx c := rfl
@[simp] theorem State.ctx_count (i k e n c : Nat) : (s.count i k e n).ctx c = s.ctx c := rfl
@[simp] theorem State.tile_count (i k e n d t : Nat) : (s.count i k e n).tile d t = s.tile d t := rfl
@[simp] theorem State.die_count (i k e n d : Nat) : (s.count i k e n).die d = s.die d := rfl
@[simp] theorem State.tile_updCtx (c die tile : Nat) (f : Ctx → Ctx) : (s.updCtx c f).tile die tile = s.tile die tile := by
  simp [State.tile]
@[simp] theorem State.die_updCtx (c d : Nat) (f : Ctx → Ctx) : (s.updCtx c f).die d = s.die d := by
  simp [State.die]

end Sys2Proof.Machine
end

