-- ==== Sys2Proof/Machine/Physical.lean ====
section
/-! DEFINITION. The figures by which the module is fitted into a tray (chapter Electrical, optical and mechanical data, R621 to R641,
with R397, R398, R526 and R530): limits, connectors, pins, the optical plant, cooling and outline. They constrain what surrounds the
module; what the module itself does at its pins is in Power.lean (ALERT_N, the LED, the shutters). -/

namespace Sys2Proof.Machine

/-- A limit on a measured value; an absent end does not limit. -/
structure Limit where
  lo : Option Int := none
  hi : Option Int := none
  deriving DecidableEq, Repr

/-- Whether a value lies within a limit. -/
def Limit.holds (l : Limit) (v : Int) : Bool :=
  (match l.lo with | some a => decide (a ≤ v) | none => true) && (match l.hi with | some b => decide (v ≤ b) | none => true)

def within (a b : Int) : Limit := { lo := some a, hi := some b }
def atLeast (a : Int) : Limit := { lo := some a }
def atMost (b : Int) : Limit := { hi := some b }

-- ---------------------------------------------------------------- supplies and rails (R526, R530, R622, R624)

/-- One input supply. Voltages in tenths of a volt, power in watts. -/
structure SupplyFigures where
  nominal : Nat
  rated : Limit
  watts : Nat
  /-- the lowest input at which the module still runs -/
  lowest : Nat
  /-- blades of the supply and of its return, and how many carry the maximum current -/
  blades : List Nat
  returns : List Nat
  needed : Nat
  /-- tenths of a millisecond from 10 % to 90 %; amperes of inrush; µF behind the limiter; mV of ripple, peak to peak -/
  rise : Limit := within 5 200
  inrush : Nat
  capacitance : Nat
  ripple : Nat
  deriving DecidableEq, Repr

/-- VIN_CORE 0, VIN_IO 1, VIN_ANA 2 (R526, R622, R624). -/
def supplyFigures (v : Nat) : SupplyFigures :=
  match v with
  | 0 => { nominal := 240, rated := within 216 264, watts := 2250, lowest := 192, blades := [1, 2, 3, 4, 5, 6],
           returns := [7, 8, 9, 10, 11, 12], needed := 4, inrush := 40, capacitance := 3300, ripple := 240 }
  | 1 => { nominal := 240, rated := within 216 264, watts := 480, lowest := 192, blades := [13, 14], returns := [15, 16], needed := 1,
           inrush := 10, capacitance := 660, ripple := 240 }
  | _ => { nominal := 120, rated := within 114 126, watts := 70, lowest := 110, blades := [17], returns := [18], needed := 1,
           inrush := 3, capacitance := 220, ripple := 120 }

/-- The maximum continuous current in tenths of an ampere: the power limit at the lowest input voltage, rounded to the nearest
tenth as the table of R622 has it. -/
def SupplyFigures.maxCurrent (x : SupplyFigures) : Nat := (200 * x.watts + x.lowest) / (2 * x.lowest)

/-- The current that one blade carries, in tenths of an ampere, and how much longer a return blade is, in tenths of a millimetre
(R622, R623). -/
def bladeCurrent : Nat := 300
def returnBladeLonger : Nat := 15

/-- A rail: its nominal millivolts, the supply that feeds it, and whether it stays powered in standby (R530). -/
structure Rail where
  millivolts : Nat
  supply : Nat
  standby : Bool := false
  deriving DecidableEq, Repr

/-- The rail of a number 0 to 28 (R530). -/
def rail? (n : Nat) : Option Rail :=
  if n = 0 then some { millivolts := 1200, supply := 2 }
  else if n ≤ 4 then some { millivolts := 750, supply := 1 }
  else if n ≤ 8 then some { millivolts := 900, supply := 1 }
  else if n ≤ 12 then some { millivolts := 1800, supply := 1 }
  else if n ≤ 16 then some { millivolts := 3300, supply := 2 }
  else if n ≤ 18 then some { millivolts := 850, supply := 0 }
  else if n ≤ 20 then some { millivolts := 800, supply := 0 }
  else if n ≤ 22 then some { millivolts := 1800, supply := 0 }
  else if n ≤ 24 then some { millivolts := 1100, supply := 0 }
  else if n ≤ 26 then some { millivolts := 400, supply := 0 }
  else if n = 27 then some { millivolts := 1000, supply := 2, standby := true }
  else if n = 28 then some { millivolts := 3300, supply := 2, standby := true }
  else none

-- ---------------------------------------------------------------- the signal connector (R625 to R630)

/-- What a position of the signal connector carries; `p` and `n` tell the two wires of a pair apart. -/
inductive Pin where
  | gnd
  | pcieTx (port lane : Nat) (positive : Bool)
  | pcieRx (port lane : Nat) (positive : Bool)
  | refclk (port : Nat) (positive : Bool)
  | perst (port : Nat)
  | t1s (positive : Bool)
  | alert
  | monTxd
  | monRxd
  | mgmtId (bit : Nat)
  | present
  | nc
  deriving DecidableEq, Repr

/-- The pin at a row, A to H as 0 to 7, and a column, 1 to 40 (R625, R626). -/
def pinAt (row col : Nat) : Option Pin :=
  if 7 < row ∨ col = 0 ∨ 40 < col then none
  else if col ≤ 32 then
    let port := (col - 1) / 16
    let lane := (col - 1) % 16
    some (match row with
      | 1 => .pcieTx port lane true | 2 => .pcieTx port lane false
      | 5 => .pcieRx port lane true | 6 => .pcieRx port lane false
      | _ => .gnd)
  else some (match col, row with
    | 33, 1 => .refclk 0 true | 33, 2 => .refclk 0 false | 33, 5 => .refclk 1 true | 33, 6 => .refclk 1 false
    | 34, 1 => .t1s true | 34, 2 => .t1s false | 34, 4 => .perst 0 | 34, 5 => .perst 1 | 34, 6 => .alert
    | 35, 0 => .monTxd | 35, 1 => .monRxd | 35, 2 => .gnd
    | 35, n => .mgmtId (n - 3)
    | 36, 0 => .present
    | 37, _ | 38, _ | 39, _ | 40, _ => .nc
    | _, _ => .gnd)

/-- Which way a pin works: none for a pin that carries no signal. Both for the segment's pair. -/
inductive PinDir where
  | none | input | output | both
  deriving DecidableEq, Repr

def Pin.dir : Pin → PinDir
  | .gnd | .present | .nc => .none
  | .pcieTx .. | .alert | .monTxd => .output
  | .pcieRx .. | .refclk .. | .perst _ | .monRxd | .mgmtId _ => .input
  | .t1s _ => .both

/-- The 3.3 V LVCMOS pins, powered from rail 28 (R628, R629). -/
def Pin.lvcmos : Pin → Bool
  | .perst _ | .monRxd | .monTxd | .alert | .mgmtId _ => true
  | _ => false

/-- Whether a pin is high-impedance: an LVCMOS pin while VIN_ANA is absent (R629). -/
def State.highZ (s : State) (p : Pin) : Bool := p.lvcmos && !s.pwr.ana

/-- Whether a position is unconnected on the module: NC, and those of host port 1 where the module has none (R626, R627). -/
def State.unconnected (s : State) (p : Pin) : Bool :=
  match p with
  | .nc => true
  | .pcieTx 1 _ _ | .pcieRx 1 _ _ | .refclk 1 _ | .perst 1 => !s.hostFitted 1
  | _ => false

/-- Figures of the LVCMOS pins, in millivolts and milliamperes; the pull-up of an input in ohms, its leakage unpowered in
microamperes; the AC coupling of the host pairs in nanofarads; how much shorter PRESENT_N is, in tenths of a millimetre
(R626, R628 to R630). -/
def lvcmosVoh : Limit := atLeast 2400
def lvcmosVol : Limit := atMost 400
def lvcmosVih : Limit := atLeast 2000
def lvcmosVil : Limit := atMost 800
def lvcmosHysteresis : Limit := atLeast 100
def lvcmosAbsolute : Limit := within (-300) 3600
def lvcmosUnpowered : Limit := within 0 3600
def pullUpOhms : Nat := 47000
def unpoweredMicroamps : Limit := atMost 10
def pcieCouplingNanofarads : Nat := 220
def presentShorter : Nat := 10

/-- An undriven LVCMOS input reads 1, by its pull-up (R630). -/
def inputLevel (driven : Option Bool) : Bool := driven.getD true

/-- The node ID that the straps give: one tied to GND reads 0, an open one 1 (R630, R574). -/
def strapNodeId (tied : List Nat) : Nat :=
  ((List.range 5).map (fun n => if tied.contains n then 0 else 2 ^ n)).sum

-- ---------------------------------------------------------------- the optical ports and their fibres (R397, R398, R632 to R635)

/-- Where a port's receptacle lies: the upper row for ports 0 to 7, and its place from the left (R632). -/
def receptacle (p : Nat) : Bool × Nat := (decide (p < 8), p % 8)

/-- Centre wavelength of a lane in nanometres; the electrical lane of its I/O die that drives it (R397, R633). -/
def laneWavelength (i : Nat) : Nat := 1271 + 20 * i
def electricalLane (port i : Nat) : Nat := 8 * (port % 4) + i

/-- Rate of a port in one direction, in tenths of Gb/s: raw; after RS(544,514); after framing, 256 payload bytes in 272; each rounded
to the nearest tenth (R398). -/
def rateRaw : Nat := 8 * 2240
def rateFec : Nat := (rateRaw * 514 + 272) / 544
def rateFramed : Nat := (rateRaw * 514 * 256 + 544 * 136) / (544 * 272)

/-- Figures of a lane; powers, ratios and reflectance in tenths of dB and dBm, the centre's offset in tenths of a nanometre
(R633). -/
def laneOffset : Limit := within (-65) 65
def launchPower : Limit := within (-10) 25
def extinctionRatio : Limit := atLeast 35
def tdecq : Limit := atMost 34
def shutteredPower : Limit := atMost (-300)
def sensitivity : Int := -80
def receivedCheck : Limit := atLeast (-50)
def overload : Int := 35
def receiverDamage : Int := 50
def receptacleReflectance : Limit := atMost (-260)

/-- A fibre plant between two modules: lengths in centimetres, each connection's loss and reflectance in hundredths and tenths of dB, and
the channel's loss in tenths of dB. -/
structure FibrePlant where
  length : Nat
  other : Nat
  connections : List (Int × Int)
  loss : Int
  deriving DecidableEq, Repr

/-- R635, with R403 and R448. -/
def FibrePlant.ok (f : FibrePlant) : Bool :=
  decide (f.length ≤ 3000) && decide (f.other ≤ 3000) && decide (f.length - f.other ≤ 10) && decide (f.other - f.length ≤ 10)
  && decide (f.connections.length ≤ 4) && f.connections.all (fun c => decide (c.1 ≤ 75) && decide (c.2 ≤ -350)) && decide (f.loss ≤ 40)

-- ---------------------------------------------------------------- cooling and surroundings (R621, R636 to R638, R641)

/-- Coolant: inlet in tenths of a degree, flow in tenths of a litre each minute, static pressure in kPa, particles in µm. -/
structure Coolant where
  inlet : Int
  flow : Int
  pressure : Int
  particles : Int
  /-- propylene glycol 25 % by volume in the water, else water with inhibitor -/
  glycol : Bool
  deriving DecidableEq, Repr

/-- R636. -/
def Coolant.ok (c : Coolant) : Bool :=
  (within 150 450).holds c.inlet && (within 30 60).holds c.flow && (atMost 600).holds c.pressure && (atMost 50).holds c.particles

/-- Watts that the cold plate removes at full load, and of them that may leave to air (R636, R637). -/
def coldPlateWatts : Nat := 2680
def airWatts : Nat := 120

/-- Whether the system may stop the flow of coolant (R638). -/
def State.mayStopCoolant (s : State) : Bool :=
  (!s.pwr.core && !s.pwr.io) || s.pwr.st == .sleep || s.pwr.st == .held || s.pwr.st == .thermalOff

/-- The surroundings of a module: volts and temperatures in tenths, air speed in tenths of a metre each second, humidity in per
cent, altitude in metres. -/
structure Surroundings where
  vinCore : Int
  vinIo : Int
  vinAna : Int
  coolant : Coolant
  air : Int
  airSpeed : Int
  humidity : Int
  dewPoint : Int
  altitude : Int
  fibres : List FibrePlant
  /-- the module is fixed as R640 says -/
  mounted : Bool
  deriving DecidableEq, Repr

/-- The operating limits (R621): within them every typical and maximum figure holds (R7), and nothing throttles (R543). -/
def Surroundings.operating (x : Surroundings) : Bool :=
  (supplyFigures 0).rated.holds x.vinCore && (supplyFigures 1).rated.holds x.vinIo && (supplyFigures 2).rated.holds x.vinAna
  && x.coolant.ok && (within 100 350).holds x.air && (atLeast 10).holds x.airSpeed && (within 8 80).holds x.humidity
  && decide (x.dewPoint + 20 ≤ x.coolant.inlet) && (atMost 3000).holds x.altitude && x.fibres.all FibrePlant.ok && x.mounted

/-- Storage and handling (R641): temperature in degrees with the cold plate drained or filled, humidity in per cent. -/
def storageTemp (filled : Bool) : Limit := if filled then within 5 45 else within (-40) 70
def storageHumidity : Limit := within 5 95
/-- Mating cycles: power connector, signal connector, each receptacle, couplings (R641). -/
def matingCycles : List Nat := [250, 200, 500, 1000]

/-- The outline in millimetres: length, width, height, couplings' and plugs' projection; mass in grams drained and filled; coolant
volume in millilitres (R639). -/
def outline : List Nat := [280, 200, 40, 22, 35]
def massDrained : Nat := 4600
def massFilled : Nat := 4720
def coolantVolume : Nat := 120

/-- The screws and their torque in tenths of N·m (R640). -/
def screws : Nat := 6
def screwTorque : Limit := within 11 13

end Sys2Proof.Machine
end

