-- ==== Sys2Proof/Tests/Slice0.lean ====
section
/-! SUPPORT. Tests: ill-formed commands are refused, small steps give the values of the spec's rules and worked examples, and
for each statement with hypotheses a concrete state that meets them, clause by clause. -/

namespace Sys2Proof.Tests

open Sys2Proof Sys2Proof.Machine

-- One theorem after another: each elaboration thread reserves a stack of its own.
set_option Elab.async false

-- ---------------------------------------------------------------- well-formedness

/-- One ill-formed command for each check of WellFormed. -/
theorem test_wf_refuses : ([
    .nop 2 0, .nop 0 288, .tileopEngineDone 0 0 5, .beatTick 0 0 4, .tileIslandWrite 0 0 (2 ^ 64), .bankOwnerWrite 0 0 0 [256],
    .bankZeroDone 0 0 24, .ctxWindowWrite 16 0 0 [], .ctxWindowWrite 0 32 0 [], .weftAtomic 0 16 0 4 0 0 0, .weftLinkCrcError 0 288 0 0,
    .weftLinkCrcError 0 0 4 0, .streamerFetch 0 12, .streamLineArrival 0 0 16 0, .fabricRoute 0 (2 ^ 512) [], .fabricFlowWrite 4096 0,
    .supplySuspectClear 3, .commonCauseEnd 8, .laserPowerCheck 4 true, .hbmEyeCheck 8 0 true, .hbmEyeCheck 0 16 true,
    .vsenseCrossCheck 29 true, .rehCancel (2 ^ 256), .thermalSample 86 0, .refreshInterval 0 32, .hostFetchAdd 2 0 0 4 0,
    .msixHoldoffEnd 0 0 8, .dfGet 3 0 0 0, .dfKeyWrite 1 8 [], .monLogin (some 8), .monCtx (some 16)] : List Instr).all (fun i => !i.wf) = true := by
  decide +kernel

/-- Operands at the ends of their ranges are well formed. -/
theorem test_wf_admits : ([
    .nop 1 287, .tileopEngineDone 1 287 4, .bankZeroDone 0 0 23, .ctxWindowWrite 15 31 0 [255], .hbmEyeCheck 7 15 true, .monLogin none,
    .thermalSample 85 0, .dfKeyWrite 1 7 [], .fabricFlowWrite 4095 0] : List Instr).all Instr.wf = true := by decide +kernel

-- ---------------------------------------------------------------- states for tests

/-- A descriptor from the fields a test needs (R151). -/
def desc (op func fa fb fd d0 d1 d2 la lb ld aux : Nat) : Nat :=
  at_ 0 8 op + at_ 12 4 fa + at_ 16 4 fb + at_ 20 4 fd + at_ 24 8 func + at_ 32 16 0x100 + at_ 48 16 0x77 + at_ 128 32 d0
  + at_ 160 16 d1 + at_ 176 16 d2 + at_ 192 64 la + at_ 256 64 lb + at_ 320 64 ld + at_ 448 64 aux
def tmem (off : Nat) : Nat := at_ 60 4 1 + off
def loc (kind sel : Nat) : Nat := at_ 60 4 kind + sel
/-- A current card of context 1 whose one descriptor is `d`. -/
def slot1 (d : Nat) : Slot := {
  st := .current, ctx := 1, prog := [BitVec.ofNat 512 d], queueImgs := [(0, 1), (1, 1)], chanImgs := [(0, 1)]
  chans := [(0, { credits := 5 })] }
def tile1 (d : Nat) : Tile := {
  slots := [(0, slot1 d)], active := some 0
  banks := (List.range 24).map (fun b => (b, { valid := true, ctx := 1 })) }
/-- The module READY, tile 0.0 on site 1, context 1 ACTIVE, about to issue `d`. -/
def ready1 (d : Nat) : State := {
  pwr := { st := .ready, ctrlOn := true }, dies := [(0, { l2p := [(0, 1)] })], ctxs := [(1, { st := .active })]
  tiles := [(0, tile1 d)] }
/-- A queue's token of a kind and predicate value. -/
def token (kind pv : Nat) : QDesc := { word := BitVec.ofNat 256 (at_ 142 2 kind + at_ 141 1 pv + 0xABC * 2 ^ 192) }
/-- The same with tokens at the heads of queues 0 and 1. -/
def readyQ (d : Nat) : State := (ready1 d).updTile 0 0 (fun t => { t with
  queues := [(0, { st := .open_, items := [token 3 1, token 0 0] }), (1, { st := .open_, items := [token 0 0] })] })
def dXpose : Nat := desc 0x24 0 7 0 7 4 2 0 (tmem 0x1000) 0 (tmem 0x2000) 0
def dAdd : Nat := desc 0x20 0 1 1 1 2 2 0 (tmem 0x1000) (tmem 0x1100) (tmem 0x2000) 0
def dNop : Nat := desc 0x00 0 0 0 0 0 0 0 0 0 0 0
def dCard : Nat := desc 0x03 0 0 0 0 0 0 0 0 0 0 1
def dSend (f : Nat) : Nat := desc 0x30 f 0 0 0 4 0 0 (if f = 0 then tmem 0x1000 else 0) 0 (loc 5 0) 1
def dRecv : Nat := desc 0x31 0 0 0 0 0 0 0 (loc 5 0) 0 (tmem 0x2000) 0
def dSetq : Nat := desc 0x04 0 0 0 0 0 0 0 (loc 5 0) 0 (loc 9 2) 0
def dSetm : Nat := desc 0x04 1 0 0 0 0 0 0 (tmem 0x1003) 0 (loc 9 2) 0
def dChq : Nat := desc 0x04 2 0 0 0 0 0 0 (loc 5 0) (loc 5 1) (loc 5 0) 1
def next0 (s : State) : Desc := ((s.tile 0 0).slot 0).next
/-- An engine of tile 0.0 that executes an older tile-op. -/
def busy (e : Engine) (s : State) : State := s.updTile 0 0 (fun t => { t with ops := { id := 1, engine := e } :: t.ops })
/-- The tile's next descriptor as it would issue. -/
def op0 (s : State) : InFlight := s.issued 0 0 0 (next0 s)

-- ---------------------------------------------------------------- witnesses: tile-ops

theorem witness_ReadyDataTileopTakesEffect :
    (let s := ready1 dXpose
     s.readyOp 0 0 0x24 0 = some (0, next0 s) ∧ ((s.tile 0 0).slot 0).voids (next0 s) = false
     ∧ locKind (next0 s).locA ≠ .stream ∧ locKind (next0 s).locB ≠ .stream ∧ s.globalReads 0 0 (s.issued 0 0 0 (next0 s)) = [])
    ∧ (let s := ready1 dAdd
     s.readyOp 0 0 0x20 0 = some (0, next0 s) ∧ ((s.tile 0 0).slot 0).voids (next0 s) = false
     ∧ locKind (next0 s).locA ≠ .stream ∧ locKind (next0 s).locB ≠ .stream ∧ s.globalReads 0 0 (s.issued 0 0 0 (next0 s)) = []
     ∧ locKind (next0 s).locD ≠ .global) := by decide +kernel

theorem witness_TileopStoresOnlyItsDestination :
    (let s := ready1 dXpose
     s.readyOp 0 0 0x24 0 = some (0, next0 s) ∧ ∃ t, exec (.xpose 0 0) s = .next t) := by
  exact ⟨by decide +kernel, _, rfl⟩

theorem witness_OrderingTileopsEnterInOrder :
    (let s := ready1 dNop; s.readyOp 0 0 0x00 0 = some (0, next0 s) ∧ s.beginsNow 0 0 0 (next0 s) = true)
    ∧ (let s := ready1 (dNop + 1); s.readyOp 0 0 0x01 0 = some (0, next0 s) ∧ s.beginsNow 0 0 0 (next0 s) = true)
    ∧ (let s := ready1 (dNop + 2); s.readyOp 0 0 0x02 0 = some (0, next0 s) ∧ s.beginsNow 0 0 0 (next0 s) = true)
    ∧ (let s := (ready1 (desc 0x01 1 0 0 0 0 0 0 0 0 0 0)).updTile 0 0 (fun t => t.updSlot 0 (fun k => { k with syncs := [(0, 0x8001)] }))
       s.readyOp 0 0 0x01 1 = some (0, next0 s) ∧ s.beginsNow 0 0 0 (next0 s) = true)
    ∧ (let s := ready1 dCard; s.readyOp 0 0 0x03 0 = some (0, next0 s) ∧ s.beginsNow 0 0 0 (next0 s) = true
       ∧ ((s.tile 0 0).slot 0).voids (next0 s) = false)
    ∧ (let s := ready1 (dCard + at_ 24 8 1); s.readyOp 0 0 0x03 1 = some (0, next0 s) ∧ s.beginsNow 0 0 0 (next0 s) = true)
    ∧ ([(dNop, 0x00, 0), (dNop + 1, 0x01, 0), (dNop + 2, 0x02, 0), (dCard, 0x03, 0), (dCard + at_ 24 8 1, 0x03, 1), (dSetq, 0x04, 0),
      (dSetm, 0x04, 1), (dChq, 0x04, 2)].all (fun x =>
        let s := busy .controller (ready1 x.1)
        decide (s.readyOp 0 0 x.2.1 x.2.2 = some (0, next0 s)) && !s.beginsNow 0 0 0 (next0 s))) = true
    ∧ ([(dSend 0, 0x30, 0), (dSend 1, 0x30, 1), (dSend 2, 0x30, 2), (dSend 3, 0x30, 3), (dRecv, 0x31, 0)].all (fun x =>
        let s := busy .queueUnit (ready1 x.1)
        decide (s.readyOp 0 0 x.2.1 x.2.2 = some (0, next0 s)) && !s.beginsNow 0 0 0 (next0 s))) = true := by decide +kernel

theorem witness_SendTakesCreditAndStampsDescriptor :
    ([0, 1, 2, 3].all (fun f => let s := ready1 (dSend f)
      decide (s.readyOp 0 0 0x30 f = some (0, next0 s)) && s.beginsNow 0 0 0 (next0 s) && !s.refHeld 0 0 (op0 s)
      && decide ((s.tile 0 0).sendSt 0 0 = .go))) = true
    ∧ ([({ credits := 5, peer := .closed }, SendSt.closed), ({ credits := 5, peer := .fenced }, .fenced), ({}, .blocked)].all
      (fun (x : SendChan × SendSt) =>
        let s := (ready1 (dSend 1)).updTile 0 0 (fun t => t.updSlot 0 (fun k => { k with chans := [(0, x.1)] }))
        decide (s.readyOp 0 0 0x30 1 = some (0, next0 s)) && s.beginsNow 0 0 0 (next0 s) && !s.refHeld 0 0 (op0 s)
        && decide ((s.tile 0 0).sendSt 0 0 = x.2))) = true
    -- a REF through GLOBAL at a line whose store is held
    ∧ (let d := desc 0x30 0 0 0 0 64 0 0 (loc 7 0) 0 (loc 5 0) 0x40
       let s : State := { ready1 d with
         ctxs := [(1, { st := .active, windows := [(0, at_ 2 1 1 + 3)] })]
         accs := [{ kind := 1, addr := 0x40, len := 1, held := true, device := State.reset.device }] }
       s.readyOp 0 0 0x30 0 = some (0, next0 s) ∧ s.beginsNow 0 0 0 (next0 s) = true ∧ s.refHeld 0 0 (op0 s) = true) := by decide +kernel

theorem witness_TokenTileopsConsumeTheHead :
    ([(dRecv, 0x31, 0), (dSetq, 0x04, 0), (dSetm, 0x04, 1), (dChq, 0x04, 2)].all (fun x => [ready1 x.1, readyQ x.1].all (fun s =>
      decide (s.readyOp 0 0 x.2.1 x.2.2 = some (0, next0 s)) && s.beginsNow 0 0 0 (next0 s)
      && !((s.tile 0 0).slot 0).voids (next0 s)))) = true
    ∧ ((ready1 dRecv).tile 0 0).headToken 0 0 = none
    ∧ (let s := readyQ dSetq
       (s.tile 0 0).headToken 0 0 = some (token 3 1) ∧ (next0 s).func = 0 ∧ (token 3 1).poison = false ∧ (token 3 1).kind = 3
       ∧ (token 2 0).kind = 2)
    ∧ (let s := ready1 dSetm; s.linePoison (tileAddr 0 0 (locSel (next0 s).locA) / 64) = false)
    ∧ (let s := readyQ dChq
       locSel (next0 s).locB ≠ locSel (next0 s).locA ∧ (s.tile 0 0).headToken 0 0 = some (token 3 1)
       ∧ (s.tile 0 0).headToken 1 0 = some (token 0 0) ∧ (s.tile 0 0).sendSt 0 0 = .go) := by decide +kernel

theorem witness_TileopsTouchOnlyTheirTile : ∃ t, exec (.recv 0 0) (readyQ dRecv) = .next t := ⟨_, rfl⟩

theorem witness_FailedCheckRetiresWithoutIssuing :
    (let s := (ready1 dXpose).updTile 0 0 (fun t => { t with banks := [] })
     let d := next0 s
     s.issuer 0 0 = some 0 ∧ ((s.tile 0 0).slot 0).prog.isEmpty = false ∧ d.isForm 0x24 0 = true
     ∧ (s.tile 0 0).ops.any (fun e => hazardWith e (s.issued 0 0 0 d).reads (s.issued 0 0 0 d).writes.tail) = false
     ∧ (s.tile 0 0).checks.any (fun c => c.hazard (s.issued 0 0 0 d).reads (s.issued 0 0 0 d).writes.tail) = false
     ∧ (s.opCheck 1 0 0 (s.effLevel 1 0 0) (s.latchedOf 1).strict ((s.tile 0 0).slot 0) d).isSome = true) := by decide +kernel

-- ---------------------------------------------------------------- witnesses: tile events and the warp network

/-- A tile-op in flight, done and applied. -/
def opDone : InFlight := { id := 3, phase := .done, desc := BitVec.ofNat 512 dNop }
/-- An MMA in flight, done and applied. -/
def mmaDone : InFlight := { opDone with desc := BitVec.ofNat 512 0x10 }
/-- Tile 0.0 with these tile-ops in flight. -/
def readyOps (os : List InFlight) : State := (ready1 dNop).updTile 0 0 (fun t => { t with ops := os })

theorem witness_EngineAndIslandEventsTakeEffect :
    ([[], [({ id := 4, engine := .vector, phase := .waiting, desc := BitVec.ofNat 512 dXpose, applied := false } : InFlight)]].all (fun w =>
      let o : InFlight := { id := 3, engine := .vector }
      let s := readyOps (o :: w)
      !(s.tile 0 0).underTest && decide ((s.tile 0 0).executing (Engine.ofCode 2) = some o) && decide ((s.tile 0 0).op? o.id = some o)
      && s.opReady 0 0 o && (s.tile 0 0).ops.any (fun o => o.slot == 0 && o.phase == .executing && !o.todo)
      && decide (((s.tile 0 0).ops.filter (fun x => x.id != o.id)).find? (fun x => x.engine == Engine.ofCode 2 && x.phase == .waiting) = w.head?)
      && decide (w.all (fun x => (s.tile 0 0).op? x.id == some x)))) = true
    ∧ (ready1 dNop).siteOf 0 0 = some 0
    ∧ (let s := (ready1 dNop).updSite 0 0 (fun x => { x with fstep := 1 })
       s.siteOf 0 0 = some 0 ∧ (s.site 0 0).fstep ≠ (s.site 0 0).fapplied
       ∧ (s.tile 0 0).ops.any (fun o => o.phase == .executing) = false) := by decide +kernel

theorem witness_ComparisonOutcomesFollowTheTable :
    (let o : InFlight := { opDone with cmp := .pending }
     let s := readyOps [o]
     (s.tile 0 0).underTest = false ∧ (s.tile 0 0).checks = []
     ∧ (s.tile 0 0).ops.find? (fun o => o.cmp == .pending && o.phase == .done && o.applied) = some o ∧ (s.tile 0 0).rehMismatch = 0
     ∧ s.compareOp 0 0 o [] = ([], false))
    ∧ (let o : InFlight := { mmaDone with cmp := .pending }
     let s := readyOps [o]
     (s.tile 0 0).ops.find? (fun o => o.cmp == .pending && o.phase == .done && o.applied) = some o
     ∧ s.compareOp 0 0 o [0] ≠ ([], false) ∧ o.released = true)
    ∧ (let o : InFlight := { opDone with cmp := .pending, level := 4 }
     let s := readyOps [o]
     (s.tile 0 0).ops.find? (fun o => o.cmp == .pending && o.phase == .done && o.applied) = some o
     ∧ s.compareOp 0 0 o [81] ≠ ([], false) ∧ o.released = false ∧ o.reexecutable = true)
    -- a retired tile-op whose comparison is outstanding, and a reader of its destination
    ∧ ([opDone, mmaDone].all (fun o =>
       let c : Check := { op := { o with cmp := .pending }, seq := 1, written := true }
       let s := (readyOps [{ id := 4, derived := [3] }]).updTile 0 0 (fun t => { t with checks := [c] })
       !(s.tile 0 0).underTest && decide ((s.tile 0 0).checks = c :: []) && decide ((s.tile 0 0).rehMismatch = 0)
       && decide (((s.tile 0 0).slot c.op.slot).st = .current) && decide (s.hbm.fenced = []) && decide (s.recordFault 0 0 1 c.op.d = none)
       && (s.tile 0 0).ops.any (fun x => x.derived.contains c.op.id))) = true
    ∧ (let s := readyOps []
       (s.compareOp 0 0 opDone []).1 = [] ∧ (s.compareOp 0 0 mmaDone [0]).1 ≠ [])
    ∧ (let o : InFlight := { opDone with cmp := .failed }
       let s := readyOps [o]
       (s.tile 0 0).ops.find? (fun o => o.cmp == .failed && o.checkResult == 0) = some o ∧ s.compareOp 0 0 o [] = ([], false))
    ∧ (let o : InFlight := { mmaDone with cmp := .failed }
       let s := readyOps [o]
       (s.tile 0 0).ops.find? (fun o => o.cmp == .failed && o.checkResult == 0) = some o ∧ s.compareOp 0 0 o [0] ≠ ([], false))
    ∧ (let o : InFlight := { opDone with replay := true, replayDone := false }
       (readyOps [o] |>.tile 0 0).ops.find? (fun o => o.replay && !o.replayDone && o.replayDigest.isNone) = some o
       ∧ o.applied = true ∧ o.todo = false ∧ (readyOps [o] |>.tile 0 0).underTest = false
       ∧ ((readyOps [o]).sliceAt 0 (o.replayAt - 1)).st.testing = false)
    ∧ (let o : InFlight := { opDone with replay := true, replayDone := false, outDigest := some 5, replayDigest := some 5 }
       (readyOps [o] |>.tile 0 0).ops.find? (fun o => o.replay && !o.replayDone && o.replayDigest.isSome && o.phase == .done) = some o
       ∧ o.outDigest = o.replayDigest ∧ (readyOps [o] |>.tile 0 0).underTest = false) := by decide +kernel

theorem witness_RetirementWritesTheRecord :
    [opDone, { opDone with cmp := .pending, checkResult := 1 }].all (fun o =>
      let s := readyOps [o]
      decide ((s.tile 0 0).ops = o :: []) && s.retirable 0 0 o && decide (o.status = .ok) && !o.voided && decide (o.checkResult < 2)
      && !o.d.crErrOnly && decide (s.hbm.fenced = []) && decide (s.recordFault 0 0 1 o.d = none)
      && !(s.tile 0 0).zeroingIn (o.d.crOffset * 32) 32) = true := by decide +kernel

/-- Sites 0 and 1 of die 0 hold tiles 0 and 1; channel 0 of tile 0's card sends east on pick 1, to queue 2 of tile 1. -/
def warp1 : State := {
  pwr := { st := .ready, ctrlOn := true }
  dies := [(0, { l2p := [(0, 1), (1, 2)], pickOwner := [(1, 1)] })]
  ctxs := [(1, { st := .active })]
  tiles := [
    (0, { active := some 0, slots := [(0, {
      st := .current, ctx := 1, chanImgs := [(0, 1)], routes := [(2 * 16 + 1, at_ 31 1 1)]
      chans := [(0, { credits := 5, tx := [{ word := 7 }] })] })] }),
    (1, { slots := [(0, { st := .current, ctx := 1, routes := [(1, at_ 31 1 1 + at_ 28 3 4 + at_ 24 4 2)] })] })] }

/-- A pick that a loaded card of its owner claims, and one that none does. -/
theorem witness_PickOwnerMovesOnlyFreePicks :
    warp1.pickClaimed 0 (SMap.get 0 (warp1.die 0).pickOwner 1) 1 = true ∧ warp1.pickClaimed 0 (SMap.get 0 (warp1.die 0).pickOwner 15) 15 = false
    ∧ warp1.diePresent 0 = true ∧ ({ warp1 with factory := { computeDies := 1 } } : State).diePresent 1 = false := by
  decide +kernel

theorem witness_AdmittedTransferArrivesAtItsFrame :
    (let s := warp1
     let sl := (s.tile 0 0).slot 0
     (sl.chan 0).tx = { word := 7 } :: [] ∧ s.siteOf 0 0 = some 0
     ∧ (s.feeds 0 0 sl.ctx 0).find? (fun f => f.2 == 1) = some (2, 1) ∧ sl.st.isCurrent = true ∧ (sl.chan 0).peer ≠ .paused
     ∧ s.quiet 0 sl.ctx = false ∧ (s.tile 0 0).heldHead 0 { word := 7 } = false
     ∧ (s.die 0).flits.any (fun x => !x.stream && x.srcTile == 0 && x.srcChan == 0 && x.ctx == sl.ctx && x.pick == 1
       && x.frame == (s.die 0).frame + x.hops) = false
     ∧ s.pathFrom 0 sl.ctx 1 0 2 = some (1, 2, 1) ∧ s.tileAt 0 1 = some 1) := by decide +kernel

/-- A descriptor of context 1 has reached queue 2 of tile 0, which holds `q`. -/
def arriving (q : Queue) (word : BitVec 256) : State := { warp1 with
  dies := [(0, { flits := [{ ctx := 1, tile := 0, sink := 2, word := { word := word }, frame := 9 }] })]
  tiles := [(0, { queues := [(2, q)] })] }
def qOf1 (st : QSt) : Queue := { cfg := BitVec.ofNat 64 (at_ 52 4 1 + 8), st := st }
/-- The descriptor's context field (R275). -/
def word1 : BitVec 256 := BitVec.ofNat 256 (at_ 116 4 1)

theorem witness_DescriptorArrivalGoesByQueueState :
    (let s := arriving (qOf1 .open_) word1
     let x := (s.tile 0 0).queue 2
     ((s.die 0).flits.find? (fun f => !f.stream && f.tile == 0 && f.sink == 2)).isSome = true
     ∧ x.st = .open_ ∧ x.stale { word := word1 } = false ∧ (QDesc.spill { word := word1 }) = false ∧ x.ringCount = 0
     ∧ s.ringWaits 0 0 2 { word := word1 } = false
     ∧ (s.tile 0 0).currentSlot (qCtx x.cfg.toNat) = none)
    ∧ (let x := ((arriving (qOf1 .open_) 0).tile 0 0).queue 2; x.st = .open_ ∧ x.stale { word := 0 } = true ∧ x.rehStall = false)
    ∧ ((arriving (qOf1 .closed) 0).tile 0 0 |>.queue 2).st = .closed ∧ ((arriving (qOf1 .fenced) 0).tile 0 0 |>.queue 2).st = .fenced
    ∧ ((arriving (qOf1 .idle) 0).tile 0 0 |>.queue 2).st = .idle
    ∧ ([QSt.open_, .closed, .fenced, .idle].all (fun st => !(arriving (qOf1 st) 0).ringWaits 0 0 2 { word := 0 })) = true
    ∧ (let w := word1 + BitVec.ofNat 256 (2 ^ 140)
       let s := (arriving { qOf1 .open_ with ringCfg := 0x200000000000 } w).updTile 0 0 (fun t => { t with banks := [(0, { valid := true, ctx := 1, zeroing := true })] })
       s.ringWaits 0 0 2 { word := w } = true) := by decide +kernel

/-- A stream of tile 1's card on streamer 0 of die 0 (port 0, circuit 5), of 2 rows of 128 bytes from HBM. -/
def stream1 : Stream := {
  tile := 1, slot := 0, ctx := 1, desc := BitVec.ofNat 256 (at_ 144 16 2 + at_ 128 16 128 + at_ 112 16 1 + at_ 104 8 5) }
/-- Tile 1 on site 54, where streamer 0's port 0 feeds the router from the west; circuit 5 ends at stream port 0, which has `n`
credits. -/
def warpS (x : Stream) (n : Nat) : State := {
  dies := [(0, { l2p := [(1, 55)], pickOwner := [(1, 1)], streams := [(0, [x])] })]
  ctxs := [(1, { st := .active })]
  tiles := [(1, {
    slots := [(0, { st := .current, ctx := 1, routes := [(1, at_ 31 1 1 + at_ 28 3 4 + at_ 24 4 8 + at_ 8 8 5)] })]
    streams := [(0, { ctx := 1, circuit := 5, streamer := 0, valid := true, credits := n })] })] }

theorem witness_StreamLinesFlowUnderCredit :
    (let s := warpS stream1 0
     nextStream (Config.freeByte s.free).toNat ((s.die 0).streamsOf 0) = some 0 ∧ fetchLines stream1 0 ≠ 0 ∧ (s.ctx 1).st.running = true
     ∧ s.hbmBusy (sdAddr stream1.desc.toNat 0) (64 * fetchLines stream1 0) = false
     ∧ (let p := s.fetchAccess 0 0 stream1 (sdAddr stream1.desc.toNat 0) (fetchLines stream1 0)
        p.lost = false ∧ (s.answerPacket p).lost = false))
    ∧ ([([], 0), ([{}], 0), ([{}, {}], 1)].all fun (e : List Line × Nat) =>
        let x := { stream1 with buffer := e.1 }
        let s := warpS x e.2
        decide ((s.tile 0 x.tile).portOf x.ctx (sdCircuit x.desc.toNat) 0 = some 0) && decide ((s.tile 0 1).streamCredits (some 0) = e.2)
        && decide (((List.range ((s.die 0).streamsOf 0).length).find? (fun i =>
          let x := ((s.die 0).streamsOf 0).getD i {}
          decide (x.delivered < sdLines x.desc.toNat) && ((s.tile 0 x.tile).slot x.slot).st.isCurrent
            && (s.injection 0 1 x).isSome)) = some 0)
        && !s.quiet 0 1 && decide (s.injection 0 1 x = some (54, 4)) && decide (s.walk 0 1 1 64 54 4 0 = some (54, 8, 0))
        && !(s.die 0).flits.any (fun f => f.stream && f.srcTile == 1 && f.srcChan == 0 && f.ctx == 1 && f.pick == 1
          && f.frame == (s.die 0).frame + f.hops)
        && decide (s.tileAt 0 54 = some 1) && !((s.tile 0 1).stream (8 - 8)).paused) = true
    ∧ (let f : Flit := { ctx := 1, stream := true, tile := 1, sink := 8 }
       let s := { warpS stream1 0 with dies := [(0, { flits := [f] })] }
       (s.die 0).flits.find? (fun f => f.stream && f.tile == 1 && f.sink == 8 + 0) = some f
       ∧ ((s.tile 0 1).stream 0).valid = true ∧ ((s.tile 0 1).stream 0).ctx = f.ctx ∧ (s.ctx f.ctx).st.running = true
       ∧ (s.tile 0 1).ops = [])
    ∧ (let f : Flit := { ctx := 1, stream := true, tile := 1, sink := 11 }
       let s := { warpS stream1 0 with dies := [(0, { flits := [f] })] }
       (s.die 0).flits.find? (fun f => f.stream && f.tile == 1 && f.sink == 8 + 3) = some f
       ∧ ((s.tile 0 1).stream 3).valid = false) := by decide +kernel

theorem witness_CreditsAndNoticesReachTheirSource :
    (let s := { warp1 with dies := [(0, { credits := [{ ctx := 1, tile := 0, chan := 0, notice := 3, epoch := 0, count := 1 }] })] }
     ((s.die 0).credits[0]?).isSome = true ∧ (s.tile 0 0).currentSlot 1 = some 0 ∧ ((s.tile 0 0).slot 0).epoch = 0
     ∧ (((s.tile 0 0).slot 0).chan 0).peer ≠ .paused ∧ scKind (((s.tile 0 0).slot 0).chan 0).cfg.toNat ≠ 3)
    ∧ (let s := { warp1 with dies := [(0, { credits := [{ ctx := 1, tile := 0, chan := 0, epoch := 15, count := 1 }] })] }
     ((s.die 0).credits[0]?).isSome = true ∧ (s.tile 0 0).currentSlot 1 = some 0 ∧ ((s.tile 0 0).slot 0).epoch ≠ 15
     ∧ (((s.tile 0 0).slot 0).chan 0).graceUntil = 0)
    ∧ ([(5, some 0), (6, none)].all fun (e : Nat × Option Nat) =>
       let s := { warpS stream1 511 with dies := [(0, { credits := [{ stream := true, ctx := 1, tile := 1, chan := 0, circuit := e.1, count := 1 }] })] }
       decide (((s.die 0).credits[0]?).map (·.stream) = some true) && decide ((s.tile 0 1).currentSlot 1 = some 0)
       && decide (((s.tile 0 1).slot 0).epoch = 0) && decide ((s.tile 0 1).portOf 1 e.1 0 = e.2)) = true
    -- behind an older credit of its circuit, and behind one of another
    ∧ (let e : Credit := { ctx := 1, tile := 0, chan := 0 }
       ([e, e].take 1).any e.sameCircuit = true ∧ ([{ e with chan := 15 }, e].take 1).any e.sameCircuit = false) := by decide +kernel

/-- A SEND that executes out of credits, and a RECV that executes on the empty queue 0 while queue 1 of the card is full (depth 1,
no ring). -/
def waiting1 (d : Nat) (e : Engine) : InFlight := { id := 3, desc := BitVec.ofNat 512 d, engine := e, todo := true }
def stalledSend : State := (readyOps [waiting1 (dSend 0) .queueUnit]).updTile 0 0 (fun t => t.updSlot 0 (fun k => { k with chans := [(0, {})] }))
def stalledJoin : State := (readyOps [waiting1 dRecv .queueUnit]).updTile 0 0 (fun t => { t with
  queues := [(1, { cfg := BitVec.ofNat 64 (at_ 52 4 1), st := .open_, items := List.replicate (qDepth (at_ 52 4 1)) {} })] })

theorem witness_StallReportsCountAndMark :
    ([false, true].all (fun named =>
     let o := waiting1 (dSend 0) .queueUnit
     let s := stalledSend.updTile 0 0 (fun t => { t with queues := [(0, { joinNamed := named })] })
     let w := (((s.tile 0 0).slot 0).chan 0).cfg.toNat
     decide ((s.tile 0 0).blocked.find? (s.tile 0 0).sendStalls = some o) && !(s.tile 0 0).underTest
     && decide (o.d.sendChan.getD 0 = 0) && decide (((s.tile 0 (scDestTile w)).queue (scDestQ w)).joinNamed = named))) = true
    ∧ (let s := stalledJoin
     let o := waiting1 dRecv .queueUnit
     let sl := (s.tile 0 0).slot 0
     (s.tile 0 0).blocked.find? (fun o => o.d.recvQueues.contains 0) = some o ∧ (s.tile 0 0).underTest = false
     ∧ ((s.tile 0 0).queue 0).items = [] ∧ ((s.tile 0 0).queue 0).ringCount = 0 ∧ ((s.tile 0 0).queue 1).full = true
     ∧ SMap.get 0 sl.queueImgs 1 ≠ 0 ∧ qCtx ((s.tile 0 0).queue 1).cfg.toNat = sl.ctx ∧ ((s.tile 0 0).queue 1).joinNamed = false
     ∧ o.stallRaised = false)
    ∧ (State.reset.tile 0 0).blocked = [] := by decide +kernel

/-- A SYNC GROUP tile-op that heads its card, of barrier 0 with `n` members. -/
def syncing (n : Nat) (go : Bool) : State := (ready1 dNop).updTile 0 0 (fun t => { t.updSlot 0 (fun k => { k with syncs := [(0, n)] }) with
  ops := [{ id := 3, syncWait := true, syncGo := go, desc := BitVec.ofNat 512 (desc 0x01 1 0 0 0 0 0 0 0 0 0 0) }] })

theorem witness_PausesAndBarriersHoldTheirTiles :
    ({ State.reset with cur := { replacements := [{ spareOk := true }] } }).cur.replacements.any
      (fun r => r.die == 0 && r.tile == 0 && r.spareOk) = true
    ∧ (let s := (ready1 dNop).updTile 0 0 (fun t => { t with paused := true })
       (s.tile 0 0).paused = true ∧ s.cur.replacements.any (fun r => r.die == 0 && r.tile == 0) = false)
    ∧ (let s := syncing 1 false
       let o := (s.tile 0 0).ops.headD {}
       (s.tile 0 0).syncHead = some (o, 1, 0) ∧ o.arrived = false
        ∧ 1 ≤ ((s.updOp 0 0 o.id (fun o => { o with arrived := true })).syncArrived 0 1 0).length)
    ∧ (let s := syncing 2 false
       let o := (s.tile 0 0).ops.headD {}
       (s.tile 0 0).syncHead = some (o, 1, 0) ∧ o.arrived = false
        ∧ ((s.updOp 0 0 o.id (fun o => { o with arrived := true })).syncArrived 0 1 0).length < 2)
    ∧ (let s := syncing 1 true
       let o := (s.tile 0 0).ops.headD {}
       (s.tile 0 0).syncHead = some (o, 1, 0) ∧ o.syncGo = true) := by decide +kernel

-- ---------------------------------------------------------------- witnesses: cards and the sequencer

/-- The image's address, header words without and with its CRC. -/
def imgA : Nat := 0x100000000000
def imgH0 : Nat := 0xC4D1 + at_ 16 8 1 + at_ 63 9 1
/-- An image of one NOP and no wiring (R295): the header with the CRC over the whole image. -/
def imgHeader : Nat := imgH0 + at_ 128 32 1029917565
/-- Slot 0 of tile 0.0 loads the image for node 0 of context 0's graph. -/
def loading1 (h : Nat) : State := { State.reset.memWrite imgA (leBytes 64 h) false with
  ctx0 := { st := .active, graph := some { checked := true, nodes := [{ kind := 1, cards := [(0, 0)], slots := [(0, 1)] }], sections := [0] } }
  dies := [(0, { l2p := [(0, 1)] })]
  tiles := [(0, { slots := [(0, { st := .loading, image := imgA })] })] }
def img1 : Image := ((loading1 imgHeader).memRead imgA 0x340).1

theorem img_blank : img1.take 16 ++ [0, 0, 0, 0] ++ img1.drop 20
    = leBytes 64 imgH0 ++ (List.replicate 256 0 ++ (List.replicate 256 0 ++ List.replicate 256 0)) := by decide +kernel

theorem img_crc : crc32 (img1.take 16 ++ [0, 0, 0, 0] ++ img1.drop 20) = 1029917565 := by
  have h0 : (leBytes 64 imgH0).foldl crc32Step 0xFFFFFFFF = 486761782 := by decide +kernel
  have z (a b : Nat) (h : (List.replicate 64 0).foldl crc32Step a = b := by decide +kernel) : (List.replicate 64 0).foldl crc32Step a = b := h
  have e : List.replicate 256 0 = List.replicate 64 0 ++ (List.replicate 64 0 ++ (List.replicate 64 0 ++ List.replicate 64 0)) := by
    simp only [List.replicate_append_replicate]
  rw [img_blank, crc32, e]
  simp only [List.foldl_append, h0, z 486761782 2795196088, z 2795196088 821444731, z 821444731 3769367730, z 3769367730 3682035575,
    z 3682035575 1308808825, z 1308808825 2494001355, z 2494001355 960045952, z 960045952 4044069435, z 4044069435 1832620946,
    z 1832620946 1863458439, z 1863458439 129970680, z 129970680 3265049730]
  decide +kernel

theorem img_header : img1.badHeader = false := by
  unfold Image.badHeader
  rw [img_crc]
  decide +kernel

theorem img_loads : (loading1 imgHeader).loadCheck 0 0 0 imgA = (.ok, img1) := by
  have a1 : (loading1 imgHeader).imageAt 0 0 0 imgA 64 = true := by decide +kernel
  have a2 : (loading1 imgHeader).imageSpan imgA = 0x340 := by decide +kernel
  have a9 : (loading1 imgHeader).siteOf 0 0 = some 0 := by decide +kernel
  have b9 : img1.badType 0 = false := by decide +kernel
  have a3 : (loading1 imgHeader).imageAt 0 0 0 imgA 0x340 = true := by decide +kernel
  have a4 : ((loading1 imgHeader).memRead imgA 0x340).2 = false := by decide +kernel
  have a5 : img1.badWiring = false := by decide +kernel
  have a6 : (loading1 imgHeader).badClaim 0 0 0 img1 = false := by decide +kernel
  have a7 : (loading1 imgHeader).badRing 0 0 0 img1 = false := by decide +kernel
  have a8 : (loading1 imgHeader).badStream 0 img1 = false := by decide +kernel
  have im : ((loading1 imgHeader).memRead imgA 0x340).1 = img1 := rfl
  unfold State.loadCheck
  rw [a1, a2]
  simp only [a3, a4, a9, b9, im, img_header, a5, a6, a7, a8, Bool.not_true, Bool.or_self, Bool.false_eq_true, if_false]

theorem witness_LoadedCardHoldsItsImage :
    (let s := loading1 imgHeader
     let sl := (s.tile 0 0).slot 0
     let g := ((s.ctx 0).graph).getD {}
     sl.st = .loading ∧ (s.ctx sl.ctx).st.running = true ∧ sl.image = imgA ∧ sl.ctx = 0 ∧ (s.ctx sl.ctx).graph = some g
     ∧ (g.nodes.map (·.idx)).Nodup ∧ (s.tile 0 0).underTest = false ∧ s.zeroingAt sl.image (s.imageSpan sl.image) = false ∧ s.weftBroken = false
     ∧ g.ended sl.node = false ∧ (∀ n ∈ g.nodes, n.idx = sl.node → ∀ e ∈ n.cards, SMap.get 0 n.slots e.1 ≠ 0)
     ∧ g.wrongSection sl.node img1.header = false)
    ∧ (loading1 imgHeader).loadCheck 0 0 0 imgA = (.ok, img1)
    ∧ (let s := loading1 0
     let sl := (s.tile 0 0).slot 0
     let g := ((s.ctx 0).graph).getD {}
     sl.st = .loading ∧ (s.ctx sl.ctx).st.running = true ∧ (s.loadCheck sl.ctx 0 0 sl.image) = (.badOp, []) ∧ Status.badOp ≠ .ok
     ∧ (s.tile 0 0).underTest = false ∧ s.zeroingAt sl.image (s.imageSpan sl.image) = false ∧ s.weftBroken = false
     ∧ (s.ctx sl.ctx).graph = some g ∧ g.ended sl.node = false) :=
  ⟨by decide +kernel, img_loads, by decide +kernel⟩

/-- Slot 0 of tile 0.0 is asked to switch to slot 1; `m` is its MATCH, `grp` its SWITCH_GROUP. -/
def switching (m grp : Nat) (ph : SwPhase) (tg : SlotSt) : State := {
  ctxs := [(1, { st := .active })], dies := [(0, { l2p := [(0, 1)] })]
  tiles := [(0, { active := some 0, slots := [
    (0, { st := .current, ctx := 1, swPhase := ph, swTarget := 1, cardMatch := m, header := BitVec.ofNat 512 (at_ 47 4 grp) }),
    (1, { st := tg, ctx := 1 })] })] }

theorem witness_ReadyCardsSwitchLocallyOrArrive :
    (let s := switching 2 0 .waiting .empty
     s.cardWait 0 0 0 = 2 ∧ ((s.tile 0 0).slot 1).st = .empty)
    ∧ (let s := (switching 2 0 .waiting .loaded).updTile 0 0 (fun t => t.updSlot 1 (fun x => { x with ctx := 2 }))
       let sl := (s.tile 0 0).slot 0
       let x := (s.tile 0 0).slot sl.swTarget
       (s.tile 0 0).underTest = false ∧ (s.tile 0 0).stopped = false ∧ sl.st.isCurrent = true ∧ sl.swPhase = .waiting ∧ sl.swSection = false
       ∧ x.st ≠ .empty ∧ x.st ≠ .loading ∧ x.ctx ≠ sl.ctx)
    ∧ (let s := switching 0 0 .waiting .loaded
       let sl := (s.tile 0 0).slot 0
       (s.tile 0 0).underTest = false ∧ (s.tile 0 0).stopped = false ∧ sl.st.isCurrent = true ∧ sl.swPhase = .waiting ∧ sl.swSection = false
       ∧ s.cardWait 0 0 0 = 0 ∧ ¬ (sl.cardMatch.testBit sl.swTarget = true ∧ hdrGroup sl.header.toNat = 0))
    ∧ (let s := switching 2 15 .waiting .loaded
       let sl := (s.tile 0 0).slot 0
       s.cardWait 0 0 0 = 0 ∧ ¬ (sl.cardMatch.testBit sl.swTarget = true ∧ hdrGroup sl.header.toNat = 0))
    ∧ (let s := switching 2 0 .waiting .loaded
       let sl := (s.tile 0 0).slot 0
       s.cardWait 0 0 0 = 0 ∧ sl.cardMatch.testBit sl.swTarget = true ∧ hdrGroup sl.header.toNat = 0 ∧ sl.swTarget ≠ 0)
    ∧ (let s := switching 0 0 .arrived .loaded
       let sl := (s.tile 0 0).slot 0
       (s.tile 0 0).arrivedSlot 1 = some 0 ∧ (s.die 0).groups = [] ∧ sl.st.isCurrent = true ∧ sl.swSection = false
       ∧ hdrGroup sl.header.toNat = 0 ∧ s.anyPaused 0 1 = false) := by decide +kernel

/-- The switch unit of die 0 with one group of context 1: tile 0's arrival, committed for frame 321. -/
def grouped (quiet : Bool) : State := { switching 0 0 .arrived .loaded with
  dies := [(0, { groups := [{ ctx := 1, quiet := quiet, commit := some 321, arrivals := [{ tile := 0, slot := some 0, target := some 1 }] }] })] }

theorem witness_GroupSwitchTakesEffectTogether :
    (((grouped false).die 0).group? 1 0 (fun g => g.commit.isSome && !g.quiet)).isSome = true
    ∧ (((grouped true).die 0).group? 1 0 (fun g => g.commit.isSome && g.quiet)).isSome = true
    ∧ (((grouped true).die 0).flits.any (fun f => f.ctx == 1)) = false
    ∧ (((grouped true).die 0).groups.all (fun g => decide ((g.arrivals.map (·.tile)).Nodup))) = true
    ∧ (State.reset.ctx 1).st.running = false := by decide +kernel

/-- A graph descriptor at HBM address 0 of one node, whose table lies at 0x40 and state at 0x80 (R323). -/
def graphHeader : Nat :=
  let h := 0x5E9C + at_ 16 8 1 + at_ 200 24 1 + at_ 282 46 0x40 + at_ 466 46 0x80
  h + at_ 96 32 (crc32 (leBytes 64 h))
/-- Context 0 runs `g`, whose descriptor and node table (one entry `e`) are in memory. -/
def running1 (g : Graph) (e : Nat) : State :=
  { ((State.reset.memWrite 0 (leBytes 64 graphHeader) false).memWrite 0x40 (leBytes 32 e) false) with
    pwr := { st := .ready, ctrlOn := true }, ctx0 := { st := .active, graph := some g } }
/-- The same graph as the check left it, with these nodes. -/
def graph1 (ns : List Node) : Graph := { checked := true, header := BitVec.ofNat 512 graphHeader, nodes := ns }
/-- A BARRIER entry of die 0 (R324). -/
def barrierEntry : Nat := at_ 128 16 0xFFFF

theorem witness_SubmissionsQueueAndStartInOrder :
    ((State.reset.ctx 1).st ≠ .active ∧ fld (2 ^ 46) 46 2 ≠ 0 ∧ fld 1 0 6 ≠ 0
     ∧ 8 ≤ (({ State.reset with ctx0 := { st := .active, subs := List.replicate 8 {} } } : State).ctx 0).subs.length)
    ∧ (¬ ((State.reset.ctx 0).st ≠ .active ∨ fld 64 46 2 ≠ 0 ∨ fld 64 0 6 ≠ 0 ∨ 8 ≤ (State.reset.ctx 0).subs.length)
      ∧ (State.reset.ctx 0).graph = none ∧ (State.reset.ctx 0).subs = [])
    ∧ (let s := running1 {} barrierEntry
       ((s.ctx 0).graph.map (·.checked)) = some false ∧ s.weftBroken = false ∧ (s.ctx 0).st.running = true ∧ (∃ p, s.graphCheck 0 0 = .inr p) ∧ s.graphCheck 0 0x2000 = .inl (.badGraph, 0x2000))
    ∧ (let g := graph1 []
       let s := running1 g barrierEntry
       (s.ctx 0).graph = some g ∧ g.checked = true ∧ g.failed = false ∧ (s.ctx 0).st.running = true ∧ s.diePresent 0 = true
       ∧ s.weftBroken = false ∧ 0 < ghNodes g.header.toNat ∧ neDie (s.memNat (ghNode g.header.toNat) 32) = 0
       ∧ (s.ctx 0).nodesOn 0 false < (s.ctx 0).residentQuota ∧ s.nodesOn 0 false < 8192
       ∧ ∃ n, s.readNode 0 g.header.toNat 0 = .inr n)
    ∧ ((let s := running1 (graph1 []) 0; s.readNode 0 graphHeader 0 = .inl (.badGraph, 0x40))
      ∧ (graph1 []).concerned { sect := 0xFFFF } = false
      ∧ ({ graph1 [] with delayed := [(0, true)] } : Graph).concerned { sect := 0xFFFF, preds := [0] } = true) := by
  refine ⟨?_, ?_, ⟨?_, ?_, ?_, ⟨(graphHeader, []), ?_⟩, ?_⟩, ?_, ?_⟩
  case refine_8 =>
    iterate 10 (refine And.intro ?_ ?_; · decide +kernel)
    exact ⟨{ sect := 0xFFFF }, by decide +kernel⟩
  all_goals decide +kernel

/-- What holds of every listed value and of the default holds of every value read. -/
theorem get_all {α : Type} {p : α → Prop} {d : α} {m : SMap α} (hd : p d) (h : ∀ e ∈ m, p e.2) (k : Nat) : p (SMap.get d m k) := by
  induction m with
  | nil => exact hd
  | cons e m ih =>
    unfold SMap.get
    split
    · exact h e (List.mem_cons_self ..)
    · exact ih (fun x hx => h x (List.mem_cons_of_mem _ hx))

/-- A module none of whose banks is being zeroed. -/
theorem zeroing_none {s : State} (h : s.tiles.all (fun e => e.2.banks.all (fun b => !b.2.zeroing)) = true) (a n : Nat) :
    s.zeroingAt a n = false := by
  have hz (d t off : Nat) : (s.tile d t).zeroingIn off n = false := by
    have ht : (s.tile d t).banks.all (fun b => !b.2.zeroing) = true :=
      get_all (p := fun t : Tile => t.banks.all (fun b => !b.2.zeroing) = true) rfl (List.all_eq_true.mp h) _
    rw [Tile.zeroingIn, List.any_eq_false]
    intro b hb
    have := List.all_eq_true.mp ht b hb
    simp_all
  unfold State.zeroingAt
  split
  · simp [hz]
  · rfl

/-- No bank of the states above, nor of those whose ring is refilled or whose completion waits, is being zeroed. -/
theorem witness_NoZeroing (x : Graph) (e : Nat) (r : RingQ) :
    (∀ a n, (running1 x e).zeroingAt a n = false) ∧ (∀ a n, warp1.zeroingAt a n = false)
    ∧ (∀ a n, ({ State.reset with ctx0 := { st := .active, cq := r, cqWait := [{ entry := 6 }] } } : State).zeroingAt a n = false) :=
  ⟨zeroing_none rfl, zeroing_none rfl, zeroing_none rfl⟩

/-- Context 0 of a module whose port 0 is up; no request waits there. -/
theorem witness_DoorbellThroughBar0 :
    let s : State := { State.reset with pwr := { st := .ready, ctrlOn := true }, host := [(0, { st := .up })] }
    (s.hostGate 0 0 none).isNone = true ∧ s.hostBehind 0 0 = false ∧ 0x0011002D00000000 < 2 ^ 64 := by decide +kernel

/-- Context 0 runs `g`, with this state of its slot 0 of tile 0.0 and these accesses. -/
def running2 (g : Graph) (k : Slot) : State := {
  pwr := { st := .ready, ctrlOn := true }, ctx0 := { st := .active, graph := some g }
  dies := [(0, { l2p := [(0, 1)] })], tiles := [(0, { slots := [(0, k)] })] }
def cardsNode : Node := { kind := 1, st := .inFlight, launched := true, cards := [(0, 0)], slots := [(0, 1)] }

theorem witness_NodesLaunchReleaseAndComplete :
    (let g := graph1 [{ kind := 0 }]
     let s := running2 g {}
     (s.ctx 0).graph = some g ∧ g.checked = true ∧ g.failed = false ∧ (s.ctx 0).st.running = true ∧ g.gateOpen 0 0 = true
     ∧ s.grantAwake 0 = true
     ∧ g.nodes.find? (fun n => n.die == 0 && !n.launched && n.st != .posting && g.ready n) = some { kind := 0 }
     ∧ s.flightRoom 0 0 = true)
    -- as many nodes in flight as the context may have, so that none has room
    ∧ (let q := (running2 {} {}).ctx 0 |>.inflightQuota
       let g := graph1 ({ kind := 0 } :: List.replicate q { cardsNode with idx := 1 })
       let s := running2 g {}
       g.nodes.find? (fun n => n.die == 0 && !n.launched && n.st != .posting && g.ready n) = some { kind := 0 }
       ∧ s.flightRoom 0 0 = false)
    ∧ (let g := graph1 [{ kind := 3, st := .inFlight, launched := true }]
       let s := running1 g (barrierEntry + 3)
       (s.ctx 0).graph = some g ∧ (s.ctx 0).st.running = true ∧ g.checked = true ∧ g.tag = fld 0 48 16 ∧ 0 < ghNodes g.header.toNat
       ∧ neKind (s.memNat (ghNode g.header.toNat) 32) = 3 ∧ (g.node? 0).isSome = true)
    ∧ (State.reset.ctx 0).graph = none
    ∧ (let g := { graph1 [] with done := [(0, true)] }
       ((running2 g {}).ctx 0).graph = some g ∧ SMap.get false g.done 0 = true ∧ g.untold = [])
    ∧ (let g := graph1 [cardsNode]
       let s := running2 g { st := .finished }
       (s.ctx 0).graph = some g ∧ g.node? 0 = some cardsNode ∧ (s.ctx 0).st.running = true ∧ cardsNode.kind = 1
       ∧ cardsNode.st = .inFlight ∧ (∀ e ∈ cardsNode.cards, s.cardEnded 0 cardsNode e.1 = true) ∧ s.accs = [])
    ∧ (let n := { cardsNode with haltStatus := .badOp }
       let g := graph1 [n]
       let s := running2 g { st := .halted }
       g.node? 0 = some n ∧ (∀ e ∈ n.cards, s.cardEnded 0 n e.1 = true) ∧ n.haltStatus ≠ .ok) := by decide +kernel

/-- A section of die 0 with one tile and one card in its switch (R326), GATED or not. -/
def sect1 (gated : Nat) : BitVec 128 := BitVec.ofNat 128 (at_ 94 9 1 + at_ 76 9 1 + at_ 72 1 gated)

theorem witness_SectionsGatesAndGraphsClose :
    (let g := { graph1 [cardsNode] with sections := [sect1 0] }
     let s := running2 g { st := .loaded }
     (s.ctx 0).graph = some g ∧ g.checked = true ∧ g.failed = false ∧ (s.ctx 0).st.running = true ∧ SMap.get 0 g.switching 0 = 0
     ∧ g.overfull 0 = none ∧ g.nextSect 0 = some 0 ∧ s.mayswitch g 0 0 = true)
    ∧ (let s := (running2 {} { st := .current })
       (s.tile 0 0).currentSlot 0 = some 0 ∧ ((s.tile 0 0).slot 0).swPhase = .none)
    ∧ (let g := { graph1 [] with sections := [sect1 1], gateReached := [(2, 1)] }
       let s := running2 g {}
       (s.ctx 0).graph = some g ∧ g.checked = true ∧ g.isGate 1 = true ∧ SMap.get 0 g.gateReached (2 * 1 + 0) ≠ 0
       ∧ SMap.get false g.gatesOpen (2 * 1 + 0) = false ∧ s.launchValue 0 g 1 ≤ s.ftc)
    ∧ (let g := { graph1 [] with nodesDone := 1 }
       let s := running2 g {}
       (s.ctx 0).graph = some g ∧ g.checked = true ∧ g.finished = false ∧ (s.ctx 0).st.running = true
       ∧ g.nodesDone = ghNodes g.header.toNat ∧ SMap.get 0 g.switching 0 = 0 ∧ SMap.get 0 g.switching 1 = 0)
    ∧ (let g := { graph1 [{}] with failed := true }
       g.finished = false ∧ g.failed = true ∧ g.nodes.any (·.inFlight) = false)
    ∧ (let g := { graph1 [] with finished := true, closed := [(0, true), (1, true)] }
       let s := running2 g { st := .finished }
       (s.ctx 0).graph = some g ∧ g.finished = true ∧ (s.ctx 0).st.running = true ∧ g.untold = []
       ∧ (∀ d, d < s.factory.computeDies → SMap.get false g.closed d = true)) := by decide +kernel

/-- In the same state no slot is loading. -/
theorem witness_GraphDone_noLoad (d tile k : Nat) :
    let s := running2 { graph1 [] with finished := true, closed := [(0, true), (1, true)] } { st := .finished }
    ((s.tile d tile).slot k).st = .loading → ((s.tile d tile).slot k).ctx ≠ 0 := by
  intro s h
  exfalso
  by_cases ht : tkey d tile = 0
  · by_cases hk : k = 0
    · subst hk
      simp [s, State.tile, ht, running2, Tile.slot, SMap.get] at h
    · simp [s, State.tile, ht, running2, Tile.slot, SMap.get, Ne.symm hk] at h
  · simp [s, State.tile, running2, Tile.slot, SMap.get, Ne.symm ht] at h

/-- Context 0 with this completion queue ring, and one entry waiting. -/
def ringed (r : RingQ) : State := { State.reset with ctx0 := { st := .active, cq := r, cqWait := [{ entry := 6 }] } }

theorem witness_RingsFillInOrderAndConfigureWhenOff :
    ((ringed { enable := true, tail := 16 }).ringRoom 0 .cq = .full ∧ (ringed { enable := true, tail := 15 }).ringRoom 0 .cq = .room
     ∧ (ringed {}).ringRoom 0 .cq = .disabled ∧ (ringed { enable := true, base := BitVec.ofNat 64 0x004800000000 }).ringRoom 0 .cq = .badTarget)
    ∧ (let s : State := { ringed { enable := true, host := true, tail := 15 } with
        pwr := { st := .ready, ctrlOn := true }, host := [(0, { st := .up, fns := [(0, { busMaster := true })] })] }
       s.ringRoom 0 .cq = .room ∧ ((s.ctx 0).cq).host = true)
    ∧ (fld 3 0 5 < 4 ∧ 16 < fld 17 0 5 ∧ 4 ≤ fld 4 0 5 ∧ fld (2 ^ 31 + 16) 0 5 ≤ 16 ∧ bitOf (2 ^ 31 + 16) 31 = true ∧ bitOf 4 31 = false
      ∧ ((ringed {}).ctx 0 |>.ring .cq).enable = false ∧ ((ringed { enable := true }).ctx 0 |>.ring .cq).enable = true) := by
  decide +kernel

-- ---------------------------------------------------------------- witnesses: contexts and resets

/-- A window entry (R220): VALID with these rights, from page `b` to page `e` inclusive. -/
def win (rights b e : Nat) : Nat := at_ 76 34 e + at_ 30 34 b + at_ 2 1 1 + rights
/-- Context `c` in this state. -/
def ctxIs (c : Nat) (x : Ctx) : State := { State.reset with ctxs := [(c, x)] }

theorem witness_BanksWindowsAndGrantsTakeEffect :
    (([0x81] : List Nat)[0]? = some 0x81 ∧ 23 + 0 < 24
      ∧ (ready1 dNop).tilePresent 0 0 = true ∧ (ready1 dNop).diesRun = true ∧ State.reset.diesRun = false
      ∧ (ready1 dNop).tilePresent 0 287 = false)
    ∧ (let s : State := { State.reset with tiles := [(0, { banks := [(23, { zeroing := true })] })] }
       ((s.tile 0 0).bank 23).zeroing = true ∧ (s.port 0).held = [] ∧ (s.port 1).held = [])
    -- a staged byte; a bad entry; a narrowing of a running context; a plain write
    ∧ (¬ 15 < 0 + [5].length)
    ∧ (15 < 0 + (leBytes 16 (win 3 5 4)).length ∧ winValid (winMask (putBytes 0 0 (leBytes 16 (win 3 5 4)))) = true
       ∧ State.reset.winFits (winMask (putBytes 0 0 (leBytes 16 (win 3 5 4)))) = false)
    ∧ (let s := ctxIs 15 { st := .active, windows := [(31, win 3 4 5)] }
       let w := winMask (putBytes (win 3 4 5) 0 (leBytes 16 (win 3 4 4)))
       winNarrows (SMap.get 0 (s.ctx 15).windows 31) w = true ∧ (s.ctx 15).st.running = true ∧ s.winFits w = true ∧ s.reachesStore w = false)
    ∧ (let w := winMask (putBytes 0 0 (leBytes 16 (win 3 4 5)))
       (State.reset.winFits w = true ∧ State.reset.reachesStore w = false) ∧ winNarrows (SMap.get 0 (State.reset.ctx 15).windows 31) w = false)
    ∧ (let s : State := { State.reset with ctxs := [(1, { tiles := [(0, 1)] }), (2, { slotMask := 1, tiles := [(0, 1)] })] }
       grantsOverlap 1 (s.ctx 2).slotMask (s.ctx 1).tiles (s.ctx 2).tiles = true)
    ∧ (let s := ctxIs 15 { st := .active, slotMask := 15, tiles := [(0, 1)] }
       grantRemoves (s.ctx 15).slotMask 7 (s.ctx 15).tiles (s.ctx 15).tiles = true ∧ (s.ctx 15).st = .active
       ∧ ∀ j, j < 16 → grantsOverlap (15 ||| 7) (s.ctx j).slotMask (grantJoin (s.ctx 15).tiles (s.ctx 15).tiles) (s.ctx j).tiles = true → j = 15)
    ∧ (let s := ctxIs 15 {}
       grantRemoves (s.ctx 15).slotMask 15 (s.ctx 15).tiles [] = false ∧ (s.ctx 15).st = .inactive)
    -- an absent die, and one that is there
    ∧ (let s : State := { State.reset with factory := { computeDies := 1 } }
       s.diePresent 1 = false ∧ s.diePresent 0 = true) := by decide +kernel

theorem witness_ContextsActivateAndBeginResets :
    (let s : State := { State.reset with pwr := { st := .ready } }
     (s.ctx 4).st = .inactive ∧ s.pwr.st = .ready ∧ 4 ≤ s.cat.userContexts ∧ s.cat.userContexts < 5 ∧ (s.ctx 5).st = .inactive)
    ∧ (State.reset.pwr.st ≠ .ready ∧ (State.reset.ctx 15).st = .inactive)
    ∧ ((ctxIs 15 { st := .active }).ctx 15).st = .active := by decide +kernel

theorem witness_ResetsGoThroughTheirPhases :
    ((ctxIs 15 { st := .fencing }).ctx 15).st = .fencing
    ∧ (let s : State := { ctxIs 1 { st := .fencing } with tiles := [(0, { queues := [(7, qOf1 .open_)] })] }
       qCtx ((s.tile 0 0).queue 7).cfg.toNat = 1 ∧ ((s.tile 0 0).queue 7).st = .open_)
    ∧ ([[], [({ ctx := 1, orphan := true, device := State.reset.device + 1 } : Access), { ctx := 2, orphan := true }]].all (fun as =>
       let s : State := { ctxIs 1 { st := .draining } with accs := as }
       decide ((s.ctx 1).st = .draining) && s.accs.all (fun a => a.ctx != 1 || !a.orphan || a.device != s.device))) = true
    ∧ ((ctxIs 1 { st := .draining, reset? := some {} }).ctx 1).reset? = some {}
    ∧ (((ctxIs 1 { st := .sampling }).ctx 1).st = .sampling ∧ (ctxIs 1 { st := .sampling }).storeOn = false
      ∧ (ctxIs 1 { st := .sampling }).sampleWaits 1 0 = false ∧ (ctxIs 1 { st := .sampling }).sampleWaits 1 15 = false)
    ∧ (let s := ctxIs 1 { st := .clearing, reset? := some {} }
       (s.ctx 1).st = .clearing ∧ (s.ctx 1).reset? = some {} ∧ s.moving 1 = false ∧ s.pwr.warm = .none)
    ∧ (let s := ctxIs 1 { st := .quiet, reset? := some { endsActive := true } }
       (s.ctx 1).st = .quiet ∧ s.pwr.warm = .none ∧ (s.ctx 1).reset? = some { endsActive := true })
    ∧ ((ctxIs 1 { st := .quiet, reset? := some {} }).ctx 1).reset? = some {} := by decide +kernel

/-- Context 1 ACTIVE with a running graph, still for `ms` milliseconds, with this action at a hang (0x5014:03). -/
def hanging (ms act : Nat) : State := { ctxIs 1 { st := .active, graph := some { nodes := [{}] }, stillMs := ms } with
  mgmt := { objs := [((0x5014 * 256 + 3) * 2 ^ 20 + 1, act + 1)] } }

theorem witness_HangsAndPoisonResetTheirContext :
    (let lim := State.reset.obj 0x5014 1 1
     let g : Graph := { nodes := [{}] }
     [0, 1].all (fun act =>
      let s := hanging (lim - 1) act
      decide ((s.ctx 1).st = .active) && decide ((s.ctx 1).graph = some g) && !(s.ctx 1).moved && (s.unfinished 1).isEmpty
      && !s.hangExcused 1 g (s.unfinished 1) && decide (s.obj 0x5014 1 1 = (s.ctx 1).stillMs + 1) && decide (s.obj 0x5014 3 1 = act)
      && !(s.ctx 1).hangSaid) = true
     -- not yet at the limit, and at it but reported already
     ∧ ((hanging 0 1).ctx 1).stillMs + 1 < lim
     ∧ (let s := (hanging (lim - 1) 1).updCtx 1 (fun x => { x with hangSaid := true })
        (s.ctx 1).st = .active ∧ (s.ctx 1).hangSaid = true ∧ (s.ctx 1).moved = false ∧ (s.unfinished 1).any s.cardChanged = false))
    ∧ (let s := ctxIs 15 { st := .active, poisonUses := [{ addr := 64 }] }
       (s.ctx 15).st = .active ∧ (s.ctx 15).containing = false ∧ (s.ctx 15).poisonUses = { addr := 64 } :: [] ∧ s.containPart 15 = none)
    ∧ (let s := ctxIs 15 { st := .active, containing := true, poisonUses := [{ addr := 64 }] }
       (s.ctx 15).st = .active ∧ (s.ctx 15).containing = true ∧ (s.ctx 15).poisonUses = { addr := 64 } :: []) := by
  decide +kernel

theorem witness_WarmResetKeepsOrClearsHbm :
    (let s : State := { ctxIs 15 { st := .active } with pwr := { st := .ready } }
     s.pwr.st = .ready ∧ (s.ctx 15).st = .active)
    ∧ (let s : State := { State.reset with pwr := { warm := .draining }, ctx0 := { st := .clearing } }
       s.pwr.warm = .draining ∧ ∀ c, c < 16 → (s.ctx c).st = .inactive ∨ (s.ctx c).st = .clearing ∨ (s.ctx c).st = .quiet)
    ∧ ({ State.reset with pwr := { warm := .sampled } } : State).pwr.warm = .sampled
    ∧ (let s : State := { ctxIs 1 { reset? := some { endsActive := true } } with pwr := { warm := .bist } }
       s.pwr.warm = .bist ∧ s.routesDue = false ∧ (s.ctx 1).reset? = some { endsActive := true }) := by decide +kernel

-- ---------------------------------------------------------------- witnesses: weft

/-- One access under way, of context 0, with tile-op 3 of tile 0.0 awaiting `n` answers. -/
def accessing (a : Access) (n : Nat) : State := { State.reset with
  accs := [a], tiles := [(0, { ops := [{ id := 3, awaiting := n }] })] }
def readReq : Access := { id := 5, kind := 0, len := 2, req := .op 0 0 3 0 }
def writeReq : Access := { id := 5, kind := 1, len := 1, data := [{ data := 7 }] }
/-- The module's own device number in the request (R419). -/
def own (a : Access) : Access := { a with device := State.reset.device }

theorem witness_WeftRequestsAreServedOrRefused :
    ([own readReq, own writeReq, { own writeReq with kind := 2, mask := 1 }].all (fun a =>
      let s := accessing a 1
      decide (s.access? 5 = some a) && decide (a.st = .sent) && !a.held && !a.lost && !s.accBehind a && decide (a.device = s.device)
      && s.reached a
      && decide (a.gen = (s.ctx a.ctx).gen.toNat) && decide (s.serveKind a.ctx a.kind a.addr (64 * a.len) = .go) && !isReg a.addr)) = true
    ∧ (own writeReq).data.length = (own writeReq).len ∧ place (own writeReq).addr = .hbm 0 0
    ∧ (let a := { own readReq with addr := 0x004800000000 }
       let s := accessing a 1
       a.gen = (s.ctx a.ctx).gen.toNat ∧ s.reached a = true ∧ s.serveKind a.ctx a.kind a.addr (64 * a.len) = .refuse .window)
    ∧ (let a := { own readReq with gen := 255 }
       (accessing a 1).reached a = true ∧ a.gen ≠ ((accessing a 1).ctx a.ctx).gen.toNat) := by decide +kernel

theorem witness_WeftResponsesReachTheirTileop :
    ([{ readReq with st := .answered, data := [{}, {}] }, { writeReq with st := .answered, req := .op 0 0 3 0 },
      { readReq with st := .answered, status := .poison }].all (fun a =>
      let s := accessing a 2
      decide (s.access? 5 = some a) && decide (a.st = .answered) && !a.lost && decide (a.gen = (s.ctx a.ctx).gen.toNat) && !a.orphan
      && decide (a.req = .op 0 0 3 0) && ((s.tile 0 0).op? 3 == some { id := 3, awaiting := 2 })
      && (a.status != .ok || a.kind != 0 || a.data.length == a.len))) = true
    ∧ (let a := { readReq with st := .answered, gen := 1 }; a.gen ≠ ((accessing a 2).ctx a.ctx).gen.toNat)
    ∧ (let a := { readReq with st := .answered, orphan := true }
       let s := { accessing a 2 with ctx0 := { st := .draining, reset? := some {} } }
       a.gen = (s.ctx a.ctx).gen.toNat ∧ a.orphan = true ∧ (s.ctx a.ctx).reset? = some {})
    ∧ (let s := accessing readReq 2
       s.access? 5 = some readReq ∧ readReq.kind = 0 ∧ readReq.held = false ∧ readReq.len ≠ 0 ∧ s.fab.remotes = []
       ∧ readReq.gen = (s.ctx readReq.ctx).gen.toNat ∧ readReq.orphan = false
       ∧ (s.tile 0 0).op? 3 = some { id := 3, awaiting := 2 }) := by decide +kernel

theorem witness_AtomicsAndScrubsActOnOneWord :
    (let s : State := { ctxIs 15 { st := .active } with pwr := { st := .ready } }
     s.atomicOk 8 8 = true ∧ s.diesRun = true ∧ (s.ctx 15).st.running = true ∧ s.hbmBusy 8 8 = false ∧ (s.ctx 14).st.running = false)
    ∧ (let s : State := { State.reset with pwr := { st := .warmReset } }
       s.diesRun = true ∧ place 0x100005FFFFC0 = .spad 0 0x5FFFFC0 ∧ s.present (0x100005FFFFC0 / 64 * 64) 64 = true ∧ s.hbm.fenced = []
       ∧ s.heldAt 0x100005FFFFC0 = false)
    ∧ (let s := ready1 dNop
       s.diesRun = true ∧ place 0x20000017FFC0 = .tileWin 0 0 0x17FFC0 ∧ s.present (0x20000017FFC0 / 64 * 64) 64 = true ∧ s.siteOf 0 0 = some 0
       ∧ s.heldAt 0x20000017FFC0 = false ∧ (s.die 0).held = false)
    ∧ (EccStore.ofCode 1 = some .streamer ∧ EccStore.ofCode 8 = some .landing ∧ EccStore.ofCode 9 = none
       ∧ (ready1 dNop).tilePresent (0 / 65536 / 288) (0 / 65536 % 288) = true) := by decide +kernel

/-- A set that serves nothing has no channel that waits. -/
theorem acyclic_nil : acyclic [] = true := by
  have h (k : Nat) : trimWaits (Array.replicate 8192 []) (k + 2) (Array.replicate 8192 true) = Array.replicate 8192 false := by
    simp [trimWaits]
  have e : (Array.replicate 8192 false).any id = false := by
    rw [Array.any_eq_false]
    simp
  simp only [acyclic, waitArray, List.foldl_nil, h 8190, e, Bool.not_false]

/-- Die 0 in a change of its tables, whose new entries give sites 0 and 1 the ring and themselves. -/
def retabled (b : Bool) : State := { State.reset with
  factory := { computeDies := if b then 1 else 0 }, dies := [(0, { tableSw := { active := true }, tableBank := 1 })] }
def twoSites : List (Nat × Nat × Nat) :=
  [0, 1].flatMap (fun x => (x, x, at_ 15 1 1) :: (List.range 65).map (fun i => (x, 288 + i, at_ 15 1 1 + at_ 8 3 5)))

/-- The check of a set on that die: two sites that do not reach each other fail it, an empty set passes. -/
theorem witness_TableSets :
    (let s1 := (retabled true).updDie 0 (fun x => x.switchTables twoSites)
     setOk (s1.tablesOf s1.banksNow) s1.offWeft s1.servedSites s1.factory.computeDies = false)
    ∧ (let s1 := (retabled false).updDie 0 (fun x => x.switchTables [])
       setOk (s1.tablesOf s1.banksNow) s1.offWeft s1.servedSites s1.factory.computeDies = true) := by
  refine ⟨by decide +kernel, ?_⟩
  have h (tb : Tables) (bad : Nat → Bool) : setOk tb bad [] 0 = true := by
    simp only [setOk, List.all_nil, List.range_zero, List.flatMap_nil, acyclic_nil, Bool.and_self]
  exact h _ _

theorem witness_LinksTablesAndFencesOfTheWeft :
    ((7 : Nat) < 8 ∧ 8 ≤ (8 : Nat))
    ∧ ((((retabled true).die 0).tableSw.active = true ∧ ((retabled true).die 0).tableSw.written = false ∧ ((retabled true).die 0).tableBank < 2)
       ∧ (twoSites.map (fun x => (x.1, x.2.1))).Nodup)
    ∧ (let s : State := { State.reset with dies := [(1, { tableSw := { active := true, written := true } })] }
       (s.die 1).tableSw.written = true ∧ s.oldBankBusy 1 = false)
    ∧ (let s : State := { ctxIs 1 { st := .fencing } with tiles := [(0, { queues := [(7, qOf1 .open_)] })] }
       (s.ctx 1).st = .fencing ∧ qCtx ((s.tile 0 0).queue 7).cfg.toNat = 1 ∧ ((s.tile 0 0).queue 7).st = .open_) := by decide +kernel

-- ---------------------------------------------------------------- witnesses: the Varoa fabric and fabric time

/-- A module of a ring of 4 devices (topology 1): role 1 on port 0, role 2 on port 1, both ports UP unless said otherwise. -/
def fabric1 (st : PortSt) : State := { State.reset with
  pwr := { st := .ready, ctrlOn := true }
  mgmt := { objs := [(okey 0x6001 0 0, 2), (okey 0x6002 0 0, 5), (okey 0x6004 0 0, 2), (okey 0x6004 0 1, 3)] }
  fab := { ports := [(0, { st := st, linkUp := st == .training, wlGood := 255 }), (1, { st := st, wlGood := 255 })] } }
/-- HELLO of device 1 on role 2 with these good wavelengths. -/
def helloOf (topo wl : Nat) : Nat := at_ 110 18 1 + at_ 98 8 2 + at_ 96 2 topo + at_ 77 19 4 + at_ 72 5 4 + at_ 64 8 wl

theorem witness_VaroaPortsComeUpAndGoDown :
    -- a DATA frame in sequence, one out of sequence, a NAK of the frame in the replay buffer
    (let s := fabric1 .up
     s.portPresent 15 = true ∧ s.portPresent 0 = true ∧ s.portUp 0 = true ∧ s.portUp 15 = false
     ∧ fld (at_ 84 12 1) 68 3 = 0 ∧ fld (at_ 84 12 1) 84 12 = ((s.fport 0).rxSeq + 1) % 4096
     ∧ fld 0 84 12 ≠ ((s.fport 0).rxSeq + 1) % 4096)
    ∧ (let s := (fabric1 .up).updPortF 0 (fun p => { p with replay := [{ seq := 3 }, { seq := 4 }], resends := 16 })
       let h := at_ 84 12 1 + at_ 72 12 3 + 2 ^ 71
       bitOf h 71 = true ∧ ((s.fport 0).acked (fld h 72 12)).resends < 16 ∧ ((s.fport 0).acked (fld h 72 12)).replay = [{ seq := 4 }])
    ∧ ([((PortSt.up, 0, 16) : PortSt × Nat × Nat), (.degraded, 2, 0), (.training, 0, 16)].all (fun x =>
       let s := (fabric1 .up).updPortF 0 (fun p => { p with st := x.1, resends := x.2.2 })
       s.portPresent 0 && ((s.fport 0).st == .up || (s.fport 0).st == .degraded || (s.fport 0).st == .training)
       && (x.2.1 == 2 || decide (16 ≤ (s.fport 0).resends)))) = true
    ∧ (widthOf 0xFF ≠ 0 ∧ widthOf 0x77 = 0 ∧ ((fabric1 .up).fport 0).st = .up)
    ∧ (let s := fabric1 .training
       s.portPresent 0 = true ∧ (s.fport 0).linkUp = true ∧ (s.fport 0).rehDown = false ∧ (s.fport 0).st = .training ∧ s.topology ≠ 0
       ∧ s.helloReason 0 (helloOf 2 0xFF) ≠ 0
       ∧ (s.helloReason 0 (helloOf 1 0x77) = 0 ∧ widthOf ((s.fport 0).wlGood &&& fld (helloOf 1 0x77) 64 8) = 0)
       ∧ (s.helloReason 0 (helloOf 1 0x0F) = 0 ∧ widthOf ((s.fport 0).wlGood &&& fld (helloOf 1 0x0F) 64 8) ≠ 0)) := by decide +kernel

/-- A frame that is good, and one that is not. -/
theorem witness_VaroaFrames (h : Nat) (slots : List Nat) :
    (∃ crc c u, u = 0 ∧ frameCrc h slots = crc ∧ c = 0) ∧ (∃ crc u, ¬ (u = 0 ∧ frameCrc h slots = crc)) :=
  ⟨⟨_, 0, 0, rfl, rfl, rfl⟩, ⟨0, 1, by simp⟩⟩

/-- An endpoint entry armed for job 7, and the entry of the partition 5 it is in: devices 0 to 3 of the ring. -/
def endpoint1 : Nat := at_ 63 1 1 + at_ 23 16 7
def part1 : Nat := at_ 127 1 1 + at_ 110 16 5 + at_ 6 6 3
/-- Context `c` in this state, armed so. -/
def armed (c : Nat) (x : Ctx) : State := { fabric1 .up with
  ctxs := [(c, x)], fab := { (fabric1 .up).fab with endpoints := [(c, endpoint1)], partitions := [(0, part1)] } }
/-- Flow 9 of context 1: to device 1, 2 slices. -/
def flow1 : Nat := at_ 127 1 1 + at_ 123 4 1 + at_ 105 18 1 + at_ 72 17 900 + at_ 40 24 4160 + 2

theorem witness_FabricTablesTakeValidWrites :
    (let s := fabric1 .up
     s.portPresent 0 = true ∧ (s.fport 0).st ≠ .retired ∧ (s.fport 0).st ≠ .absent ∧ s.roleOf 0 ≠ 0 ∧ s.roleOf 15 = 0)
    ∧ (let s := fabric1 .up
       s.fabricCfgOk 0 0 4 = false ∧ s.fabricCfgOk 0 0 0 = true ∧ s.fabricCfgOk 0 0 3 = true
       ∧ ({ s with factory := { ioDies := 2 } } : State).fabricCfgOk 0 0 3 = false
       ∧ s.fabricCfgOk 1 0 65 = false ∧ s.fabricCfgOk 1 0 0x404040 = true ∧ s.fabricCfgOk 2 0 (2 ^ 18) = false
       ∧ s.fabricCfgOk 2 0 (2 ^ 18 - 1) = true ∧ s.fabricCfgOk 3 15 7 = false ∧ s.fabricCfgOk 3 16 0x20 = false
       ∧ s.fabricCfgOk 3 15 0x20 = true
       ∧ ∀ q, q < 16 → (s.fport q).waiting = [] ∧ (s.fport q).sending = [] ∧ (s.fport q).replay = [])
    ∧ ((fabric1 .up).failKey (0, 1) = some 1 ∧ (fabric1 .up).failKey (1, 1) = none)
    ∧ ((armed 15 { st := .active }).endpointOk 15 endpoint1 = true ∧ (armed 15 {}).endpointOk 15 endpoint1 = false
       ∧ (armed 15 { st := .active }).endpointOk 15 0 = true)
    ∧ (flowValid (flowMask flow1) = true ∧ (fabric1 .up).flowOk 4095 (flowMask flow1) = true
       ∧ (fabric1 .up).flowOk 4095 (flowMask (flow1 - 1)) = false ∧ flowValid (flowMask 0) = false) := by decide +kernel

/-- A header (R416) to a device, of an operation, at a local address, for job 7. -/
def header (dst op src addr len tag : Nat) : Nat :=
  at_ 430 18 dst + at_ 412 18 src + at_ 396 16 7 + at_ 369 7 len + at_ 365 4 op + at_ 259 32 tag + at_ 213 46 addr
/-- Context 0 is armed for job 7. -/
def armed0 (st : CtxSt) : State := { fabric1 .up with
  ctx0 := { st := st }, fab := { (fabric1 .up).fab with endpoints := [(0, endpoint1)], partitions := [(0, part1)] } }
/-- A remote access of context 0 waits at device 1 for tile-op 3, which awaits two. -/
def remote1 (isRead : Bool) : State := { fabric1 .up with
  accs := [{ readReq with device := 1 }], tiles := [(0, { ops := [{ id := 3, awaiting := 2 }] })]
  fab := { (fabric1 .up).fab with remotes := [{ tag := 9, acc := 5, device := 1, isRead := isRead }] } }

theorem witness_FabricRequestsAreServedAndAnswered :
    -- CTRL before fabric time, BULK after: a port with nothing waiting, and one whose replay buffer is full
    ([0, 2].all (fun cls => [0, 512].all (fun n =>
     let s : State := { (fabric1 .up).updPortF 0 (fun p => { p with replay := List.replicate n {} }) with time := { synced := cls == 2 } }
     let h := header 1 0 3 0 1 9 + at_ 363 2 cls
     let y := s.fport 0
     decide (hDest h ≠ s.device) && s.portUp 1 && (s.time.synced || hClass h == 0) && decide (hClass h = cls) && !s.tooOld h
     && decide (s.route (some 1) h = some (0, 0, false)) && decide (y.replay.length = n) && y.waiting.isEmpty && y.sending.isEmpty
     && decide (0 < y.credit (hSetVc h 0))))) = true
    ∧ (let s : State := { fabric1 .up with time := { synced := true } }
       let h := at_ 412 18 3 + at_ 430 18 (at_ 6 6 1) + at_ 363 2 2
       hDest h ≠ s.device ∧ s.portUp 1 = true ∧ hClass h ≠ 1 ∧ s.route (some 1) h = none)
    ∧ ([0, 1, 2].all (fun k =>
       let s : State := { armed0 .active with time := { synced := true } }
       let h := header 0 k 1 0x1000 1 9
       decide (hDest h = s.device) && decide (hOp h = k) && decide (s.pwr.st = .ready) && s.time.synced && !s.tooOld h
       && decide (s.endpointOf (hJob h) (hInc h) = some 0) && !(s.ctx 0).st.inReset && decide (s.pwr.warm = .none)
       && s.remoteMay 0 (hAddr h) (64 * hLen h) (accNeed k) && decide (s.targetServe (hAddr h) (64 * hLen h) = .go) && !s.testedAt (hAddr h)
       && !(s.peerAccess k (hSrc h) (hAddr h) (hLen h) (hMask h) 0 (s.ctx 0).gen.toNat (hTag h)).lost
       && !s.remoteMay 0 0x004800000000 64 (accNeed k))) = true
    -- a tile under test, one in IS3, and one whose router has failed
    ∧ (let s : State := { armed0 .active with time := { synced := true }, dies := [(0, { l2p := [(0, 1)], tablesOn := true })] }
       let a := 0x200000000000
       s.remoteMay 0 a 64 (accNeed 1) = true
       ∧ (s.updTile 0 0 (fun t => { t with underTest := true })).testedAt a = true
       ∧ (s.updSite 0 0 (fun x => { x with idle := 3 })).testedAt a = false
       ∧ (s.updSite 0 0 (fun x => { x with idle := 3 })).targetServe a 64 = .refuse .fenced
       ∧ (({ s with factory := { ioDies := 2 }, cur := { hard := [(catAddr 0 0 2 0, true)] } } : State).peerAccess 1 1 a 1 0 0 0 9).lost = true)
    ∧ (let s := armed0 .active
       s.pwr.st.railsOn = true ∧ ({ s with pwr := { st := .booting, phase := 7 } } : State).pwr.st.railsOn = true)
    ∧ ((armed0 .draining).ctx 0).st.inReset = true
    ∧ ([((8 : Nat), true), (9, false), (0xA, true)].all (fun x =>
       let s := remote1 x.2
       let h := header 0 x.1 1 0 1 9
       decide (hDest h = s.device) && decide (hOp h = x.1) && !s.tooOld h
       && (s.fab.remotes.find? (fun r => r.tag == hTag h && r.device == hSrc h && (x.1 == 0xA || r.isRead == (x.1 == 8)))).isSome
       && (s.fab.remotes.find? (fun r => r.tag == 10 && r.device == hSrc h && (x.1 == 0xA || r.isRead == (x.1 == 8)))).isNone
       && (s.access? 5).isSome && !s.staleResponse h && s.staleResponse (h + at_ 376 8 1)
       && decide ((s.tile 0 0).op? 3 = some { id := 3, awaiting := 2 }))) = true
    ∧ (((remote1 true).fab.remotes.find? (fun r => r.tag == 9)).isSome = true) := by decide +kernel

/-- A guaranteed packet of one line waits on flow 9, whose bucket holds just its bytes (R424). -/
def guaranteed1 : State := { fabric1 .up with
  time := { synced := true }
  fab := { (fabric1 .up).fab with
    flows := [(9, { entry := BitVec.ofNat 128 flow1, bucket := 128000, waiting := [(header 1 4 0 0 1 77 + at_ 363 2 1, [{}])], transfers := [{ seq := 5 }] })]
    rxFlows := [{ src := 1, flow := 9, owed := true }] } }

theorem witness_GuaranteedFlowsAndPartitions :
    (let s := guaranteed1
     let f := s.flow 9
     let h := header 1 4 0 0 1 77 + at_ 363 2 1
     let h' := h % 2 ^ 448 - at_ 308 32 (hSeq h) + at_ 308 32 f.nextSeq + at_ 448 64 s.ftc
     f.waiting = (h, [{}]) :: [] ∧ hLen h = 1 ∧ hTag h = 77 ∧ hClass h' = 1 ∧ flowValid f.entry.toNat = true
     ∧ 1000 * (64 * (1 + 1)) ≤ f.bucket
     ∧ f.transfers.length < 4096 ∧ s.time.synced = true ∧ s.tooOld h' = false ∧ (s.route none h').map (·.1) = some 0
     ∧ (s.fport 0).replay.length < 512 ∧ (s.fport 0).waiting = [] ∧ (s.fport 0).sending = [] ∧ 0 < (s.fport 0).credit (hSetVc h' 0)
     ∧ f.transfers.find? (fun t => t.seq == 5 && !t.reported) = some { seq := 5 }
     ∧ (s.fab.rxFlows.find? (fun r => r.src == 1 && r.flow == 9 && r.owed)).isSome = true)
    -- DELIVERED, LATE_NOTICE and PART_RESET as CTRL packets to this device; a packet that is none
    ∧ ([(3 : Nat), 2, 4].all (fun k =>
       let h := header 0 0xC 1 0 0 0 + at_ 144 5 k + at_ 16 18 1 + at_ 0 16 5 + at_ 340 12 9 + at_ 308 32 5
       guaranteed1.isCtrl h k && !guaranteed1.tooOld h && decide (hFlow h = 9) && decide (hSeq h = 5) && decide (fld (hArg h) 0 16 = 5)
       && decide (fld (hArg h) 16 18 = 1))) = true
    ∧ guaranteed1.isCtrl (header 0 0xB 1 0 0 0) 3 = false
    ∧ (let s := armed 15 { st := .active }
       s.partOf 5 = some part1 ∧ partValid (s.partition (epPart (s.endpoint 15))) = true
       ∧ partId (s.partition (epPart (s.endpoint 15))) = 5 ∧ (s.ctx 15).st = .active) := by decide +kernel

/-- An all-reduce (id 77) of two INT32 elements over devices 0 and 1, member list at HBM 0x2000 (R432). -/
def collDesc : Nat :=
  0xC011 + at_ 16 8 1 + at_ 24 4 1 + at_ 28 4 1 + at_ 64 32 77 + at_ 146 19 2 + at_ 192 40 2 + at_ 256 46 0x3000 + at_ 320 46 0x4000
  + at_ 384 46 0x2000 + at_ 430 46 0x5000
def collNode : Node := { kind := 2, st := .inFlight, launched := true, work := 0x1000 }
/-- Context 0 (armed) runs a graph with the collective's node 0; the descriptor is at HBM 0x1000. -/
def collecting (cs : List Coll) : State := {
  ((armed0 .active).memWrite 0x1000 (leBytes 64 collDesc) false).memWrite 0x2004 [1] false with
  ctx0 := { st := .active, graph := some { checked := true, nodes := [collNode] } }
  fab := { (armed0 .active).fab with colls := cs } }
def coll1 : Coll := { desc := BitVec.ofNat 512 collDesc, running := true, members := [0, 1] }

theorem witness_CollectivesStartMoveAndEnd :
    (let s := collecting []
     let g : Graph := { checked := true, nodes := [collNode] }
     (s.ctx 0).graph = some g ∧ g.node? 0 = some collNode ∧ collNode.launched = true ∧ s.coll? 0 0 = none ∧ (s.ctx 0).st = .active
     ∧ s.collCheck 0 0x1000 = none ∧ s.collCheck 0 0x1040 = some .badGraph)
    ∧ (let s := collecting (List.replicate 16 { coll1 with node := 1 })
       s.coll? 0 0 = none ∧ s.collCheck 0 0x1000 = none
       ∧ 16 ≤ (s.fab.colls.filter (fun k => k.running && cdEngine k.d == cdEngine (s.memNat 0x1000 64))).length)
    -- READY for no operation, and for the one that runs, from its member of rank 1
    ∧ ([[], [coll1]].all (fun cs =>
       let s := collecting cs
       let h := header 0 5 1 0x6000 0 77
       decide (hDest h = s.device) && decide (hOp h = 5) && !s.tooOld h && decide (s.endpointOf (hJob h) (hInc h) = some 0)
       && decide (s.collOf 0 (hTag h) = cs.head?) && cs.all (fun k => s.coll? k.ctx k.node == some k && k.members.idxOf? (hSrc h) == some 1
         && !({ k with ready := SMap.set 0 k.ready 1 (hAddr h + 1) } : Coll).complete))) = true
    ∧ (let s : State := { collecting [coll1] with time := { synced := true } }
       let h := header 0 4 1 0x5000 1 77 + at_ 363 2 2
       let ls := toLines [(5, false)]
       hDest h = s.device ∧ hOp h = 4 ∧ hClass h ≠ 1 ∧ s.tooOld h = false ∧ coll1.fromRank 1 h = true ∧ isReg (hAddr h + 64 * 0) = false
       ∧ s.time.synced = true ∧ s.endpointOf (hJob h) (hInc h) = some 0 ∧ s.collOf 0 (hTag h) = some coll1 ∧ coll1.running = true
       ∧ s.coll? coll1.ctx coll1.node = some coll1 ∧ ls.length = ([h].map hLen).sum ∧ ls.length = (cdChunkBytes coll1.d 1 + 63) / 64
       ∧ cdChunkUnits coll1.d 1 ≠ 0 ∧ 1 < coll1.n ∧ 1 ≠ coll1.own ∧ anchorsOk coll1.d ls = true ∧ SMap.get false coll1.landed 1 = false
       ∧ cdOp coll1.d = 1 ∧ ({ coll1 with landed := SMap.set false coll1.landed 1 true } : Coll).complete = false)
    -- an abort, and the timeout
    ∧ (let s := collecting [coll1]
       let h := header 0 0xC 1 0 0 77 + at_ 144 5 1
       s.isCtrl h 1 = true ∧ s.tooOld h = false ∧ s.endpointOf (hJob h) (hInc h) = some 0 ∧ hTag h = 77 ∧ s.collOf 0 77 = some coll1
       ∧ ((s.ctx 0).graph.bind (·.node? coll1.node)).isSome = true) := by decide +kernel

/-- Port 0's neighbour is synchronised at distance 4, and 15 exchanges with it have been made. -/
def timed (synced : Bool) (x : Nat) : State := { fabric1 .up with
  fab := { ports := [(0, { st := .up, nSync := synced, nDist := 4, neverUp := false })] }
  time := { exchanges := [(0, x)], synced := decide (x = 16) } }

/-- No bank is being zeroed while a collective runs, and a sync message or echo of port 0 goes at once. -/
theorem witness_CollectivesAndSync :
    (∀ (cs : List Coll) (a n : Nat), (collecting cs).zeroingAt a n = false)
    ∧ ([at_ 79 1 1, at_ 144 5 9].all (fun arg =>
       let s : State := { timed false 0 with time := { ftc16 := 16 } }
       let y := s.fport 0
       let h := ({ dest := y.peerDevice, op := 0xC, cls := 0, arg := arg } : Hdr).bits s.ftc s.device
       s.portUp 0 && !s.tooOld h && y.waiting.isEmpty && y.sending.isEmpty && decide (y.replay.length < 512)
       && decide (0 < y.credit (hSetVc h 0)))) = true :=
  ⟨fun _ => zeroing_none rfl, by decide +kernel⟩

theorem witness_FabricTimeIsAcquiredAndSteered :
    (let s := timed true 15
     s.portUp 0 = true ∧ s.time.synced = false ∧ (s.fport 0).nSync = true ∧ 15 ≤ SMap.get 0 s.time.exchanges 0 ∧ s.mayAcquire = true)
    ∧ (let s := timed false 15
       s.portUp 0 = true ∧ s.time.synced = false ∧ (s.fport 0).nSync = false ∧ s.isRoot = true ∧ s.mayAcquire = true
       ∧ s.portPresent 0 = true ∧ (s.fport 0).neverUp = false ∧ (∀ p, p < 16 → s.portUp p = true → (s.fport p).nSync = false))
    ∧ (let s := { timed true 16 with mgmt := { objs := [(okey 0x6041 0 0, 3)] } }
       s.findParents.time.synced = true ∧ s.findParents.time.parents ≠ 0) := by decide +kernel

-- ---------------------------------------------------------------- witnesses: the curator, re-placement, self-test, rehearsal

theorem witness_DipsStretchAndMarkSupplies :
    (let s : State := { State.reset with pwr := { st := .ready, core := true, io := true }, cur := { dips := List.replicate 4 (1, 0) } }
     s.pwr.core = true ∧ s.pwr.st ≠ .standby ∧ s.pwr.stretchReal = false ∧ s.pwr.stretch = false ∧ s.pwr.io = true
     ∧ 4 ≤ ((s.cur.dips.filter (fun d => decide (s.pwr.uptime < d.2 + 60000000000))).filter (fun d => d.1 == 1)).length)
    ∧ (let s : State := { State.reset with pwr := { stretch := true, stretchReal := true } }
       s.pwr.stretchReal = true ∧ s.pwr.stretchReh = false)
    ∧ (let s : State := { State.reset with pwr := { uptime := 100000000 }, dies := [(1, { raise := 100000001 })] }
       (s.die 1).raise ≤ s.pwr.uptime + 1)
    ∧ (let s : State := { State.reset with pwr := { uptime := 600000000005 }, cur := { suspect := [(0, true)], dips := [(0, 5), (1, 6)] } }
       SMap.get false s.cur.suspect 0 = true ∧ ∀ d ∈ s.cur.dips, d.1 = 0 → d.2 + 600000000000 ≤ s.pwr.uptime) := by decide +kernel

/-- A due unit, failed hard or not, of a module whose policy lets it act (0x3010:01 is 2), `n` deaccessioned lately on die 0. -/
def dueUnit (u : Nat) (hard : Bool) (n : Nat) : State := { State.reset with
  mgmt := { objs := [(okey 0x3010 1 0, 3)] }
  cur := { due := [(u, true)], hard := [(u, hard)], recentDeacc := List.replicate n (0, 0) } }

theorem witness_DeaccessionsFollowThePolicy :
    (let s : State := { State.reset with
       pwr := { uptime := State.reset.recoverS * 1000000000 + 4 }, cur := { lost := [(7, 1)], eventAt := [(7, 4)] } }
     s.recoverS ≠ 0 ∧ s.score 7 ≠ 255 ∧ State.reset.score 7 = 255 ∧ SMap.get 0 s.cur.eventAt 7 + s.recoverS * 1000000000 ≤ s.pwr.uptime)
    ∧ ([siteAddr 0 0, catAddr 15 0 4 7, portAddr 15, linkName 0 0 1, catAddr 0 0 2 0].all (fun u =>
      let s := dueUnit u false 0
      SMap.get false s.cur.due u && !s.inMove u && !SMap.get false s.cur.hard u && decide (s.healthMode = 2) && !s.unitHeld u
      && !s.inWindowOf u && !s.cur.retests.contains u && !decide (s.deaccLimit ≤ s.recentOf (s.homeDie u))
      && !(s.die (unitDie u)).tableSw.written)) = true
    ∧ (let s := dueUnit (siteAddr 0 0) true (State.reset.deaccLimit)
       SMap.get false s.cur.hard (siteAddr 0 0) = true)
    ∧ (let s := dueUnit (siteAddr 0 0) false (State.reset.deaccLimit)
       s.healthMode = 2 ∧ s.deaccLimit ≤ s.recentOf (s.homeDie (siteAddr 0 0)))
    ∧ (let s : State := { State.reset with pwr := { uptime := 9 }, cur := { holds := [{ domain := 7, units := [siteAddr 0 0], until_ := 9 }] } }
       ∃ h ∈ s.cur.holds, h.domain = 7 ∧ h.until_ ≤ s.pwr.uptime)
    ∧ (let s : State := { State.reset with cur := { pendingAppends := [{ unit := 5, kind := 1 }] } }
       s.cur.pendingAppends = { unit := 5, kind := 1 } :: [] ∧ s.field.length < 4096)
    ∧ ((2 ^ 28 ≤ 2 ^ 28) ∧ ¬ (2 ^ 28 ≤ portAddr 15 ∨ 6 ≤ unitClass (portAddr 15) ∨ State.reset.defect (portAddr 15) = true)
      ∧ ({ State.reset with factory := { fuses := [(portAddr 15, 1)] } } : State).defect (portAddr 15) = true)
    ∧ State.reset.licCheck 0 ≠ 0 := by decide +kernel

/-- A licence of the module's serial number for 18 fabric bits (R64); its signature is a fact of the world. -/
def licence1 : Nat := 0x4C4D4C31 + at_ 32 16 1 + at_ 48 16 2 + at_ 192 32 18 + at_ 320 64 9

theorem witness_LicenceAccepted (h : Config.licenceSigned licence1 = true) :
    State.reset.licCheck licence1 = 0 ∧ State.reset.flash.licences.any (fun x => licNonce x.toNat == licNonce licence1) = false := by
  have a : (fld licence1 0 32 ≠ 0x4C4D4C31 ∨ fld licence1 32 16 ≠ 1 ∨ fld licence1 240 16 ≠ 0) = False := by decide +kernel
  have b : (4 ≤ licKey licence1 ∨ !State.reset.factory.keysProgrammed.testBit (licKey licence1)
    ∨ State.reset.factory.keysRevoked.testBit (licKey licence1)) = False := by decide +kernel
  refine ⟨?_, rfl⟩
  unfold State.licCheck
  rw [if_neg (by rw [a]; exact id), if_neg (by rw [b]; exact id), if_neg (by simp [h])]
  decide +kernel

/-- Tile 0.0 on site 0 moves to site 5. -/
def movingTo (r : Replacement) (t : Tile) : State := { State.reset with
  dies := [(0, { l2p := [(0, 1)], spares := [4, 5] })], cur := { replacements := [r] }, tiles := [(0, t)] }
def move1 : Replacement := { newSite := 5, spareOk := true }
/-- Tile 0's card of `warp1` is to move to site 5, which no link in service joins. -/
def cutOff : State := { warp1 with cur := {
  replacements := [{ move1 with drained := true }], retired := (List.range 4).map (fun d => (linkName 0 5 d, true)) } }

theorem witness_ReplacementsMoveTheirTile :
    ([[], [({ addr := 0x200000200000, device := State.reset.device } : Access), { st := .answered, addr := 0x200000000000 }]].all (fun as =>
     let s : State := { movingTo move1 { stopped := true } with accs := as }
     decide (s.moveOf 0 0 = some move1) && move1.spareOk && (s.tile 0 0).stopped && (s.tile 0 0).ops.isEmpty && (s.tile 0 0).checks.isEmpty
     && s.accs.all (fun a => a.st != .sent || a.device != s.device || (match place a.addr with
       | .tileWin d t _ => d != 0 || t != 0
       | _ => true)))) = true
    ∧ (let r := { move1 with drained := true }
       let s := movingTo r { stopped := true }
       s.moveOf 0 0 = some r ∧ r.drained = true ∧ r.exchange ≠ some 0 ∧ (s.darnTile 0 0 r.oldSite r.newSite).isSome = true)
    ∧ (let r := { move1 with drained := true }
       cutOff.moveOf 0 0 = some r ∧ r.exchange ≠ some 0 ∧ cutOff.darnTile 0 0 r.oldSite r.newSite = none)
    ∧ (let s := movingTo move1 { stopped := true, ops := [{ slot := 3 }], slots := [(3, { st := .current })] }
       s.moveOf 0 0 = some move1 ∧ (s.tile 0 0).stopped = true ∧ move1.drained = false
       ∧ (s.tile 0 0).ops.any (fun o => o.slot == 3) = true ∧ ((s.tile 0 0).slot 3).st = .current)
    ∧ (let s : State := { movingTo move1 { slots := [(0, { st := .current })] } with
         cur := {}, test := { slices := [(0, { st := .due, dueSince := 3 })] }
         pwr := { uptime := 3 + State.reset.obj 0x5024 3 0 * 1000000000 } }
       s.tileAt 0 0 = some 0 ∧ (s.sliceAt 0 0).st = .due ∧ s.grantKind 0 0 = 0
       ∧ (s.sliceAt 0 0).dueSince + s.obj 0x5024 3 0 * 1000000000 ≤ s.pwr.uptime ∧ s.moveOf 0 0 = none
       ∧ s.cur.replacements.any (fun r => r.die == 0 && r.newSite == 0) = false
       ∧ s.lastSpare {
          die := 0, tile := 0, oldSite := 0, startNs := s.pwr.uptime, relief := true
          scoreBefore := s.score (siteAddr 0 0) } = some 5) := by decide +kernel

/-- Site 0 of die 0, with tile 0 on it, and this slice. -/
def slice1 (r : SliceRec) : State := { State.reset with
  pwr := { st := .ready, ctrlOn := true }, dies := [(0, { l2p := [(0, 1)] })], test := { slices := [(0, r)] } }

theorem witness_TestSlicesRunTheirCourse :
    (let s : State := { slice1 { endNs := 4 } with pwr := { st := .ready, uptime := 4 + State.reset.obj 0x4010 2 0 * 1000000000 } }
     (s.sliceAt 0 0).st = .none ∧ s.goodSite 0 0 = true ∧ s.obj 0x4010 1 0 = 1 ∧ s.obj 0x4010 2 0 * 1000000000 ≤ s.sliceAge 0 0)
    ∧ (let s : State := { slice1 {} with cur := { replacements := [{ newSite := 0, tile := 9 }] } }
       (s.sliceAt 0 0).st = .none ∧ s.goodSite 0 0 = true ∧ s.neededSpare 0 0 = true)
    ∧ (let s := slice1 { st := .due }
       (s.sliceAt 0 0).st = .due ∧ s.grantKind 0 0 ≠ 0 ∧ s.pwr.st = .ready ∧ s.pwr.stretch = false ∧ s.obj 0x4010 1 0 = 1
       ∧ s.slicesOn 0 < s.obj 0x4010 3 0
       ∧ s.sliceBehind 0 0 = false ∧ s.tileAt 0 0 = some 0)
    ∧ (let s := slice1 { st := .running }
       (s.sliceAt 0 0).st = .running ∧ (s.sliceAt 0 0).rehearsed = false)
    ∧ (let s : State := { slice1 { st := .reinit } with cur := { replacements := [{ newSite := 0, tile := 9 }] } }
       (s.sliceAt 0 0).st = .reinit ∧ (s.sliceAt 0 0).again = false ∧ (s.sliceAt 0 0).rehNext = false)
    ∧ (let s : State := { slice1 { st := .due, endNs := 4 } with pwr := { st := .ready, uptime := 60000000004 } }
       s.goodSite 0 0 = true ∧ (s.sliceAt 0 0).overdue = false ∧ (s.sliceAt 0 0).st ≠ .running ∧ (s.sliceAt 0 0).st ≠ .reinit
       ∧ 60000000000 ≤ s.sliceAge 0 0) := by decide +kernel

theorem witness_AnalogueChecksRetryThenCount :
    (State.reset.portPresent 15 = true ∧ (State.reset.fport 15).st = .down)
    ∧ ((fabric1 .up).portUp 1 = true ∧ fld 0x180 0 8 ≠ 0)
    ∧ (3 < State.reset.factory.ioDies ∧ 4 < 5 ∧ 2 ^ 16 - 1 < 2 ^ 16 ∧ 28 < 29)
    ∧ ([0, 1].all (fun k =>
       let s : State := { State.reset with hbm := { refresh := [(7 * 32 + 2 * 15 + k, 1)] } }
       s.stackFitted 7 && decide (SMap.get 0 s.hbm.refresh (7 * 32 + 2 * 15) ≠ 0 ∨ SMap.get 0 s.hbm.refresh (7 * 32 + 2 * 15 + 1) ≠ 0))) = true
    ∧ (let s : State := { State.reset with test := { analogue := [(28, true)], analoguePass := [(28, 9)] } }
       SMap.get false s.test.analogue 28 = true ∧ 9 ≤ SMap.get 0 s.test.analoguePass 28)
    ∧ (let s : State := { State.reset with test := { analogue := [(0, true)], analoguePass := [(0, 8)] } }
       SMap.get false s.test.analogue 0 = true ∧ SMap.get 0 s.test.analoguePass 0 < 9)
    ∧ ([(6, 28), (0, 15)].all (fun x =>
       let s : State := { State.reset with pwr := { uptime := 10000007 }, test := { retry := [(checkKey x.1 x.2, 8)] } }
       decide (SMap.get 0 s.test.retry (checkKey x.1 x.2) ≠ 0)
       && decide (SMap.get 0 s.test.retry (checkKey x.1 x.2) + 10000000 ≤ s.pwr.uptime + 1))) = true := by
  decide +kernel

/-- Context 1, ACTIVE, consents to every kind; it owns slot 2, queue 3 and HBM page 0 by tile 0.0 on site 0. -/
def rehearsing (is : List Inject) : State := { State.reset with
  pwr := { st := .ready, ctrlOn := true, core := true, io := true }
  mgmt := { objs := [(okey 0x4011 0 1, 0xFF01)] }
  ctxs := [(1, { st := .active, windows := [(0, win 3 0 0)] })]
  dies := [(0, { l2p := [(0, 1)] })]
  tiles := [(0, { slots := [(2, { st := .current, ctx := 1 })], queues := [(3, qOf1 .open_)] })]
  test := { injects := is } }
/-- An injection record (R520) of identifier 9. -/
def inj (kind cls unit sel at0 : Nat) : Nat :=
  9 + at_ 24 8 kind + at_ 33 3 sel + at_ 36 4 (if cls = 0 then 1 else 0) + at_ 40 4 cls + at_ 48 16 unit + at_ 160 32 60000000 + at_ 192 64 at0

theorem witness_RehearsalsAreCheckedAndInjected :
    ([inj 1 0 0 0 0, inj 2 0 0 0 0, inj 3 0 0 0 0, inj 4 5 15 0 0, inj 4 3 0 1 0, inj 5 0 0 3 0, inj 6 0 0 2 0, inj 7 8 0 0 0].all (fun r =>
      let s := rehearsing []
      decide (r < 2 ^ 256) && decide (s.injCheck r s.test.injects = 0) && decide (injAt r ≤ s.ftc)
      && decide (s.injCheck (r + 2 ^ 16) s.test.injects ≠ 0)
      && decide (s.injCheck (r + at_ 192 64 1) s.test.injects = 0) && decide (s.ftc < injAt (r + at_ 192 64 1)))) = true
    ∧ (rehearsing []).siteOf 0 0 = some 0 := by decide +kernel

theorem witness_RehearsalsComeDueAndEnd :
    (let i : Inject := { record := BitVec.ofNat 256 (inj 6 0 0 2 0) }
     let s := rehearsing [i]
     let s' := s.setInject i none
     s.test.injects.find? (fun i => injId i.record.toNat == 9 && !i.active && decide (injAt i.record.toNat ≤ s.ftc)) = some i
     ∧ s'.injCheck i.record.toNat s'.test.injects = 0
     ∧ injKind 9 = 0 ∧ s.test.injects.find? (fun i => injId i.record.toNat == injId 9) = some i ∧ i.active = false
     ∧ s.test.injects.find? (fun i => injId i.record.toNat == injId 8) = none)
    ∧ (let i : Inject := { record := BitVec.ofNat 256 (inj 6 0 1 2 0) }
       let s' := (rehearsing [i]).setInject i none
       s'.injCheck i.record.toNat s'.test.injects ≠ 0)
    ∧ (let i : Inject := { record := BitVec.ofNat 256 (inj 6 0 0 2 0), active := true }
       let s : State := { rehearsing [i] with pwr := { st := .ready, ctrlOn := true, uptime := 1000 * injDur (inj 6 0 0 2 0) } }
       s.test.injects.find? (fun i => injId i.record.toNat == 9 && i.active && s.injOver i) = some i
       ∧ i.spent = false ∧ (s.injStop i.record.toNat).rehRunning i = false)
    ∧ (let i : Inject := { record := BitVec.ofNat 256 (inj 6 0 0 2 0), active := true, mask := 2, spent := true }
       let s : State := { rehearsing [i] with ctxs := [(1, { st := .fencing, reset? := some { rehearsal := true } })] }
       s.test.injects.find? (fun i => injId i.record.toNat == 9 && i.active && s.injOver i) = some i ∧ s.rehRunning i = true) := by decide +kernel

-- ---------------------------------------------------------------- witnesses: supplies, start-up, heat, the host

/-- A module whose supplies and state are these. -/
def powered (p : Power) : State := { State.reset with pwr := p }
def on1 : Power := { ana := true, ctrlOn := true, uptime := 5000000 }

theorem witness_SuppliesAndResetsMoveTheModule :
    (State.reset.pwr.ana = false ∧ State.reset.pwr.io = false ∧ State.reset.pwr.core = false
     ∧ (powered { core := true }).pwr.ana = false)
    ∧ (let s := powered on1
       s.pwr.io = false ∧ s.pwr.ctrlOn = true ∧ s.ioInOrder = true ∧ (powered { on1 with uptime := 4999999 }).ioInOrder = false
       ∧ s.pwr.heldSeq = false ∧ s.coreInOrder = false)
    ∧ (let s := powered { on1 with io := true, ioSince := 0 }
       s.pwr.core = false ∧ s.pwr.st = .standby ∧ s.coreInOrder = true)
    ∧ (let s := powered { on1 with io := true, core := true, st := .ready, resetReq := false }
       s.pwr.core = true ∧ s.pwr.st.drops = true ∧ s.pwr.ctrlOn = true ∧ s.pwr.io = true ∧ s.pwr.resetReq = false ∧ s.pwr.st = .ready
       ∧ s.supplied = true ∧ s.pwr.st ≠ .thermalOff ∧ s.pwr.heldSeq = false)
    ∧ (let s := powered { on1 with st := .held, absentSince := 7, uptime := 100000007 }
       s.pwr.st = .held ∧ s.pwr.ioAbsent = true ∧ s.pwr.coreAbsent = true ∧ s.pwr.absentSince + 100000000 ≤ s.pwr.uptime)
    ∧ ([false, true].all (fun sleep =>
       let s := powered { on1 with resetReq := true, toSleep := sleep }
       let s' := powered { on1 with resetReq := true, toSleep := sleep, io := true, core := true }
       s.pwr.resetReq && (s.pwr.toSleep == sleep) && !s.supplied && s'.pwr.resetReq && s'.supplied)) = true
    ∧ (let s := powered { on1 with io := true, core := true, st := .sleep }
       s.pwr.st = .sleep ∧ s.supplied = true) := by decide +kernel

theorem witness_StartUpRunsItsPhases :
    ([1, 2, 3, 4, 5, 6, 7].all (fun n =>
      let s := powered { on1 with io := true, core := true, st := .booting, phase := n }
      decide (s.pwr.st = .booting) && decide (s.pwr.phase = n) && s.factory.signatureOk && s.fieldCopy.isSome && !s.routesDue)) = true
    ∧ (let s := powered { on1 with io := true, core := true, st := .booting, phase := 7, waking := true }
       s.linkedUp = true)
    ∧ (({ State.reset with flash := { fieldA := {} } } : State).fieldCopy = none)
    ∧ (∀ q, q < 16 → (State.reset.fport q).waiting = [] ∧ (State.reset.fport q).sending = [] ∧ (State.reset.fport q).replay = [])
    ∧ (({ powered { st := .booting, phase := 2 } with factory := { signatureOk := false } } : State).factory.signatureOk = false)
    ∧ ({ State.reset with factory := { ports := 0xFFFE } } : State).portPresent 0 = false := by decide +kernel

/-- Die 0 alone, every site of it in this idle state. -/
def resting (n : Nat) : State := { State.reset with
  pwr := { st := .ready, ctrlOn := true }, factory := { computeDies := 1 }
  mgmt := { objs := [(okey 0x2030 1 0, 12001)] }, sites := (List.range 288).map (fun i => (i, { idle := n })) }

theorem witness_HeatPowerAndIdleActWithinLimits :
    (let s := powered { st := .ready }
     s.pwr.st.railsOn = true ∧ f32Order (criticalAt 85) ≤ f32Order (s.calTemp 85 0x42FA0000)
     ∧ f32Order (s.calTemp 85 0x42F9FFFF) < f32Order (criticalAt 85)
     ∧ State.reset.pwr.st.railsOn = false ∧ s.diePresent 1 = true ∧ s.dutyCause 1 = 0)
    ∧ ((powered { st := .ready, powCore := true, duty := [(1, 12)] }).dutyCause 1 ≠ 0)
    ∧ (let s := powered { st := .ready, readings := [(64, 0x42DC0000)] }
       s.pwr.st.railsOn = true ∧ s.critical = true)
    ∧ ([false, true].all (fun hot =>
       let s := powered { st := .ready, powCore := hot, uptime := 1000007, dutyAt := [(1, 7)], duty := [(1, 12)] }
       s.pwr.st.railsOn && s.diePresent 1 && decide (SMap.get 0 s.pwr.dutyAt 1 + s.dutyPeriod ≤ s.pwr.uptime)
       && (hot == decide (s.dutyCause 1 ≠ 0)))) = true
    ∧ ([0, 1].all (fun n =>
       let s : State := { resting n with pwr := { st := .ready, ctrlOn := true, uptime := 1000000000 } }
       decide (s.pwr.st = .ready) && !s.pwr.is4 && s.diePresent 0 && s.siteIdle 0 287 && decide ((s.site 0 287).idle < s.deepest 0 287)
       && decide ((s.site 0 287).idle = 0 ∨ (s.site 0 287).idleSince + idleDelay (s.deepest 0 287) ≤ s.pwr.uptime))) = true
    ∧ (let s : State := { resting 3 with pwr := { st := .ready, ctrlOn := true, calmSince := 2, uptime := 48000001 } }
       s.mayIs4 = true ∧ s.pwr.is4 = false ∧ s.pwr.calmSince ≠ 0 ∧ s.pwr.calmSince + 48000000 ≤ s.pwr.uptime + 1 ∧ s.stackFitted 7 = true)
    ∧ (let s : State := { resting 3 with pwr := { st := .ready, is4 := true }, test := { slices := [(0, { st := .running })] } }
       s.pwr.is4 = true ∧ s.moduleWoken = true ∧ (s.port 0).held = [] ∧ (s.port 1).held = [])
    ∧ (let s : State := { resting 3 with dies := [(0, { l2p := [(0, 1)] })], ctxs := [(1, { st := .fencing, tiles := [(0, 1)], slotMask := 1 })] }
       s.pwr.is4 = false ∧ s.siteWoken 0 0 = true ∧ (s.sliceAt 0 0).st = .none ∧ (s.site 0 0).idle ≠ 0) := by decide +kernel

/-- Host port 0 is UP with 15 virtual functions, Bus Master Enable and MSI-X set; context 1 is ACTIVE with window 0 on HBM page 0. -/
def hosted (w : Nat) : State := { State.reset with
  pwr := { st := .ready, ctrlOn := true }
  host := [(0, { st := .up, everUp := true, numVfs := 15, vfEnable := true, fns := [(1, { busMaster := true, msixOn := true, vectors := [(7, { ctrl := 0, holdoff := true, waiting := true, addr := 64 })] })] })]
  ctxs := [(1, { st := .active, windows := [(0, w)] })] }

theorem witness_HostAccessesServeOrRefuse :
    (let s := hosted (win 0x3B 0 0)
     (s.hostGate 0 1 (some 8)).isNone = true ∧ (s.hostGate 0 1 none).isNone = true
     ∧ s.hostServe 1 0 8 [0] false = .go 0 ∧ s.hostServe 1 4088 8 [1] false = .go 4088 ∧ s.hostServe 1 8 8 [0, 1] true = .go 8
     ∧ isReg 0 = false ∧ isReg 4088 = false
     ∧ s.hostServe 1 4096 8 [0] false = .refuse 1 false false false ∧ s.hostServe 1 4096 8 [1] false = .refuse 1 false false false
     ∧ s.hostServe 1 4 8 [0, 1] true = .refuse 2 false false false
     ∧ s.hostBehind 0 1 = false ∧ s.wayLost (s.hostNode 0) 0 = false)
    -- a refresh interval at the page's pseudo-channel, a module in IS4
    ∧ (let s : State := { hosted (win 0x3B 0 0) with hbm := { refresh := [(0, 1)] } }
       s.hostBehind 0 1 = false ∧ (s.hostGate 0 1 (some 8)).isNone = true ∧ s.hostServe 1 0 8 [0] false = .hold 0)
    ∧ (let s : State := { hosted (win 0x3B 0 0) with pwr := { st := .ready, ctrlOn := true, is4 := true } }
       (s.hostGate 0 1 (some 8)).isNone = true ∧ s.hostServe 1 4088 8 [0] false = .hold 4088)
    -- the router of site 0, by which the far die's ring is left for no unit, has failed: the way to a tile there is lost
    ∧ (let s : State := { hosted (win 0x3B 0 0x7FFFFFFFFFF) with
         dies := [(0, { l2p := [(0, 1)], tablesOn := true })], cur := { hard := [(catAddr 0 0 2 0, true)] } }
       (s.hostGate 0 1 (some 8)).isNone = true ∧ s.wayLost (s.hostNode 0) 0x200000000000 = true) := by decide +kernel

theorem witness_HostLinksResetTheirFunctions :
    (let s := hosted 0
     s.hostFitted 0 = true ∧ s.hostUp 0 = true ∧ s.pwr.st = .ready ∧ (s.port 0).perst = false ∧ (s.port 0).vfEnable = true
     ∧ s.portOf 1 = 0 ∧ (s.ctx 1).st = .active ∧ s.fnExists 0 15 = true ∧ s.fnExists 0 1 = true ∧ s.hostsRun = true
     ∧ (s.port 0).everUp = true ∧ (s.port 0).held = [] ∧ (s.port 1).held = []
     ∧ (let x := SMap.get {} (s.fn 0 1).vectors 7
        x.holdoff = true ∧ x.waiting = true ∧ s.mayWriteHost 0 1 = true ∧ x.ctrl.getLsbD 0 = false ∧ (s.fn 0 1).msixOn = true))
    ∧ ((powered { st := .ready }).hostUp 1 = false ∧ (powered { st := .ready }).hostFitted 1 = true)
    ∧ (let s : State := { State.reset with host := [(0, { fns := [(15, { vectors := [(0, { holdoff := true })] })] })] }
       (SMap.get {} (s.fn 0 15).vectors 0).holdoff = true ∧ (SMap.get {} (s.fn 0 15).vectors 0).waiting = false)
    ∧ (let s : State := { State.reset with hbm := { trained := true } }
       s.stackFitted 7 = true ∧ SMap.get false s.hbm.selfRefresh 7 = false ∧ SMap.get 0 s.hbm.refresh (7 * 32 + 31) = 0
       ∧ s.refreshing 7 < (if f32Order 0x42AA0000 ≤ f32Order (s.temp (64 + 7)) then 6 else 3))
    ∧ (let s : State := { State.reset with hbm := { retrainLeft := [(127, 1)] } }
       SMap.get 0 s.hbm.retrainLeft (7 * 16 + 15) ≠ 0 ∧ SMap.get 0 s.hbm.pause (7 * 16 + 15) = 0)
    ∧ (let s : State := { State.reset with hbm := { retrainLeft := [(127, 1)], pause := [(127, 1)] } }
       SMap.get 0 s.hbm.pause 127 ≠ 0 ∧ SMap.get 0 s.hbm.retrainLeft 127 = 1) := by decide +kernel

-- ---------------------------------------------------------------- witnesses: the management port, the dictionary, the monitor

/-- A GET of VENDOR_ID (R577 to R579) as a request of these header bits: 24 bytes of header, 12 of body. -/
def getMsg (hdr : Nat) : List Nat :=
  leBytes 24 (0xD1F0 + at_ 16 8 1 + at_ 48 16 12 + at_ 64 8 1 + hdr) ++ leBytes 12 (1 + at_ 24 16 0x1000)
/-- Authenticated on slot 7 with REPLAY `r`. -/
def authMsg (r : Nat) : List Nat := getMsg (at_ 25 1 1 + at_ 72 4 7 + at_ 128 64 r)
/-- The controller runs, key slot 7 is enabled, `q` waits. -/
def managed (q : List Message) (cache : List Cached) : State := { State.reset with
  pwr := { st := .ready, ctrlOn := true }
  mgmt := { keys := [(7, { enable := true, priv := 2, highest := 3, cache := cache })], queue := q } }
/-- The authenticated frame to the module with its tag. -/
def authFrame (r src : Nat) : List Nat := authMsg r ++ ((managed [] []).key 7).tag (managed [] []).factory.mac src (authMsg r)

theorem authFrame_msg (r src : Nat) : (authFrame r src).take 36 = authMsg r ∧ ((authFrame r src).drop 36).take 16
    = ((managed [] []).key 7).tag (managed [] []).factory.mac src (authMsg r) := by
  have h : (authMsg r).length = 36 := rfl
  refine ⟨?_, ?_⟩
  · rw [authFrame, List.take_append_of_le_length (by omega), List.take_of_length_le (by omega)]
  · rw [authFrame, List.drop_append_of_le_length (by omega), List.drop_of_length_le (by omega), List.nil_append, KeySlot.tag,
      List.take_take, Nat.min_self]

theorem authFrame_header (r src : Nat) : dfHeader (authFrame r src) = dfHeader (authMsg r) := by
  have h : (authMsg r).length = 36 := rfl
  rw [dfHeader, authFrame, List.take_append_of_le_length (by omega)]
  rfl

/-- A fresh frame is marked, authenticated, of slot 7, and its tag is right, with 8 messages waiting or none. -/
theorem witness_TrayFrames :
    (let s := managed [] []
     s.ctrlRuns = true ∧ s.factory.mac ≠ 2 ^ 48 - 1 ∧ State.reset.ctrlRuns = false
     ∧ (List.replicate 1500 0).length ≤ 1500 ∧ 1500 < (List.replicate 1501 0).length ∧ (authFrame 4 9).length ≤ 1500)
    ∧ dfMarked [] = false
    ∧ (let s := managed [] []
       dfMarked (getMsg 0) = true ∧ dfAuth (dfHeader (getMsg 0)) = false ∧ publicOnly (getMsg 0) = true
       ∧ s.unauthNow < s.obj 0x1021 3 0 ∧ s.mgmt.queue.length < 8)
    ∧ ([4, 2 ^ 64 - 1, 3].all (fun r =>
       let h := dfHeader (authMsg r)
       dfMarked (authMsg r) && dfAuth h && decide (dfSlot h = 7) && decide (dfBodyLen h = 12) && decide (dfReplay h = r))) = true
    ∧ (let k := (managed [] []).key 7
       k.enable = true ∧ k.macBound = false ∧ k.highest < 4 ∧ 3 ≤ k.highest ∧ k.floor ≤ 4 ∧ k.cache = [])
    ∧ 8 ≤ (managed (List.replicate 8 {}) []).mgmt.queue.length := by decide +kernel

/-- The frame with the right tag, a message that a cached entry answers, and a frame with no tag, which is wrong. -/
theorem witness_TrayTags :
    (let h := dfHeader (authFrame 4 9)
     ((authFrame 4 9).drop (24 + dfBodyLen h)).take 16
      = ((managed [] []).key 7).tag (managed [] []).factory.mac 9 ((authFrame 4 9).take (24 + dfBodyLen h)))
    ∧ (∃ c : Cached, let s := managed [] [c]
        (s.key 7).cache.filter (fun c => c.replay == 4 && c.tid == 0 && c.tag == leVal (((authFrame 4 9).drop 36).take 16)
          && decide (s.pwr.uptime ≤ c.sentAt + s.cacheNs)) = [c])
    ∧ ((authMsg 4).drop 36).take 16 ≠ ((managed [] []).key 7).tag (managed [] []).factory.mac 9 (authMsg 4) := by
  have e : dfBodyLen (dfHeader (authMsg 4)) = 12 := by decide +kernel
  have l : (((managed [] []).key 7).tag (managed [] []).factory.mac 9 (authMsg 4)).length = 16 := by decide +kernel
  refine ⟨?_, ⟨{ replay := 4, tag := leVal (((authFrame 4 9).drop 36).take 16) }, ?_⟩, ?_⟩
  · simp only [authFrame_header, e, Nat.reduceAdd, authFrame_msg]
  · simp [managed, State.key, SMap.get]
  · intro h
    rw [← h] at l
    exact absurd l (by decide +kernel)

/-- The queue, the mailbox and the segment port. -/
def mailMsg : Message := { path := 1, fn := 1, bytes := getMsg 0 }
def boxed (busy : Bool) : State := { managed [mailMsg] [] with
  host := [(0, { st := .up, numVfs := 15, vfEnable := true, fns := [(1, { busy := busy })] })] }

theorem witness_TrayMessagesAreJudgedQueuedAndServed :
    ((managed [] []).mgmt.queue = [])
    ∧ (let s := boxed true
       s.ctrlRuns = true ∧ s.mgmt.queue = mailMsg :: [] ∧ mailMsg.path = 1 ∧ mailboxForm mailMsg.bytes = true
       ∧ ((parseMsg 4072 mailMsg.bytes).map (·.length)) = some 1 ∧ ((parseMsg 4072 mailMsg.bytes).map (·.all (fun r => r.ok && r.op == 1))) = some true
       ∧ (s.fn 0 1).busy = true ∧ s.barOk 0 1 = true)
    ∧ (let m : Message := { path := 0, bytes := getMsg (at_ 26 1 1), auth := true, slot := 7 }
       (managed [m] []).mgmt.queue = [m] ∧ m.path = 0 ∧ parseMsg 1460 m.bytes = none)
    ∧ ((boxed false).barOk 0 1 = true ∧ ((boxed false).fn 0 1).busy = false ∧ bitOf (2 ^ 31 + 4096) 31 = true ∧ fld (2 ^ 31 + 4096) 0 13 = 4096
       ∧ fld (2 ^ 31) 0 13 = 0 ∧ 4096 < fld (2 ^ 31 + 4097) 0 13)
    ∧ (let s : State := { State.reset with pwr := { uptime := 10000005 }, mgmt := { newNodeId := some 32, newNodeAt := 5 } }
       State.reset.mgmt.newNodeId = none ∧ s.mgmt.newNodeId = some 32 ∧ s.mgmt.newNodeAt + 10000000 ≤ s.pwr.uptime)
    ∧ ((managed [] []).obj 0x1020 5 0 = 0 ∧ (managed [] []).mgmt.csma = false ∧ (managed [] []).plca = true
       ∧ ({ managed [] [] with mgmt := { csma := true } } : State).plca = false)
    ∧ (let s : State := { managed [] [] with mgmt := { collisions := [0] }, pwr := { uptime := 9999999999 } }
       ∃ x ∈ s.mgmt.collisions, s.pwr.uptime < x + 10000000000)
    ∧ (let s : State := { managed [] [] with mgmt := { collisions := [0] }, pwr := { uptime := 10000000000 } }
       ∀ x ∈ s.mgmt.collisions, x + 10000000000 ≤ s.pwr.uptime) := by decide +kernel

/-- Whether the object's row in the table is as `p` says. -/
def rowIs (i sb : Nat) (p : ObjRow → Bool) : Bool := ((objRow? i sb).map p).getD false

theorem witness_DictionaryOperationsReadAndWriteObjects :
    (let s := boxed true
     s.ctrlRuns = true ∧ objRow? 0x9000 0 = none
     ∧ rowIs 0x1022 1 (fun r => r.acc == 3) = true ∧ rowIs 0x1000 0 (fun r => decide (r.acc < 2)) = true
     ∧ rowIs 0x4010 1 (fun r => decide (2 ≤ r.acc) && decide (1 < r.priv) && r.ty != 9) = true
     ∧ rowIs 0x3021 0 (fun r => r.acc != 3 && decide (0 < r.readPriv)) = true
     ∧ rowIs 0x1012 0 (fun r => decide (2 ≤ r.acc) && decide (r.priv ≤ 2) && r.ty == 2 && s.rowSize r == 1) = true
     ∧ rowIs 0x1000 0 (fun r => r.acc != 3 && r.readPriv == 0 && decide (pad4 (s.rowSize r) ≤ bodyMax 9 - 12) && r.ty != 9 && r.ty != 10) = true
     ∧ rowIs 0x4012 1 (fun r => r.acc != 3 && r.readPriv == 0 && decide (bodyMax 9 - 12 < pad4 (s.rowSize r)) && r.ty == 9
        && decide (s.rowSize r ≤ 2 ^ 20) && 1440 % r.bytes == 0 && decide (pad4 (8 + 1440) ≤ bodyMax 9 - 12)) = true
     ∧ s.hostsRun = true ∧ s.pwr.st = .ready ∧ s.hostFitted 0 = true ∧ s.hostUp 0 = true ∧ s.fnExists 0 0 = true
     ∧ s.flash.dirty = [])
    ∧ ({ State.reset with flash := { dirty := [(okey 0x1012 0 0, true)] } } : State).flash.dirty ≠ []
    ∧ (fld (leVal (3 :: List.replicate 39 0)) 0 2 = 3 ∧ fld (leVal (List.replicate 40 0)) 0 2 ≠ 3 ∧ (List.replicate 40 0).length = 40)
    ∧ ({ State.reset with mon := { slot := some 7 } } : State).mon.slot = some 7
    ∧ (let s : State := { managed [] [] with dies := [(1, { l2p := [(287, 1)] })] }
       s.siteOf (575 / 288) (575 % 288) = some 0 ∧ s.tilePresent (575 / 288) (575 % 288) = true
       ∧ State.reset.tilePresent (575 / 288) (575 % 288) = false)
    ∧ (65532 + [0, 0, 0, 0].length ≤ 0x10000 ∧ (15 : Nat) < 16 ∧ (15 : Nat) ≠ 14 ∧ (15 : Nat) ≠ 0)
    ∧ (let s : State := { managed [] [] with host := [(0, { st := .up })] }
       s.hostFitted 0 = true ∧ s.hostUp 0 = true ∧ s.fnExists 0 0 = true ∧ (s.port 0).vfEnable = false) := by decide +kernel

/-- A value above 1 MiB, which GET_SEG reads live: BIST_COVERAGE with 65,537 entries. -/
theorem witness_LiveBlob : let s : State := { State.reset with test := { coverage := List.replicate 65537 0 } }
    ∃ r, objRow? 0x4001 4 = some r ∧ r.ty = 9 ∧ 2 ^ 20 < s.rowSize r := by
  refine ⟨⟨"BIST_COVERAGE", 0x4001, 4, 9, 16, 0, 1, 1⟩, by decide +kernel, rfl, ?_⟩
  simp only [State.rowSize, State.rowCount, List.length_replicate]
  decide

/-- The monitor in a session of privilege `n` (0 locked) with a challenge or none. -/
def session (n : Nat) (ch : Option (Nat × Nat)) : State := { managed [] [] with mon := { state := n, challenge := ch } }

theorem witness_MonitorCommandsAnswerAndAct :
    (let s := session 3 none
     s.pwr.ctrlOn = true ∧ s.mon.challenge = none ∧ s.pwr.romOnly = false ∧ s.mon.state = 3 ∧ (session 0 none).mon.state = 0
     ∧ s.peekRefused 0 256 = none ∧ s.peekRefused 0x004800000000 1 = some "ABSENT" ∧ isReg 0 = false ∧ 256 ≤ 0x004800000000
     ∧ s.peekWaits 0 256 = false ∧ s.wayLost (s.hostNode 0) 0 = false ∧ monForms[14]?.isSome = true ∧ monForms[15]? = none
     ∧ s.mgmt.queue = [] ∧ s.siteOf 1 287 = none
     ∧ rowIs 0x1021 1 (fun r => r.ty != 9 && r.ty != 10 && r.acc != 3 && decide (r.readPriv < 3)) = true
     ∧ s.mon.blockedUntil ≤ s.pwr.uptime ∧ s.obj 0x1030 2 0 ≠ 0)
    -- the boot ROM's monitor; a bank being zeroed; a tile whose router has failed
    ∧ (let s : State := { session 3 none with pwr := { ctrlOn := true, romOnly := true } }
       s.pwr.ctrlOn = true ∧ s.pwr.romOnly = true ∧ 3 ≤ s.mon.state)
    ∧ (let s : State := { session 3 none with
         dies := [(0, { l2p := [(0, 1)], tablesOn := true })], tiles := [(0, { banks := [(0, { zeroing := true })] })] }
       s.peekRefused 0x20000000FFFF 1 = none ∧ s.peekWaits 0x20000000FFFF 1 = true)
    ∧ (let s : State := { session 3 none with
         dies := [(0, { l2p := [(0, 1)], tablesOn := true })], cur := { hard := [(catAddr 0 0 2 0, true)] } }
       s.peekRefused 0x20000017FFFF 1 = none ∧ s.peekWaits 0x20000017FFFF 1 = false ∧ s.wayLost (s.hostNode 0) 0x20000017FFFF = true
       ∧ isReg 0x20000017FFFF = false)
    ∧ (let s : State := { session 3 none with
         dies := [(0, { l2p := [(0, 1)], tablesOn := true })], sites := [(0, { idle := 3 }), (1, { idle := 3 })] }
       s.peekRefused 0x200000000000 1 = some "IDLE" ∧ s.idleOf 0 0 = 3)
    ∧ (objRow? 0x9000 0 = none ∧ 8 ≤ (managed (List.replicate 8 {}) []).mgmt.queue.length)
    ∧ (let s : State := { session 0 none with mon := { blockedUntil := 1 } }
       s.pwr.uptime < s.mon.blockedUntil)
    ∧ (let s := session 0 (some (5, 7))
       s.mon.challenge = some (5, 7) ∧ s.pwr.uptime ≤ s.mon.challengeAt + 60000000000 ∧ (s.key 7).enable = true)
    ∧ (let s := session 0 (some (5, 6))
       s.mon.challenge = some (5, 6) ∧ (s.key 6).enable = false)
    ∧ (let s : State := { session 0 (some (5, 7)) with pwr := { ctrlOn := true, uptime := 60000000001 } }
       s.mon.challengeAt + 60000000000 < s.pwr.uptime)
    ∧ (({ State.reset with mgmt := { objs := [(okey 0x1030 2 0, 1)] } } : State).obj 0x1030 2 0 = 0) := by decide +kernel

/-- The right response of key slot 7, all zeros, to the challenge 5. -/
theorem witness_RightResponse : let s := session 0 (some (5, 7))
    (11609270029900190920 : Nat) < 2 ^ 64 ∧ Sha.beBytes 8 11609270029900190920 = s.loginAnswer 5 7 ∧ Sha.beBytes 8 0 ≠ s.loginAnswer 5 7 := by decide +kernel

theorem witness_SetupLoginNeedsNoKeyWhileNoneIsEnabled :
    (let s : State := { State.reset with pwr := { ctrlOn := true } }
     s.pwr.ctrlOn = true ∧ s.mon.challenge = none ∧ s.mon.blockedUntil ≤ s.pwr.uptime ∧ (∀ e ∈ s.mgmt.keys, e.2.enable = false))
    ∧ ((managed [] []).key 7).enable = true := by decide +kernel

-- ---------------------------------------------------------------- witnesses: the whole machine

theorem witness_ContextZeroIsNeverResetOnItsOwn :
    (∃ t, exec (.ctxReset 0) State.reset = .next t)
    ∧ (State.reset.pwr.warm = .none → State.reset.ctx0.st = .active ∧ State.reset.ctx0.reset? = none) := ⟨⟨_, rfl⟩, fun _ => ⟨rfl, rfl⟩⟩

theorem witness_EveryStepKeepsTheCanonicalForm :
    Memory.wf State.reset.mem = true ∧ Memory.wf (State.reset.memWrite 5 [1, 0, 2] false).mem = true := by decide +kernel

theorem witness_StepRunsTheFrontCommand : State.reset.pending = [] ∧ State.reset.pwr.ctrlOn = false ∧ (powered { ctrlOn := true }).pwr.ctrlOn = true
    ∧ (powered { ctrlOn := true }).pending = [] := by decide +kernel

-- ---------------------------------------------------------------- values of the spec's worked examples

/-- What leaves the module in a step. -/
def outNext (o : Host.Outcome State Fault Refusal) : List Output := match o with
  | .next t => t.out
  | _ => []
/-- The state after a step, or reset's. -/
def after (o : Host.Outcome State Fault Refusal) : State := match o with
  | .next t => t
  | _ => State.reset

/-- The factory's nine DEFECT sites of the example, (column, row). -/
def nine : List (Nat × Nat) := [(4, 0), (13, 1), (0, 3), (8, 5), (16, 6), (6, 8), (12, 10), (3, 11), (15, 12)]
def siteAt (p : Nat × Nat) : Nat := p.2 * 18 + p.1
def exampleDie (dead : List (Nat × Nat)) : State := { State.reset with
  factory := { fuses := (nine.map (fun p => (siteAddr 1 (siteAt p), 1))) }
  cat := { fieldOut := fieldUnits (dead.map (fun p => fieldEntry 0 1 false false (siteAddr 1 (siteAt p)))) } }

/-- Numbering one die (chapter 02, worked example): 279 good sites, 7 spares, (11,13) is 1.217, (17,0) is 1.263. -/
theorem test_numbering_example :
    (let s := (exampleDie []).numberDie 1
     (s.goodSites 1).length = 279 ∧ (s.die 1).spares = [(17, 9), (17, 10), (17, 11), (17, 12), (17, 13), (17, 14), (17, 15)].map siteAt
     ∧ s.siteOf 1 217 = some (siteAt (11, 13)) ∧ s.siteOf 1 263 = some (siteAt (17, 0)))
    ∧ (let s := (exampleDie [(11, 13)]).numberDie 1
       s.siteOf 1 217 = some (siteAt (10, 13)) ∧ s.siteOf 1 262 = some (siteAt (17, 0)) ∧ (s.die 1).spares.length = 6) := by decide +kernel

/-- The spare sites that the catalogue of State.reset lists are those that the numbering leaves (R48). -/
theorem test_spares_of_reset :
    ((State.reset.numberDie 0).die 0).spares ++ (((State.reset.numberDie 1).die 1).spares.map (· + 288)) = State.reset.factory.spareSites := by
  decide +kernel

/-- One block of sixteen BF16 values as BS4 (chapter 04, worked example): nine bytes, 2 saturated, 3 flushed. -/
theorem test_bs4_example : bs4Encode ([0x4040, 0xBF40, 0x4148, 0, 0x3FA0, 0xC0A0, 0x3E40, 0x40E0, 0xC150, 0x4028, 0x3EE0, 0xBD80, 0x4110,
    0x4090, 0xBF80, 0x40C8].map (Fmt.decode .bf16)) = ([0x80, 0x93, 0x07, 0xC1, 0x60, 0x3F, 0x80, 0x46, 0x59], 2, 3) := by decide +kernel

def bf (a : Nat) : Machine.Num := Fmt.decode .bf16 a
/-- A cell of the example across four devices. -/
def partialOf (ps : List (Nat × Nat)) : Int × Ev := ancCell (-88) [ps.map (fun p => (bf p.1).mul (bf p.2))] (0, {})

/-- Partial blocks on the grid of anchor -88, their sum in ring and tree order, and the fold (chapter 05, worked example). -/
theorem test_anchored_example :
    ancCode (partialOf [(0x4280, 0x4880)]).1 = 0x00010000000000000000000000000000
    ∧ ancCode (partialOf [(0x3F80, 0x3F80), (0x29C0, 0x2980)]).1 = 0x00000000010000000000000000000002
    ∧ ancCode (partialOf [(0xC280, 0x4880)]).1 = 0xFFFF0000000000000000000000000000
    ∧ ancCode (partialOf [(0x3F00, 0x4000), (0x2900, 0x2900)]).1 = 0x00000000010000000000000000000000
    ∧ (partialOf [(0x3F00, 0x4000), (0x2900, 0x2900)]).2.flush = true ∧ (partialOf [(0x3F80, 0x3F80), (0x29C0, 0x2980)]).2.flush = false
    ∧ (Fmt.encode .fp32 {} (ancNum (-88) (ancOfCode 0x00000000020000000000000000000002))).1 = 0x40000000 := by decide +kernel

/-- The same reduction in fast mode: the ring order gives 1.0, the tree order 2.0 (chapter 05, worked example). -/
theorem test_fast_order_example :
    (let add (a b : Nat) := (Fmt.encode .fp32 {} ((Fmt.decode .fp32 a).add (Fmt.decode .fp32 b))).1
     add (add (add 0x4B800000 0x3F800000) 0xCB800000) 0x3F800000 = 0x3F800000
     ∧ add (add 0x4B800000 0xCB800000) (add 0x3F800000 0x3F800000) = 0x40000000) := by decide +kernel

/-- The descriptor of the worked example of chapter 06, with FMT_A as given. -/
def exampleDesc (fa : Nat) : Nat :=
  0x002A0E0001022011 - 0x2000 + fa * 0x1000 + at_ 64 64 0x0000800000000000 + at_ 128 64 0x0040001000000180 + at_ 192 64 0x1000000000004000
  + at_ 256 64 0x1000040000010000 + at_ 320 64 0x4000000000000105

/-- Its fields, the check that it passes, and the later format field named when the pair is illegal. -/
theorem test_descriptor_example :
    (let d : Desc := exampleDesc 2
     d.opc = .mmaT ∧ d.func = 1 ∧ d.fmtA = some .bf16 ∧ d.fmtB = some .bf16 ∧ d.dim0 = 384 ∧ d.dim1 = 16 ∧ d.dim2 = 64
     ∧ locArray d.locD = 1 ∧ locSet d.locD = 5 ∧ d.crOffset = 0xE00)
    ∧ (let s := ready1 0
       let k : Slot := { slot1 0 with epoch := 2 }
       s.opCheck 1 0 0 0 false k (exampleDesc 2) = none ∧ s.opCheck 1 0 0 0 false k (exampleDesc 4) = some (.format, 4)) := by
  decide +kernel

/-- The completion record of the rejected tile-op of the example: first on slot 1, 8,000 cycles after the load. -/
theorem test_record_example :
    (let o : InFlight := { slot := 1, desc := BitVec.ofNat 512 (exampleDesc 4), status := .format, detail := 4, rejected := true }
     o.record 1 8000 2 [] = 0x1200001160000004 + at_ 64 64 0x000000001F400000 + at_ 128 64 0x00000000002A0000 + at_ 192 64 0x0000000100000000)
    := by decide +kernel

/-- Decoding two addresses (chapter 07, worked example): bank 5 of tile 1.217, and channel 12 of stack 2. -/
theorem test_address_example :
    place (0x0004A0005B250340 % 2 ^ 46) = .tileWin 1 217 0x50340 ∧ 0x0004A0005B250340 / 2 ^ 46 = 0x12
    ∧ place 0x001234567800 = .hbm 2 0x34567800 ∧ State.reset.channelOf 2 0x34567800 = 2 * 16 + 12 := by decide +kernel

/-- Reading tile 1.217 (chapter 08, worked example): median and p99 of three targets, and of stack 6 from the spare. -/
theorem test_distance_example :
    (let e (site i : Nat) := let v := State.reset.distEntry 1 site i; (fld v 32 16, fld v 48 16)
     e (siteAt (11, 13)) 6 = (278, 2445) ∧ e (siteAt (11, 13)) 10 = (122, 259) ∧ e (siteAt (11, 13)) 26 = (43, 91)
     ∧ e (siteAt (17, 15)) 6 = (264, 2424)) := by decide +kernel

/-- The values of the request channel (chapter 09, worked example). -/
theorem test_channel_example :
    (let c := 0x8007168000200120
     scKind c = 2 ∧ scPair c = 0 ∧ scDestTile c = 45 ∧ scDestQ c = 0)
    ∧ (reValid 0x80200700 = true ∧ reIn 0x80200700 = 0 ∧ reChan 0x80200700 = 1 ∧ reCircuit 0x80200700 = 7)
    ∧ (reIn 0xA4000800 = 2 ∧ reSink 0xA4000800 = 4)
    ∧ (let q := 0x0031190100141020
       qCtx q = 3 ∧ qGen q = 0x11 ∧ qDepth q = 32 ∧ qRingEntries q = 256) := by decide +kernel

/-- The switch of section 7 to 8 and of a gate: step 17 opens at 2^40 + 34,000,000 ns (chapter 14, worked example). -/
theorem test_gate_example :
    (let s := ctxIs 2 { launchAt := BitVec.ofNat 64 (2 ^ 40), stepNs := 2000000 }
     s.launchValue 2 { gateBase := 17, sections := [sect1 1] } 1 = 0x000001000206CC80) := by decide +kernel

/-- The flow entry of chapter 13's worked example: RATE 40,000, BURST 65,536, BOUND_NS 6,925, SLICES 15, context 7, device (5,6). -/
theorem test_flow_example :
    (let e := 0xB8030A00001B0D00010000009C40000F
     flowValid e = true ∧ flowCtx e = 7 ∧ flowDest e = 0x185 ∧ flowRate e = 40000 ∧ flowBurst e = 65536 ∧ flowBound e = 6925 ∧ flowSlices e = 15
     ∧ coord 0x185 0 = 5 ∧ coord 0x185 1 = 6) := by decide +kernel

/-- LIM-03 (R645): with FLUSH_SUB the element stays 0 and its checksum entries do not; without it the element is 2^-124. -/
theorem test_flush_checksum_example :
    (let x := bf 0x1F80
     let m (flush : Bool) : Mma := {
       rows := List.replicate 16 (List.replicate 16 x), cols := List.replicate 64 (List.replicate 16 x), k := 16, mode := 0, per := 1
       regime := { flush := flush }, narrow := false }
     let one := List.replicate 16 x
     let sa := (m true).sums (m true).rows
     let sb := (m true).sums (m true).cols
     ((m true).cell 0 0 one one).1 = 0 ∧ (m true).sumCell 0 0 one sb = (127 - 118) * 2 ^ 23 ∧ (m true).sumCell 0 0 sa one = (127 - 120) * 2 ^ 23
     ∧ (m true).sumCell 0 0 sa sb = (127 - 114) * 2 ^ 23 ∧ ((m false).cell 0 0 one one).1 = (127 - 124) * 2 ^ 23) := by decide +kernel

/-- DESCRIBE of TILE_STALL_CLOCK and DIST_TABLE; a GET of either on the segment is TOO_BIG (chapter 20, worked example). -/
theorem test_describe_example :
    (let s := managed [] []
     outNext (exec (.dfDescribe 0 0x8010 1) s) = [.dfAnswer 0 (leBytes 8 0x0000120000080910)]
     ∧ outNext (exec (.dfDescribe 0 0x3022 1) s) = [.dfAnswer 0 (leBytes 8 0x0002400001000910)]
     ∧ outNext (exec (.dfGet 0 1 0x8010 1) s) = [.dfAnswer 7 []]) := by decide +kernel

/-- Raising context 3's check level (chapter 19, worked example): the record, its effect and the response's words. -/
theorem test_check_level_example :
    (let req := leBytes 24 (0x00101A2B0201D1F0 + at_ 64 64 0x101 + at_ 128 64 0x0000000100000042) ++ leBytes 12 (0x0001013011090004 + at_ 64 32 3) ++ [2, 0, 0, 0]
     let h := dfHeader req
     dfSlot h = 1 ∧ dfReplay h = 0x0000000100000042 ∧ dfTid h = 0x1A2B
     ∧ parseMsg 1460 req = some [⟨4, 0, 9, 0x3011, 1, 1, 3, [2]⟩]
     ∧ (let t := after (exec (.dfSetSeg 1 1 0x3011 1 9 3 [2]) (managed [] []))
        t.obj 0x3011 1 3 = 2 ∧ t.obj 0x3011 1 2 = State.reset.obj 0x3011 1 2)
     ∧ fld (leVal (respMsg h true .ok 1 (respRec ⟨4, 0, 9, 0x3011, 1, 1, 3, [2]⟩ .ok []))) 0 64 = 0x000C1A2B0301D1F0) := by decide +kernel

/-- CQ_CFG and the doorbell of chapter 18's worked example; BAR4 offset 0x2D_0010_0000 is that local address. -/
theorem test_host_step_example :
    (let t := after (exec (.cqCfgWrite 4 0xE008000A) (ctxIs 4 { st := .active }))
     let r := (t.ctx 4).cq
     r.enable = true ∧ r.host = true ∧ r.irq = true ∧ r.holdoff = 8 ∧ r.log2 = 10)
    ∧ (let t := after (exec (.seqDoorbell 4 0x0011002D00000000 0) (ctxIs 4 { st := .active }))
       ((t.ctx 4).graph.map (fun g => (g.tag, g.addr))) = some (0x11, 0x002D00000000))
    ∧ bar4Range 0x2D00100000 64 = some 0x002D00100000 := by decide +kernel

-- ---------------------------------------------------------------- the machine

/-- The invariants hold at reset, and a byte that nothing has written reads 0 (R230). -/
theorem test_reset : Memory.wf State.reset.mem = true ∧ State.reset.memByte 0x123 = 0 ∧ State.reset.pending = [] ∧ State.reset.ctx0.st = .active := by
  decide +kernel

/-- A step takes the front command and leaves the rest waiting; ACTIVATE before READY answers STATE (R367). -/
theorem test_step :
    (after (step { State.reset with pending := [Instr.ctxActivate 1, .vinAnaPresent] })).pending = [Instr.vinAnaPresent]
    ∧ (after (step { State.reset with pending := [Instr.ctxActivate 1] }) |>.ctx 1).cmdStatus = 1 := by decide +kernel

/-- Bytes written read back in order, little-endian lines; writing zeros removes what is listed. -/
theorem test_memory : (let s := State.reset.memWrite 0x1003 [1, 2, 0, 4] false
    s.memNat 0x1003 4 = 0x04000201 ∧ s.mem.length = 3 ∧ (s.memWrite 0x1003 [0, 0, 0, 0] false).mem = []) := by decide +kernel

-- ---------------------------------------------------------------- connectors and limits

/-- The currents of R622, the framed rate of R398, the straps of R630 and pins of R625 and R626, by hand from their tables. -/
theorem test_connectors :
    ((supplyFigures 0).maxCurrent, (supplyFigures 1).maxCurrent, (supplyFigures 2).maxCurrent) = (1172, 250, 64)
    ∧ rateFec = 16932 ∧ rateFramed = 15936 ∧ strapNodeId [] = 31 ∧ strapNodeId [0, 4] = 14
    ∧ pinAt 1 17 = some (.pcieTx 1 0 true) ∧ pinAt 6 34 = some .alert ∧ pinAt 7 35 = some (.mgmtId 4) ∧ pinAt 4 39 = some .nc
    ∧ pinAt 0 36 = some .present ∧ pinAt 0 41 = none := by decide +kernel

end Sys2Proof.Tests
end

section
/-! PROOFS. Every command answers a next state and keeps the factory catalogue, the queue and the canonical form of memory (R13,
R46, R230): one lemma for each command that branches, following its branches and citing for each what its operations keep
(Laws/Keeps), then the case split over the commands. -/

namespace Sys2Proof.Machine

/-- The answer `o` to a command given in `s` is a next state that keeps what every command keeps. -/
def State.Completes (s : State) (o : Out) : Prop := ∃ t, o = .next t ∧ State.Keeps s t

variable {s t u : State} {o : Out}

theorem State.KeepsD.of_keeps (h : State.Keeps s t) : State.KeepsD s t := ⟨h⟩

theorem State.KeepsD.of_same (h : State.Same s t) : State.KeepsD s t := ⟨keeps_of_same h⟩

theorem State.KeepsD.refl (s : State) : State.KeepsD s s := .of_same ⟨rfl, rfl, rfl⟩

theorem State.KeepsD.keeps (h : State.KeepsD s t) (k : State.Keeps t u) : State.KeepsD s u := keepsD_trans h ⟨k⟩

theorem State.KeepsD.same (h : State.KeepsD s t) (k : State.Same t u) : State.KeepsD s u := h.keeps (keeps_of_same k)

theorem State.KeepsD.fold {α : Type} {f : State → α → State} {l : List α} (h : State.KeepsD s t)
    (k : ∀ s x, State.KeepsD s (f s x)) : State.KeepsD s (l.foldl f t) := keepsD_trans h (foldl_keepsD k l t)

theorem State.completes_next (h : State.KeepsD s t) : s.Completes (.next t) := ⟨t, rfl, h.out⟩

theorem State.completes_self (s : State) : s.Completes (.next s) := State.completes_next (.refl s)

theorem State.completes_of_keeps (h : State.Keeps s t) : s.Completes (.next t) := State.completes_next ⟨h⟩

theorem State.completes_of_same (h : State.Same s t) : s.Completes (.next t) := State.completes_next (.of_same h)

theorem State.completes_ite {p : Prop} [Decidable p] {a b : Out} (ha : s.Completes a) (hb : s.Completes b) :
    s.Completes (if p then a else b) := by
  split <;> assumption

theorem State.KeepsD.completes (h : State.KeepsD s t) (k : t.Completes o) : s.Completes o := by
  obtain ⟨u, ho, hu⟩ := k
  exact ⟨u, ho, keeps_trans h.out hu⟩

theorem State.tryWeft_same (s : State) : State.Same s s.tryWeft.2 := by
  unfold State.tryWeft
  split
  · exact ⟨rfl, rfl, rfl⟩
  · split <;> simp [State.Same]

theorem State.taken_keepsD (s : State) (expected : Bool) (h : Nat) {f : State → State} (k : State.KeepsD s (f s)) :
    State.KeepsD s (s.taken expected h f) := ⟨State.taken_keeps s expected h f k.out⟩

end Sys2Proof.Machine
end

section
namespace Sys2Proof.Machine
open State State.KeepsD

-- ---------------------------------------------------------------- Machine/TileEvents.lean

theorem execTileopEngineDone_completes (die tile engine : Nat) (s : State) : s.Completes (execTileopEngineDone die tile engine s) := by
  unfold execTileopEngineDone
  split
  · dsimp only
    exact s.completes_self
  · dsimp only
    split
    · exact s.completes_self
    · split
      · exact completes_of_keeps (actOp_keeps ..)
      · split
        · exact completes_next (of_keeps (actOp_keeps ..) |>.same (updOp_same ..) |>.keeps (beginWaiting_keeps ..))
        · exact completes_of_keeps (actOp_keeps ..)

theorem execReexecDone_completes (die tile : Nat) (faults : List Nat) (s : State) :
    s.Completes (execReexecDone die tile faults s) := by
  unfold execReexecDone
  split
  · exact s.completes_self
  · split
    · exact s.completes_self
    · split
      · dsimp only
        split
        · exact completes_next (of_same (count_same ..) |>.same (updOp_same ..) |>.same (releaseOp_same ..) |>.same (scoreTile_same ..))
        · exact completes_next (of_same (count_same ..) |>.same (failFinally_same ..) |>.same (scoreTile_same ..))
      · dsimp only
        split
        · exact completes_next (of_same (count_same ..) |>.same (updOp_same ..) |>.same (releaseOp_same ..) |>.same (scoreTile_same ..))
        · exact completes_next (of_same (count_same ..) |>.same (failFinally_same ..) |>.same (scoreTile_same ..))

theorem execReplayExecute_completes (die tile flip : Nat) (s : State) : s.Completes (execReplayExecute die tile flip s) := by
  unfold execReplayExecute
  split
  · exact s.completes_self
  · split
    · exact completes_of_same (updOp_same ..)
    · exact s.completes_self

theorem execReplayDigest_completes (die tile reexec : Nat) (s : State) : s.Completes (execReplayDigest die tile reexec s) := by
  unfold execReplayDigest
  split
  · exact s.completes_self
  · split
    · exact s.completes_self
    · split
      · dsimp only
        exact completes_next (of_same (updOp_same ..) |>.same (releaseOp_same ..))
      · split
        · dsimp only
          exact completes_next (of_same (updOp_same ..) |>.same (failFinally_same ..) |>.same (scoreTile_same ..))
        · split
          · dsimp only
            exact completes_next (of_same (count_same ..) |>.same (updOp_same ..) |>.same (releaseOp_same ..) |>.same (scoreTile_same ..))
          · split
            · split
              · dsimp only
                exact completes_next (of_same (count_same ..) |>.same (updOp_same ..) |>.same (releaseOp_same ..))
              · split
                · dsimp only
                  exact completes_next (of_same (count_same ..) |>.same (updOp_same ..) |>.same (releaseOp_same ..))
                · dsimp only
                  exact completes_next (of_same (count_same ..) |>.same (updOp_same ..) |>.same (releaseOp_same ..)
                    |>.same (scoreHit_same ..))
            · dsimp only
              exact completes_next (of_same (count_same ..) |>.same (updOp_same ..) |>.same (failFinally_same ..)
                |>.same (scoreTile_same ..))

theorem execTileopRetire_completes (die tile cycle : Nat) (stalls : List (Nat × Nat)) (s : State) :
    s.Completes (execTileopRetire die tile cycle stalls s) := by
  unfold execTileopRetire
  extract_lets t
  split
  · exact s.completes_self
  · split
    · exact s.completes_self
    · extract_lets k sl c fault o seq writes n s1 s2 s3 s4 s5
      have h1 : KeepsD s s1 := of_same (updTile_same ..)
      have h2 : KeepsD s s2 := keepsD_ite (h1.keeps (putRecord_keeps ..)) h1
      have h3 : KeepsD s s3 := keepsD_ite h2 (((h2.same (count_same ..)).same (count_same ..)).same (updCtx_same ..))
      have h4 : KeepsD s s4 := (h3.same (updNode_same ..)).keeps (retireReports_keeps ..)
      have h5 : KeepsD s s5 := keepsD_ite h4 (h4.keeps (haltAt_keeps ..))
      exact completes_next ((h5.same (finishCard_same ..)).same (moveActive_same ..))

theorem execCheckCompare_completes (die tile : Nat) (faults : List Nat) (s : State) :
    s.Completes (execCheckCompare die tile faults s) := by
  unfold execCheckCompare
  dsimp only
  split
  · exact s.completes_self
  · split
    · exact completes_of_keeps (compareRetired_keeps ..)
    · split
      · exact s.completes_self
      · split
        · exact completes_next (of_same (updTile_same ..) |>.same (updOp_same ..) |>.same (releaseOp_same ..))
        · split
          · exact completes_next (of_same (updTile_same ..) |>.same (poisonDest_same ..) |>.same (updOp_same ..)
              |>.same (scoreTile_same ..))
          · split
            · exact completes_next (of_same (updTile_same ..) |>.same (updOp_same ..))
            · exact completes_next (of_same (updTile_same ..) |>.same (updOp_same ..) |>.same (failFinally_same ..)
                |>.same (scoreTile_same ..))

theorem execBeatTick_completes (die tile slot : Nat) (s : State) : s.Completes (execBeatTick die tile slot s) := by
  unfold execBeatTick
  split
  · exact completes_of_same (updTile_same ..)
  · exact s.completes_self

theorem execFreqStepApply_completes (die tile : Nat) (s : State) : s.Completes (execFreqStepApply die tile s) := by
  unfold execFreqStepApply
  split
  · exact s.completes_self
  · dsimp only
    split
    · exact completes_next (of_same (updSite_same ..) |>.same (tallyAll_same ..))
    · exact s.completes_self

-- ---------------------------------------------------------------- Machine/Channels.lean

theorem execWarpPickOwnerWrite_completes (die value : Nat) (s : State) : s.Completes (execWarpPickOwnerWrite die value s) := by
  unfold execWarpPickOwnerWrite
  split
  · exact completes_of_same (writePickOwner_same ..)
  · exact s.completes_self

theorem execWarpAdmit_completes (die tile slot chan pick : Nat) (s : State) :
    s.Completes (execWarpAdmit die tile slot chan pick s) := by
  unfold execWarpAdmit
  dsimp only
  split
  · split
    · exact s.completes_self
    · split
      · exact s.completes_self
      · split
        · split
          · exact completes_next (of_same (updTile_same ..) |>.same (updDie_same ..))
          · exact completes_next (of_same (updTile_same ..) |>.same (count_same ..))
        · exact completes_next (of_same (updTile_same ..) |>.same (count_same ..))
  · exact s.completes_self

theorem execQueueArrival_completes (die tile queue bad : Nat) (s : State) : s.Completes (execQueueArrival die tile queue bad s) := by
  unfold execQueueArrival
  dsimp only
  split
  · exact s.completes_self
  · split
    · exact s.completes_self
    · exact completes_next (of_same (updDie_same ..) |>.same (reachFrame_same ..) |>.same (flitError_same ..) |>.keeps (arrive_keeps ..))

theorem execRingRefill_completes (die tile queue : Nat) (s : State) : s.Completes (execRingRefill die tile queue s) := by
  unfold execRingRefill
  dsimp only
  exact completes_of_keeps (refill_keeps ..)

theorem execStreamLineArrival_completes (die tile port bad : Nat) (s : State) :
    s.Completes (execStreamLineArrival die tile port bad s) := by
  unfold execStreamLineArrival
  split
  · exact s.completes_self
  · dsimp only
    split
    · exact completes_next (of_same (updDie_same ..) |>.same (reachFrame_same ..) |>.same (flitError_same ..) |>.same (updTile_same ..)
        |>.keeps (feedWaiting_keeps ..))
    · exact completes_next (of_same (updDie_same ..) |>.same (reachFrame_same ..) |>.same (flitError_same ..))

theorem execCreditReturn_completes (die idx : Nat) (s : State) : s.Completes (execCreditReturn die idx s) := by
  unfold execCreditReturn
  split
  · exact s.completes_self
  · split
    · exact s.completes_self
    · split
      · dsimp only
        split
        · split
          · exact completes_next (of_same (updDie_same ..) |>.same (reachFrame_same ..))
          · exact completes_next (of_same (updDie_same ..) |>.same (reachFrame_same ..) |>.same (updTile_same ..))
        · exact completes_next (of_same (updDie_same ..) |>.same (reachFrame_same ..))
      · dsimp only
        split
        · exact completes_next (of_same (updDie_same ..) |>.same (reachFrame_same ..))
        · split
          · exact completes_next (of_same (updDie_same ..) |>.same (reachFrame_same ..) |>.same (updTile_same ..))
          · exact completes_next (of_same (updDie_same ..) |>.same (reachFrame_same ..))

theorem execSendWaitExpire_completes (die tile : Nat) (s : State) : s.Completes (execSendWaitExpire die tile s) := by
  unfold execSendWaitExpire
  dsimp only
  split
  · exact s.completes_self
  · split
    · exact s.completes_self
    · split
      · exact completes_of_same (markStall_same ..)
      · exact completes_next (of_same (markStall_same ..) |>.same (count_same ..) |>.keeps (stallEvent_keeps ..))

theorem execJoinStall_completes (die tile qe qf : Nat) (s : State) : s.Completes (execJoinStall die tile qe qf s) := by
  unfold execJoinStall
  dsimp only
  split
  · exact s.completes_self
  · split
    · exact completes_next (of_same (markStall_same ..) |>.same (updTile_same ..) |>.same (markSender_same ..) |>.same (count_same ..)
        |>.keeps (stallEvent_keeps ..))
    · exact s.completes_self

theorem execChanPause_completes (die tile : Nat) (s : State) : s.Completes (execChanPause die tile s) := by
  unfold execChanPause
  split
  · exact completes_next (of_same (pauseTile_same ..) |>.same (updTile_same ..))
  · exact s.completes_self

theorem execChanResume_completes (die tile : Nat) (s : State) : s.Completes (execChanResume die tile s) := by
  unfold execChanResume
  split
  · exact completes_of_same (resumeTile_same ..)
  · exact s.completes_self

theorem execSyncArrive_completes (die tile : Nat) (s : State) : s.Completes (execSyncArrive die tile s) := by
  unfold execSyncArrive
  split
  · exact s.completes_self
  · split
    · exact s.completes_self
    · extract_lets s1 n ts
      have h1 : KeepsD s s1 := of_same (updOp_same ..)
      split
      · refine completes_next (h1.fold (fun s t => ?_))
        split
        · exact of_same (updOp_same ..)
        · exact refl s
      · exact completes_next h1

theorem execSyncRelease_completes (die tile : Nat) (s : State) : s.Completes (execSyncRelease die tile s) := by
  unfold execSyncRelease
  split
  · split
    · exact completes_of_same (updOp_same ..)
    · exact s.completes_self
  · exact s.completes_self

-- ---------------------------------------------------------------- Machine/Cards.lean

theorem execCreditGraceEnd_completes (die ctx : Nat) (s : State) : s.Completes (execCreditGraceEnd die ctx s) :=
  completes_next ((refl s).fold (fun _ _ => of_same (updTile_same ..)) |>.same (reachFrame_same ..))

-- ---------------------------------------------------------------- Machine/SeqEvents.lean

theorem execGraphChecked_completes (ctx : Nat) (s : State) : s.Completes (execGraphChecked ctx s) := by
  unfold execGraphChecked
  split
  · exact s.completes_self
  · split
    · exact s.completes_self
    · extract_lets w s0 g hdr
      have h0 : KeepsD s s0 := (of_keeps (reachFor_keeps ..)).same (tryWeft_same _)
      split
      · exact completes_next (((h0.same (updGraph_same ..)).keeps (failEvent_keeps ..)).keeps (graphDone_keeps ..))
      · extract_lets g1 s1 s2
        have h1 : KeepsD s s1 := ((h0.keeps (reachFor_keeps ..)).keeps (zeroOut_keeps ..)).same (updCtx_same ..)
        have h2 : KeepsD s s2 := keepsD_ite (h1.same (assignReplay_same ..)) h1
        exact completes_next ((h2.same (reachGate_same ..)).same (reachGate_same ..))

theorem execNodeRead_completes (ctx die : Nat) (s : State) : s.Completes (execNodeRead ctx die s) := by
  unfold execNodeRead
  split
  · exact s.completes_self
  · extract_lets h i e mine step w s0
    have hstep : ∀ u, State.Same u (step u) := fun u => updGraph_same ..
    have h0 : KeepsD s s0 := ((of_keeps (reachFor_keeps ..)).keeps (reachFor_keeps ..)).same (tryWeft_same _)
    split
    · exact s.completes_self
    · split
      · exact completes_of_same (hstep s)
      · split
        · exact s.completes_self
        · split
          · exact completes_next ((h0.same (hstep _)).keeps (failNode_keeps ..))
          · exact completes_next ((h0.same (hstep _)).same (updGraph_same ..))

theorem execNodeDoneNotice_completes (ctx node die : Nat) (s : State) : s.Completes (execNodeDoneNotice ctx node die s) :=
  completes_next (of_same (updGraph_same ..) |>.fold (fun _ _ => of_same (postNode_same ..)) |>.same (cardsClock_same ..))

theorem execNodeLaunch_completes (ctx die : Nat) (s : State) : s.Completes (execNodeLaunch ctx die s) := by
  unfold execNodeLaunch
  split
  · exact s.completes_self
  · split
    · exact completes_of_keeps (requestLoads_keeps ..)
    · split
      · exact completes_of_keeps (requestLoads_keeps ..)
      · split
        · exact completes_next (of_keeps (launch_keeps ..) |>.keeps (requestLoads_keeps ..))
        · exact completes_of_keeps (requestLoads_keeps ..)

theorem execCardLoadDone_completes (die tile slot : Nat) (s : State) : s.Completes (execCardLoadDone die tile slot s) := by
  unfold execCardLoadDone
  extract_lets sl c w s0 seen
  have h0 : KeepsD s s0 := of_same (hbmDelay_same ..) |>.same (tryWeft_same _) |>.same (gbWeftRange_same ..)
  split
  · exact s.completes_self
  · split
    · exact completes_of_same (releaseSlot_same ..)
    · clear_value seen
      split
      · extract_lets s1
        have h1 : KeepsD s s1 := (h0.same (putCard_same ..)).same (updCtx_same ..)
        split
        · split
          · exact completes_next (h1.same (releaseSlot_same ..))
          · split
            · exact completes_next (((h1.keeps (failEvent_keeps ..)).same (releaseCards_same ..)).keeps (completeNode_keeps ..))
            · exact completes_next (h1.keeps (requestLoads_keeps ..))
        · exact completes_next (h1.same (releaseSlot_same ..))
      · exact completes_next (((h0.same (updTile_same ..)).same (noteIdle_same ..)).keeps (loadFailed_keeps ..))

theorem execSectionSwitchStart_completes (ctx die : Nat) (s : State) : s.Completes (execSectionSwitchStart ctx die s) := by
  unfold execSectionSwitchStart
  split
  · exact s.completes_self
  · split
    · exact s.completes_self
    · split
      · exact completes_next ((refl s).fold (fun _ _ => of_keeps (failResident_keeps ..)))
      · split
        · exact s.completes_self
        · split
          · exact completes_next (of_same (markLeaving_same ..) |>.same (updDie_same ..) |>.same (updGraph_same ..))
          · exact s.completes_self

theorem execCardSwitchReady_completes (die tile slot : Nat) (s : State) : s.Completes (execCardSwitchReady die tile slot s) := by
  unfold execCardSwitchReady
  dsimp only
  split
  · exact s.completes_self
  · split
    · split
      · exact completes_of_same (updTile_same ..)
      · split
        · exact completes_of_same (updTile_same ..)
        · split
          · exact completes_next (keepsD_ite (of_same (dropLanded_same ..)) (refl _) |>.same (switchTile_same ..) |>.same (count_same ..))
          · exact completes_of_same (setArrived_same ..)
    · split
      · exact s.completes_self
      · split
        · exact completes_of_same (setArrived_same ..)
        · split
          · split
            · split
              · exact completes_of_same (setArrived_same ..)
              · exact s.completes_self
            · split
              · exact completes_of_same (setArrived_same ..)
              · exact s.completes_self
          · split
            · exact completes_of_same (setArrived_same ..)
            · exact s.completes_self

theorem execCardSwitchArrive_completes (die tile ctx : Nat) (s : State) : s.Completes (execCardSwitchArrive die tile ctx s) := by
  unfold execCardSwitchArrive
  split
  · dsimp only
    split
    · exact s.completes_self
    · exact s.completes_self
  · split
    · split
      · dsimp only
        split
        · exact s.completes_self
        · split
          · exact completes_next (of_same (updDie_same ..) |>.same (commitReady_same ..))
          · exact completes_next (of_same (updDie_same ..) |>.same (commitReady_same ..))
      · dsimp only
        split
        · exact s.completes_self
        · split
          · exact completes_next (of_same (updDie_same ..) |>.same (commitReady_same ..))
          · exact completes_next (of_same (updDie_same ..) |>.same (commitReady_same ..))
    · dsimp only
      split
      · exact s.completes_self
      · split
        · exact completes_next (of_same (updDie_same ..) |>.same (commitReady_same ..))
        · exact completes_next (of_same (updDie_same ..) |>.same (commitReady_same ..))

theorem execCardSwitchCommit_completes (die ctx group : Nat) (s : State) : s.Completes (execCardSwitchCommit die ctx group s) := by
  unfold execCardSwitchCommit
  split
  · exact s.completes_self
  · refine completes_next ((refl s).fold (fun s a => ?_))
    split
    · exact of_same (updTile_same ..)
    · exact refl s

theorem execSwitchQuietStart_completes (die ctx group : Nat) (s : State) : s.Completes (execSwitchQuietStart die ctx group s) := by
  unfold execSwitchQuietStart
  split
  · exact s.completes_self
  · exact completes_next (of_same (updDie_same ..) |>.same (reachFrame_same ..))

theorem execSwitchTakeEffect_completes (die ctx group : Nat) (s : State) : s.Completes (execSwitchTakeEffect die ctx group s) := by
  unfold execSwitchTakeEffect
  split
  · exact s.completes_self
  · split
    · exact s.completes_self
    · extract_lets s1 s2 sn s3
      have h1 : KeepsD s s1 := of_same (updDie_same ..) |>.same (reachFrame_same ..)
      have h2 : KeepsD s s2 := h1.fold (fun _ _ =>
        keepsD_ite (of_same (switchTile_same ..)) (of_same (switchTile_same ..) |>.same (count_same ..)))
      have h3 : KeepsD s s3 := h2.same (updGraph_same ..)
      split
      · exact completes_next h2
      · split
        · exact completes_next (h2.same (updGraph_same ..))
        · exact completes_next ((h3.same (releaseLeft_same ..)).same (reachGate_same ..))

theorem execCardSwitchCancel_completes (die ctx : Nat) (s : State) : s.Completes (execCardSwitchCancel die ctx s) := by
  unfold execCardSwitchCancel
  split
  · exact s.completes_self
  · exact completes_of_same (cancelSwitches_same ..)

theorem execGateOpen_completes (ctx die gate : Nat) (s : State) : s.Completes (execGateOpen ctx die gate s) := by
  unfold execGateOpen
  split
  · exact s.completes_self
  · extract_lets at0 v other late s1 s2
    have h1 : KeepsD s s1 := of_same (updGraph_same ..)
    have h2 : KeepsD s s2 := keepsD_ite h1 (h1.same (updCtx_same ..))
    split
    · exact s.completes_self
    · exact completes_next (keepsD_ite (h2.same (count_same ..)) h2)

theorem execNodeDrainDone_completes (ctx node : Nat) (s : State) : s.Completes (execNodeDrainDone ctx node s) := by
  unfold execNodeDrainDone
  split
  · exact s.completes_self
  · split
    · exact s.completes_self
    · split
      · exact completes_of_keeps (completeNode_keeps ..)
      · exact s.completes_self

theorem execGraphFinish_completes (ctx : Nat) (s : State) : s.Completes (execGraphFinish ctx s) := by
  unfold execGraphFinish
  split
  · exact s.completes_self
  · split
    · exact completes_next (of_same (updGraph_same ..) |>.fold (fun _ _ => of_same (closeDie_same ..)))
    · exact s.completes_self

theorem execGraphDone_completes (ctx : Nat) (s : State) : s.Completes (execGraphDone ctx s) := by
  unfold execGraphDone
  split
  · exact s.completes_self
  · split
    · dsimp only
      split
      · exact completes_next (of_same (releaseAll_same ..) |>.keeps (graphDone_keeps ..))
      · exact s.completes_self
    · dsimp only
      split
      · exact completes_next (of_same (releaseAll_same ..) |>.keeps (graphDone_keeps ..))
      · exact s.completes_self

theorem execCqEntryWrite_completes (ctx : Nat) (s : State) : s.Completes (execCqEntryWrite ctx s) := by
  unfold execCqEntryWrite
  split
  · exact s.completes_self
  · split
    · exact s.completes_self
    · exact completes_next (of_same (updCtx_same ..) |>.keeps (ringWrite_keeps ..) |>.keeps (afterEntry_keeps ..))
    · exact completes_next (of_same (updCtx_same ..) |>.same (count_same ..) |>.keeps (afterEntry_keeps ..))

-- ---------------------------------------------------------------- Machine/Contexts.lean

theorem execBankOwnerWrite_completes (die tile off : Nat) (bytes : List Nat) (s : State) :
    s.Completes (execBankOwnerWrite die tile off bytes s) := by
  unfold execBankOwnerWrite
  split
  · exact completes_of_same (writeBankOwner_same ..)
  · exact s.completes_self

theorem execCtxWindowWrite_completes (ctx entry off : Nat) (bytes : List Nat) (s : State) :
    s.Completes (execCtxWindowWrite ctx entry off bytes s) := by
  unfold execCtxWindowWrite
  split
  · exact completes_of_same (writeWindow_same ..)
  · exact s.completes_self

theorem execGrantWrite_completes (ctx which value : Nat) (s : State) : s.Completes (execGrantWrite ctx which value s) := by
  unfold execGrantWrite
  split
  · exact completes_of_same (writeGrant_same ..)
  · exact s.completes_self

theorem execCtxActivate_completes (ctx : Nat) (s : State) : s.Completes (execCtxActivate ctx s) := by
  unfold execCtxActivate
  split
  · exact s.completes_self
  · exact completes_of_keeps (ctrlActivate_keeps ..)

theorem execCtxReset_completes (ctx : Nat) (s : State) : s.Completes (execCtxReset ctx s) := by
  unfold execCtxReset
  split
  · exact s.completes_self
  · exact completes_of_keeps (ctrlReset_keeps ..)

theorem execCtxResetKeep_completes (ctx : Nat) (s : State) : s.Completes (execCtxResetKeep ctx s) := by
  unfold execCtxResetKeep
  split
  · exact s.completes_self
  · exact completes_of_keeps (ctrlReset_keeps ..)

theorem execCtxFenceReset_completes (ctx : Nat) (byContext0 : Bool) (s : State) :
    s.Completes (execCtxFenceReset ctx byContext0 s) := by
  unfold execCtxFenceReset
  split
  · exact s.completes_self
  · exact completes_of_keeps (fenceWrite_keeps ..)

theorem execSelvedge_completes (ctx : Nat) (s : State) : s.Completes (execSelvedge ctx s) := by
  unfold execSelvedge
  dsimp only
  split
  · exact completes_of_keeps (drawSelvedge_keeps ..)
  · exact s.completes_self

theorem execResetDrainEnd_completes (ctx : Nat) (s : State) : s.Completes (execResetDrainEnd ctx s) := by
  unfold execResetDrainEnd
  split
  · exact completes_of_keeps (beginSample_keeps ..)
  · exact s.completes_self

theorem execResetDrainTimeout_completes (ctx : Nat) (s : State) : s.Completes (execResetDrainTimeout ctx s) := by
  unfold execResetDrainTimeout
  split
  · extract_lets s1
    have h1 : KeepsD s s1 := of_same ⟨rfl, rfl, rfl⟩
    exact completes_next (h1.same (updCtx_same ..) |>.keeps (beginSample_keeps ..))
  · exact s.completes_self

theorem execVitrineSampleDone_completes (ctx late : Nat) (s : State) : s.Completes (execVitrineSampleDone ctx late s) := by
  unfold execVitrineSampleDone
  split
  · exact completes_next (of_keeps (takeSample_keeps ..) |>.same (updCtx_same ..))
  · exact s.completes_self

theorem execResetClearing_completes (ctx : Nat) (s : State) : s.Completes (execResetClearing ctx s) := by
  unfold execResetClearing
  split
  · exact completes_next (of_keeps (clearCtx_keeps ..) |>.same (updCtx_same ..))
  · exact s.completes_self

theorem execQuietPeriodEnd_completes (ctx : Nat) (s : State) : s.Completes (execQuietPeriodEnd ctx s) := by
  unfold execQuietPeriodEnd
  split
  · split
    · exact s.completes_self
    · exact completes_of_same (updCtx_same ..)
  · exact s.completes_self

theorem execHangSample_completes (ctx : Nat) (s : State) : s.Completes (execHangSample ctx s) := by
  unfold execHangSample
  split
  · extract_lets cards moved quiet still said hung s1 s2 s3 x arg1
    have h1 : KeepsD s s1 := of_same (updCtx_same ..)
    have h2 : KeepsD s s2 := h1.fold (fun _ _ => of_keeps (sampleCard_keeps ..))
    have h3 : KeepsD s s3 := h2.keeps (hangEvent_keeps ..) |>.same (count_same ..)
    split
    · split
      · exact completes_next (h3.keeps (startReset_keeps ..))
      · exact completes_next h3
    · exact completes_next h2
  · exact s.completes_self

-- ---------------------------------------------------------------- Machine/Weft.lean

theorem execWeftAtomic_completes (ctx fn addr size op a b : Nat) (s : State) :
    s.Completes (execWeftAtomic ctx fn addr size op a b s) := by
  unfold execWeftAtomic
  split
  · exact s.completes_self
  · split
    · exact completes_next (of_same (count_same ..) |>.same (emit_same ..))
    · split
      · exact completes_of_same (hbmDelay_same ..)
      · dsimp only
        exact completes_next (of_keeps (atomic_keeps ..) |>.same (emit_same ..))

theorem execWeftRdData_completes (id : Nat) (s : State) : s.Completes (execWeftRdData id s) := by
  unfold execWeftRdData
  split
  · split
    · exact completes_of_keeps (deliver_keeps ..)
    · exact s.completes_self
  · exact s.completes_self

theorem execWeftWrAck_completes (id : Nat) (s : State) : s.Completes (execWeftWrAck id s) := by
  unfold execWeftWrAck
  split
  · split
    · exact completes_of_keeps (deliver_keeps ..)
    · exact s.completes_self
  · exact s.completes_self

theorem execWeftError_completes (id : Nat) (s : State) : s.Completes (execWeftError id s) := by
  unfold execWeftError
  split
  · split
    · exact completes_of_keeps (deliver_keeps ..)
    · exact s.completes_self
  · exact s.completes_self

theorem execWeftTimeout_completes (id : Nat) (s : State) : s.Completes (execWeftTimeout id s) := by
  unfold execWeftTimeout
  split
  · exact s.completes_self
  · split
    · exact s.completes_self
    · extract_lets s1 lostWrite s2
      have h1 : KeepsD s s1 := of_same (count_same ..)
      have h2 : KeepsD s s2 := keepsD_ite ((keepsD_ite (h1.keeps (perform_keeps ..)) h1).same (takeFree_same ..)) h1
      exact completes_next (h2.keeps (lose_keeps ..))

theorem execWeftCtrlCmd_completes (die tile cmd ctx _arg : Nat) (s : State) :
    s.Completes (execWeftCtrlCmd die tile cmd ctx _arg s) := by
  unfold execWeftCtrlCmd
  split
  · dsimp only
    exact completes_next (of_same (fenceQueues_same ..) |>.same (updTile_same ..) |>.same (updCtx_same ..))
  · exact s.completes_self

theorem execWeftLinkCrcError_completes (die site dir retries : Nat) (s : State) :
    s.Completes (execWeftLinkCrcError die site dir retries s) := by
  unfold execWeftLinkCrcError
  split
  · dsimp only
    exact completes_next (of_same (count_same ..) |>.same (ndcModule_same ..) |>.same (tallyEvery_same ..) |>.same (scorePart_same ..)
      |>.same (count_same ..) |>.same (hardFail_same ..))
  · dsimp only
    exact completes_next (of_same (count_same ..) |>.same (ndcModule_same ..) |>.same (tallyEvery_same ..) |>.same (scorePart_same ..))

theorem execTableOldBankFree_completes (die : Nat) (s : State) : s.Completes (execTableOldBankFree die s) := by
  unfold execTableOldBankFree
  dsimp only
  split
  · exact s.completes_self
  · exact completes_next (of_same ⟨rfl, rfl, rfl⟩ |>.same (updDie_same ..))

theorem execScrubRead_completes (addr err store : Nat) (s : State) : s.Completes (execScrubRead addr err store s) := by
  unfold execScrubRead
  split
  · exact s.completes_self
  · split
    · split
      · exact s.completes_self
      · split
        · split
          · exact completes_of_same (memError_same ..)
          · exact s.completes_self
        · exact completes_of_same (memError_same ..)
        · split
          · exact completes_of_same (memError_same ..)
          · exact s.completes_self
        · exact s.completes_self
    · split
      · exact s.completes_self
      · split
        · dsimp only
          split
          · exact s.completes_self
          · split
            · exact completes_of_same (storeError_same ..)
            · exact s.completes_self
        · dsimp only
          split
          · exact s.completes_self
          · split
            · exact completes_of_same (storeError_same ..)
            · exact s.completes_self

-- ---------------------------------------------------------------- Machine/Streamers.lean

theorem execStreamerFetch_completes (die streamer : Nat) (s : State) : s.Completes (execStreamerFetch die streamer s) := by
  unfold execStreamerFetch
  extract_lets ss
  split
  · exact s.completes_self
  · rename_i s0 _ _ _
    extract_lets x n a p lost s1 ls s2
    have h0 : KeepsD s s0 := of_same (takeFree_same ..)
    have h1 : KeepsD s s1 := keepsD_ite (h0.same (count_same ..)) h0
    have h2 : KeepsD s s2 := keepsD_ite (h1.same (takeFree_same ..)) h1
    split
    · exact completes_next h0
    · split
      · exact completes_next (h0.same (hbmDelay_same ..))
      · exact completes_next (h2.same (updStreamAt_same ..))

theorem execStreamerAdmit_completes (die streamer pick : Nat) (s : State) : s.Completes (execStreamerAdmit die streamer pick s) := by
  unfold execStreamerAdmit
  dsimp only
  split
  · exact s.completes_self
  · split
    · split
      · exact s.completes_self
      · split
        · exact completes_next (of_same (count_same ..) |>.same (tally_same ..))
        · split
          · exact s.completes_self
          · exact completes_next (of_same (updStreamAt_same ..) |>.same (updTile_same ..) |>.same (updDie_same ..))
    · split
      · exact s.completes_self
      · split
        · exact completes_next (of_same (count_same ..) |>.same (tally_same ..))
        · split
          · exact s.completes_self
          · exact completes_next (of_same (updStreamAt_same ..) |>.same (updTile_same ..) |>.same (count_same ..))

-- ---------------------------------------------------------------- Machine/FabricEvents.lean

theorem execVaroaFrameRx_completes (port header crc corrected uncorrectable : Nat) (slots : List Nat) (s : State) :
    s.Completes (execVaroaFrameRx port header crc corrected uncorrectable slots s) := by
  unfold execVaroaFrameRx
  split
  · exact s.completes_self
  · split
    · dsimp only
      exact completes_next (of_same (count_same ..) |>.same (count_same ..) |>.same (scoreFec_same ..))
    · split
      · dsimp only
        exact completes_next (of_same (count_same ..) |>.same (count_same ..) |>.same (scoreFec_same ..) |>.same (emitIdle_same ..))
      · dsimp only
        exact completes_next (of_same (count_same ..) |>.same (count_same ..) |>.same (scoreFec_same ..) |>.same (frameBack_same ..)
          |>.same (frameIn_same ..) |>.keeps (discardOld_keeps ..) |>.keeps (abortLost_keeps ..) |>.same (pump_same ..)
            |>.same (returnCredits_same ..))

theorem execVaroaLinkDown_completes (port cause : Nat) (s : State) : s.Completes (execVaroaLinkDown port cause s) := by
  unfold execVaroaLinkDown
  split
  · dsimp only
    split
    · exact completes_next (of_keeps (portDown_keeps ..) |>.same (count_same ..) |>.same (scoreHit_same ..))
    · exact s.completes_self
  · dsimp only
    split
    · exact completes_next (of_keeps (portDown_keeps ..) |>.same (count_same ..) |>.same (scoreHit_same ..))
    · exact s.completes_self

theorem execPortRetrainDone_completes (port wlGood : Nat) (s : State) : s.Completes (execPortRetrainDone port wlGood s) := by
  unfold execPortRetrainDone
  extract_lets p w failed s1 s2
  have h1 : KeepsD s s1 := of_same (updPortF_same ..)
  have h2 : KeepsD s s2 := keepsD_ite ((h1.keeps (portDown_keeps ..)).same (count_same ..)) h1
  split
  · exact completes_next ((h2.same (scoreWl_same ..)).same (pump_same ..))
  · exact s.completes_self

theorem execHelloTimer_completes (port : Nat) (s : State) : s.Completes (execHelloTimer port s) := by
  unfold execHelloTimer
  dsimp only
  split
  · exact completes_of_same (emitLink_same ..)
  · exact s.completes_self

theorem execHello_completes (port fields : Nat) (s : State) : s.Completes (execHello port fields s) := by
  unfold execHello
  split
  · dsimp only
    split
    · exact s.completes_self
    · split
      · exact completes_of_same (updPortF_same ..)
      · exact completes_of_same (updPortF_same ..)
  · dsimp only
    split
    · exact s.completes_self
    · split
      · exact completes_of_same (updPortF_same ..)
      · exact completes_of_same (updPortF_same ..)

theorem execFabricRoute_completes (inPort header : Nat) (data : List (Nat × Bool)) (s : State) :
    s.Completes (execFabricRoute inPort header data s) := by
  unfold execFabricRoute
  split
  · exact s.completes_self
  · exact completes_of_keeps (routePacket_keeps ..)

theorem execFailoverApply_completes (links : List (Nat × Nat)) (s : State) : s.Completes (execFailoverApply links s) :=
  completes_next ((refl s).fold (fun _ _ => of_same (setFailover_same ..)))

theorem execNormalRouteReturn_completes (links : List (Nat × Nat)) (s : State) : s.Completes (execNormalRouteReturn links s) :=
  completes_next ((refl s).fold (fun _ _ => of_same (setFailover_same ..)))

theorem execFabricAccessTimeout_completes (tag : Nat) (s : State) : s.Completes (execFabricAccessTimeout tag s) := by
  unfold execFabricAccessTimeout
  split
  · exact s.completes_self
  · dsimp only
    split
    · exact completes_next (of_same (dropRemote_same ..) |>.same (count_same ..) |>.keeps (lose_keeps ..))
    · exact completes_next (of_same (dropRemote_same ..) |>.same (count_same ..))

theorem execDelivered_completes (header : Nat) (s : State) : s.Completes (execDelivered header s) := by
  unfold execDelivered
  refine completes_next (taken_keepsD _ _ _ ?_)
  exact of_same ⟨rfl, rfl, rfl⟩

theorem execDeliveredTimer_completes (src flow : Nat) (s : State) : s.Completes (execDeliveredTimer src flow s) := by
  unfold execDeliveredTimer
  split
  · exact s.completes_self
  · dsimp only
    exact completes_next (of_same ⟨rfl, rfl, rfl⟩ |>.keeps (fabSend_keeps ..))

theorem execPartReset_completes (header : Nat) (s : State) : s.Completes (execPartReset header s) :=
  completes_next (taken_keepsD _ _ _ ((of_keeps (partSpread_keeps ..)).keeps (partReset_keeps ..)))

-- ---------------------------------------------------------------- Machine/Collectives.lean

theorem execCollectiveStart_completes (ctx node : Nat) (s : State) : s.Completes (execCollectiveStart ctx node s) := by
  unfold execCollectiveStart
  split
  · exact s.completes_self
  · split
    · exact s.completes_self
    · split
      · exact s.completes_self
      · extract_lets s0 d mine ms k fab s1
        have h0 : KeepsD s s0 := (of_keeps (reachFor_keeps ..)).keeps (reachFor_keeps ..)
        split
        · exact completes_next ((h0.keeps (failEvent_keeps ..)).keeps (completeNode_keeps ..))
        · have h1 : KeepsD s s1 := h0.same ⟨rfl, rfl, rfl⟩
          exact completes_next ((h1.keeps (beginNext_keeps ..)).keeps (finishColl_keeps ..))

theorem execCollReady_completes (header : Nat) (s : State) : s.Completes (execCollReady header s) := by
  unfold execCollReady
  refine completes_next (taken_keepsD _ _ _ ?_)
  split
  · exact refl s
  · exact of_keeps (readyFor_keeps ..)

theorem execCollData_completes (rank chunk part : Nat) (headers : List Nat) (data : List (Nat × Bool)) (s : State) :
    s.Completes (execCollData rank chunk part headers data s) := by
  unfold execCollData
  extract_lets ls s1 h
  have h1 : KeepsD s s1 := (refl s).fold (fun _ _ => of_keeps (dataPacket_keeps ..))
  split
  · exact s.completes_self
  · split
    · exact completes_next h1
    · split
      · exact completes_next h1
      · split
        · exact completes_next h1
        · split
          · exact completes_next h1
          · exact completes_next ((h1.keeps (scratchIn_keeps ..)).keeps (chunkIn_keeps ..))

theorem execCollAbort_completes (header : Nat) (s : State) : s.Completes (execCollAbort header s) := by
  unfold execCollAbort
  refine completes_next (taken_keepsD _ _ _ ?_)
  extract_lets s1
  have h1 : KeepsD s s1 := keepsD_ite (refl s) (of_keeps (broadcast_keeps ..))
  split
  · exact h1
  · split
    · exact h1.keeps (endColl_keeps ..)
    · exact h1

theorem execGuaranteedAdmit_completes (flow len collId : Nat) (s : State) : s.Completes (execGuaranteedAdmit flow len collId s) := by
  unfold execGuaranteedAdmit
  extract_lets f
  split
  · exact s.completes_self
  · extract_lets bytes s1 h
    have h1 : KeepsD s s1 := of_same ⟨rfl, rfl, rfl⟩
    split
    · exact s.completes_self
    · exact completes_next (h1.keeps (routePacket_keeps ..) |>.keeps (abortLost_keeps ..))

theorem execLateNotice_completes (header : Nat) (s : State) : s.Completes (execLateNotice header s) := by
  unfold execLateNotice
  refine completes_next (taken_keepsD _ _ _ ?_)
  exact keepsD_ite ((of_keeps (reportLate_keeps ..)).keeps (abortLost_keeps ..)) (of_keeps (reportLate_keeps ..))

-- ---------------------------------------------------------------- Machine/Time.lean

theorem execTimeSyncTimer_completes (s : State) : s.Completes (execTimeSyncTimer s) := by
  unfold execTimeSyncTimer
  extract_lets s1
  have h1 : KeepsD s s1 := (refl s).fold (fun s _ => keepsD_ite (of_same (sendTime_same ..)) (refl s))
  clear_value s1
  split
  · exact completes_next (h1.same ⟨rfl, rfl, rfl⟩)
  · exact completes_next h1

theorem execTimeSync_completes (port arg : Nat) (s : State) : s.Completes (execTimeSync port arg s) := by
  unfold execTimeSync
  split
  · exact s.completes_self
  · dsimp only
    exact completes_next (of_same (updPortF_same ..) |>.same (findParents_same ..) |>.same (sendTime_same ..))

theorem execTimeEcho_completes (port arg t4 : Nat) (s : State) : s.Completes (execTimeEcho port arg t4 s) := by
  unfold execTimeEcho
  extract_lets t1 t2 hold delay offset s1 synced n time s2
  have h1 : KeepsD s s1 := of_same (updPortF_same ..)
  have h2 : KeepsD s s2 := keepsD_ite (h1.same ⟨rfl, rfl, rfl⟩) h1
  split
  · exact s.completes_self
  · split
    · exact completes_next (h2.keeps (timeBegins_keeps ..))
    · exact completes_next (keepsD_ite ((h2.same (judgeLink_same ..)).same (findParents_same ..)) h2)

theorem execTimeRootTimeout_completes (s : State) : s.Completes (execTimeRootTimeout s) := by
  unfold execTimeRootTimeout
  split
  · exact completes_of_keeps (timeBegins_keeps ..)
  · exact s.completes_self

theorem execFtcSteer_completes (s : State) : s.Completes (execFtcSteer s) := by
  unfold execFtcSteer
  dsimp only
  split
  · exact completes_of_same (findParents_same ..)
  · exact completes_next (of_same (findParents_same ..) |>.same ⟨rfl, rfl, rfl⟩)

-- ---------------------------------------------------------------- Machine/Replace.lean

theorem execTableWriteDone_completes (die : Nat) (entries : List (Nat × Nat × Nat)) (s : State) :
    s.Completes (execTableWriteDone die entries s) := by
  unfold execTableWriteDone
  extract_lets x s1 s2 s3
  have h1 : KeepsD s s1 := of_same (updDie_same ..)
  have h2 : KeepsD s s2 := h1.fold (fun _ _ => of_same (hardDue_same ..))
  have h3 : KeepsD s s3 := h2.same (updDie_same ..)
  split
  · exact s.completes_self
  · split
    · exact s.completes_self
    · split
      · exact completes_next (keepsD_ite (h3.same (bumpDist_same ..)) h3)
      · exact completes_next (h2.same (updDie_same ..) |>.same (count_same ..) |>.same (bumpDist_same ..) |>.keeps (darnLinks_keeps ..))

theorem execReplacementDrained_completes (die tile : Nat) (s : State) : s.Completes (execReplacementDrained die tile s) := by
  unfold execReplacementDrained
  split
  · split
    · exact completes_of_same ⟨rfl, rfl, rfl⟩
    · exact s.completes_self
  · exact s.completes_self

theorem execReplacementAbandon_completes (die tile : Nat) (s : State) : s.Completes (execReplacementAbandon die tile s) := by
  unfold execReplacementAbandon
  split
  · split
    · exact completes_next ((refl s).fold (fun s _ => keepsD_ite (of_keeps (retireCard_keeps ..)) (refl s)))
    · exact s.completes_self
  · exact s.completes_self

theorem execReplacementRoutesWritten_completes (die tile : Nat) (s : State) : s.Completes (execReplacementRoutesWritten die tile s) := by
  unfold execReplacementRoutesWritten
  split
  · split
    · exact s.completes_self
    · extract_lets t
      split
      · exact completes_of_keeps (retryMove_keeps ..)
      · rename_i s0 hs0
        extract_lets s1 s2
        have h0 : KeepsD s s0 := of_same (darnTile_same hs0)
        have h1 : KeepsD s s1 := (h0.same (translate_same ..)).keeps (rejoinTile_keeps ..)
        have h2 : KeepsD s s2 := h1.same (updTile_same ..)
        exact completes_next (((h2.keeps (reportMove_keeps ..)).same (endMove_same ..)).same (moveActive_same ..))
  · exact s.completes_self

-- ---------------------------------------------------------------- Machine/Slices.lean

theorem execSliceDue_completes (die site : Nat) (s : State) : s.Completes (execSliceDue die site s) := by
  unfold execSliceDue
  dsimp only
  split
  · exact completes_of_same (updSlice_same ..)
  · exact s.completes_self

theorem execSliceGrant_completes (die site : Nat) (s : State) : s.Completes (execSliceGrant die site s) := by
  unfold execSliceGrant
  extract_lets x g s1
  have h1 : KeepsD s s1 := of_same (leaveIs4_same _)
  split
  · split
    · exact completes_next ((keepsD_ite (h1.same (unloadTile_same ..)) h1).same (startSlice_same ..))
    · exact completes_next (h1.same (startSlice_same ..))
  · exact s.completes_self

theorem execSliceRelief_completes (die site : Nat) (s : State) : s.Completes (execSliceRelief die site s) := by
  unfold execSliceRelief
  split
  · split
    · exact completes_of_keeps (pickSpare_keeps ..)
    · exact s.completes_self
  · exact s.completes_self

theorem execSliceEnd_completes (die site result durationUs : Nat) (fails : List Nat) (s : State) :
    s.Completes (execSliceEnd die site result durationUs fails s) := by
  unfold execSliceEnd
  dsimp only
  split
  · exact completes_next (keepsD_ite (of_keeps (endSlice_keeps ..)) (of_keeps (endSlice_keeps ..)))
  · exact s.completes_self

theorem execSliceReinitDone_completes (die site : Nat) (s : State) : s.Completes (execSliceReinitDone die site s) := by
  unfold execSliceReinitDone
  extract_lets x passed s1 s2 s3
  have h1 : KeepsD s s1 := of_same (updSlice_same ..) |>.same (updSite_same ..)
  have h2 : KeepsD s s2 := by
    unfold s2
    split
    · exact (keepsD_ite (h1.keeps (rejoinTile_keeps ..) |>.keeps (reportDelay_keeps ..)) (h1.keeps (rejoinTile_keeps ..))).fold
        (fun _ _ => of_keeps (requestLoads_keeps ..))
    · exact keepsD_ite (h1.same (addSpare_same ..)) h1
  have h3 : KeepsD s s3 := keepsD_ite (h2.same (updSlice_same ..) |>.same (startSlice_same ..)) h2
  split
  · split
    · exact completes_next (h3.same ⟨rfl, rfl, rfl⟩)
    · exact completes_next h3
  · exact s.completes_self

theorem execSliceOverdue_completes (die site : Nat) (s : State) : s.Completes (execSliceOverdue die site s) := by
  unfold execSliceOverdue
  split
  · exact completes_next (of_same (updSlice_same ..) |>.same (count_same ..))
  · exact s.completes_self

-- ---------------------------------------------------------------- Machine/Integrity.lean

theorem execVinCoreWarning_completes (s : State) : s.Completes (execVinCoreWarning s) := by
  unfold execVinCoreWarning
  extract_lets s1
  have h1 : KeepsD s s1 := keepsD_ite (of_same (coreDip_same ..)) (of_keeps (startStretch_keeps ..))
  split
  · exact s.completes_self
  · exact completes_next (h1.same ⟨rfl, rfl, rfl⟩)

theorem execDipStretchEnd_completes (s : State) : s.Completes (execDipStretchEnd s) := by
  unfold execDipStretchEnd
  split
  · split
    · dsimp only
      exact completes_of_same ⟨rfl, rfl, rfl⟩
    · dsimp only
      exact completes_next (of_same ⟨rfl, rfl, rfl⟩ |>.same (endStretch_same ..))
  · exact s.completes_self

theorem execCheckRaiseEnd_completes (die : Nat) (s : State) : s.Completes (execCheckRaiseEnd die s) := by
  unfold execCheckRaiseEnd
  split
  · exact completes_of_same (updDie_same ..)
  · exact s.completes_self

theorem execVinIoWarning_completes (s : State) : s.Completes (execVinIoWarning s) := by
  unfold execVinIoWarning
  split
  · exact s.completes_self
  · exact completes_of_same (countDip_same ..)

theorem execSupplySuspectClear_completes (supply : Nat) (s : State) : s.Completes (execSupplySuspectClear supply s) := by
  unfold execSupplySuspectClear
  extract_lets cur s1 s2
  have h1 : KeepsD s s1 := of_same ⟨rfl, rfl, rfl⟩
  have h2 : KeepsD s s2 := h1.same (logAcc_same ..)
  split
  · exact completes_next (keepsD_ite (h2.fold (fun _ _ => of_same (raiseOpen_same ..))) h2)
  · exact s.completes_self

theorem execContainmentStart_completes (ctx : Nat) (s : State) : s.Completes (execContainmentStart ctx s) := by
  unfold execContainmentStart
  split
  · exact s.completes_self
  · split
    · exact s.completes_self
    · split
      · dsimp only
        exact completes_next (of_keeps (postEvent_keeps ..) |>.same (logAcc_same ..) |>.same (count_same ..) |>.same (updCtx_same ..))
      · dsimp only
        split
        · exact completes_next (of_keeps (postEvent_keeps ..) |>.same (logAcc_same ..) |>.same (count_same ..) |>.same (updCtx_same ..)
            |>.keeps (startPartReset_keeps ..))
        · exact completes_next (of_keeps (postEvent_keeps ..) |>.same (logAcc_same ..) |>.same (count_same ..) |>.same (updCtx_same ..)
            |>.keeps (startReset_keeps ..))

theorem execScoreRecover_completes (unit : Nat) (s : State) : s.Completes (execScoreRecover unit s) := by
  unfold execScoreRecover
  split
  · exact s.completes_self
  · exact completes_of_same (setScore_same ..)

theorem execDeaccession_completes (unit : Nat) (s : State) : s.Completes (execDeaccession unit s) := by
  unfold execDeaccession
  extract_lets hard n v reh sc s1 cur s2
  have h1 : KeepsD s s1 := of_same (logAcc_same ..) |>.same (count_same ..)
  have h2 : KeepsD s s2 := h1.same ⟨rfl, rfl, rfl⟩ |>.same (oweField_same ..)
  split
  · exact s.completes_self
  · split
    · exact s.completes_self
    · split
      · exact completes_of_same (deferUnit_same ..)
      · exact completes_next (h2.keeps (retireUnit_keeps ..) |>.same (saveScores_same ..))

theorem execCommonCauseEnd_completes (domain : Nat) (s : State) : s.Completes (execCommonCauseEnd domain s) := by
  unfold execCommonCauseEnd
  extract_lets us s1 s2 cur s3
  have h1 : KeepsD s s1 := of_same (logAcc_same ..)
  have h2 : KeepsD s s2 := h1.fold (fun _ _ => of_same (raiseOpen_same ..))
  have h3 : KeepsD s s3 := h2.same ⟨rfl, rfl, rfl⟩
  split
  · exact s.completes_self
  · exact completes_next (h3.fold (fun _ _ => of_same (updSlice_same ..)))

theorem execFieldCatalogueAppend_completes (s : State) : s.Completes (execFieldCatalogueAppend s) := by
  unfold execFieldCatalogueAppend
  split
  · exact s.completes_self
  · extract_lets s1
    have h1 : KeepsD s s1 := of_keeps (appendOwed_keeps ..)
    exact completes_next (h1.same ⟨rfl, rfl, rfl⟩)

-- ---------------------------------------------------------------- Machine/SelfTest.lean

theorem execOpticalLoopbackCheck_completes (port : Nat) (pass : Bool) (s : State) :
    s.Completes (execOpticalLoopbackCheck port pass s) := by
  unfold execOpticalLoopbackCheck
  split
  · exact s.completes_self
  · split
    · exact completes_of_same (updPortF_same ..)
    · exact completes_of_same (checkFailed_same ..)

theorem execRxPowerCheck_completes (port failed : Nat) (s : State) : s.Completes (execRxPowerCheck port failed s) := by
  unfold execRxPowerCheck
  split
  · exact completes_of_same (checkFailed_same ..)
  · exact s.completes_self

theorem execLaserPowerCheck_completes (ioDie : Nat) (pass : Bool) (s : State) : s.Completes (execLaserPowerCheck ioDie pass s) := by
  unfold execLaserPowerCheck
  split
  · exact completes_of_same (checkFailed_same ..)
  · exact s.completes_self

theorem execPllLockLoss_completes (kind unit : Nat) (s : State) : s.Completes (execPllLockLoss kind unit s) := by
  unfold execPllLockLoss
  split
  · exact completes_of_same (checkFailed_same ..)
  · exact s.completes_self

theorem execPllJitterCheck_completes (kind unit : Nat) (pass : Bool) (s : State) :
    s.Completes (execPllJitterCheck kind unit pass s) := by
  unfold execPllJitterCheck
  split
  · exact completes_of_same (checkFailed_same ..)
  · exact s.completes_self

theorem execHbmEyeCheck_completes (stack channel : Nat) (pass : Bool) (s : State) :
    s.Completes (execHbmEyeCheck stack channel pass s) := by
  unfold execHbmEyeCheck
  split
  · exact completes_of_same (checkFailed_same ..)
  · exact s.completes_self

theorem execVsenseCrossCheck_completes (rail : Nat) (pass : Bool) (s : State) : s.Completes (execVsenseCrossCheck rail pass s) := by
  unfold execVsenseCrossCheck
  split
  · exact s.completes_self
  · split
    · exact completes_next (of_same ⟨rfl, rfl, rfl⟩ |>.same (checkFailed_same ..))
    · split
      · exact s.completes_self
      · dsimp only
        split
        · exact completes_of_same ⟨rfl, rfl, rfl⟩
        · exact completes_of_same ⟨rfl, rfl, rfl⟩

theorem execAnalogueRetry_completes (check unit : Nat) (pass : Bool) (s : State) :
    s.Completes (execAnalogueRetry check unit pass s) := by
  unfold execAnalogueRetry
  split
  · dsimp only
    split
    · exact s.completes_self
    · exact completes_of_same ⟨rfl, rfl, rfl⟩
  · dsimp only
    split
    · exact s.completes_self
    · exact completes_next (of_same ⟨rfl, rfl, rfl⟩ |>.keeps (checkFailedTwice_keeps ..))

theorem execRehearsalAtFtc_completes (ident : Nat) (s : State) : s.Completes (execRehearsalAtFtc ident s) := by
  unfold execRehearsalAtFtc
  split
  · dsimp only
    exact completes_next (keepsD_ite (of_same (setInject_same ..) |>.same (injRefuse_same ..)) (of_same (setInject_same ..)
      |>.same (rehStatus_same ..) |>.keeps (injStart_keeps ..)))
  · exact s.completes_self

theorem execRehearsalEnd_completes (ident : Nat) (s : State) : s.Completes (execRehearsalEnd ident s) := by
  unfold execRehearsalEnd
  split
  · exact completes_of_keeps (injEnd_keeps ..)
  · exact s.completes_self

theorem execRehearsalConsentWrite_completes (ctx value : Nat) (s : State) : s.Completes (execRehearsalConsentWrite ctx value s) := by
  unfold execRehearsalConsentWrite
  split
  · exact s.completes_self
  · exact completes_of_same (writeConsent_same ..)

-- ---------------------------------------------------------------- Machine/Power.lean

theorem execVinAnaPresent_completes (s : State) : s.Completes (execVinAnaPresent s) := by
  unfold execVinAnaPresent
  split
  · exact s.completes_self
  · split
    · dsimp only
      exact completes_next (of_same ⟨rfl, rfl, rfl⟩ |>.same (loadObjs_same ..) |>.same (bootMonitor_same ..) |>.same ⟨rfl, rfl, rfl⟩
        |>.keeps (sequenceFault_keeps ..))
    · dsimp only
      exact completes_next (of_same ⟨rfl, rfl, rfl⟩ |>.same (loadObjs_same ..) |>.same (bootMonitor_same ..) |>.same ⟨rfl, rfl, rfl⟩)

theorem execVinIoPresent_completes (s : State) : s.Completes (execVinIoPresent s) := by
  unfold execVinIoPresent
  split
  · exact s.completes_self
  · split
    · dsimp only
      exact completes_of_same ⟨rfl, rfl, rfl⟩
    · dsimp only
      exact completes_next (of_same ⟨rfl, rfl, rfl⟩ |>.keeps (sequenceFault_keeps ..))

theorem execVinCorePresent_completes (s : State) : s.Completes (execVinCorePresent s) := by
  unfold execVinCorePresent
  split
  · exact s.completes_self
  · split
    · dsimp only
      exact completes_of_same ⟨rfl, rfl, rfl⟩
    · split
      · dsimp only
        exact completes_next (of_same ⟨rfl, rfl, rfl⟩ |>.keeps (sequenceFault_keeps ..))
      · split
        · dsimp only
          exact completes_next (of_same ⟨rfl, rfl, rfl⟩ |>.same (coldStart_same ..))
        · dsimp only
          exact completes_of_same ⟨rfl, rfl, rfl⟩

theorem execSupplyAbsent_completes (supply : Nat) (s : State) : s.Completes (execSupplyAbsent supply s) := by
  unfold execSupplyAbsent
  split
  · extract_lets pwr s1
    have h1 : KeepsD s s1 := of_same ⟨rfl, rfl, rfl⟩
    exact completes_next (keepsD_ite (h1.keeps (wipe_keeps ..) |>.same (enter_same ..)) h1)
  · extract_lets pwr s1 s2
    have h1 : KeepsD s s1 := of_same ⟨rfl, rfl, rfl⟩
    have h2 : KeepsD s s2 := keepsD_ite h1 (h1.same (fault_same ..) |>.same (count_same ..))
    exact completes_next (keepsD_ite (h2.keeps (wipe_keeps ..) |>.same (enter_same ..)) h2)
  · exact completes_next (keepsD_ite (of_keeps (powerOff_keeps ..)) (refl s))
  · exact s.completes_self

theorem execHeldRelease_completes (s : State) : s.Completes (execHeldRelease s) := by
  unfold execHeldRelease
  split
  · exact completes_next (of_same ⟨rfl, rfl, rfl⟩ |>.same (enter_same ..))
  · exact s.completes_self

theorem execOvervoltage_completes (supply : Nat) (s : State) : s.Completes (execOvervoltage supply s) := by
  unfold execOvervoltage
  split
  · exact s.completes_self
  · exact completes_next (of_keeps (hold_keeps ..) |>.same (count_same ..))

theorem execVinAnaLoss_completes (s : State) : s.Completes (execVinAnaLoss s) := by
  unfold execVinAnaLoss
  split
  · exact s.completes_self
  · refine completes_next ((?_ : KeepsD s _).same (fault_same ..) |>.keeps (powerOff_keeps ..))
    exact of_same ⟨rfl, rfl, rfl⟩

theorem execBrownoutReset_completes (supply : Nat) (s : State) : s.Completes (execBrownoutReset supply s) := by
  unfold execBrownoutReset
  extract_lets pwr s1
  have h1 : KeepsD s s1 := of_same ⟨rfl, rfl, rfl⟩
  exact completes_ite s.completes_self
    (completes_next (h1.keeps (moduleReset_keeps ..) |>.same (fault_same ..) |>.same (count_same ..)))

theorem execRegulatorsUp_completes (ok : Bool) (s : State) : s.Completes (execRegulatorsUp ok s) := by
  unfold execRegulatorsUp
  split
  · exact s.completes_self
  · split
    · exact completes_of_same (nextPhase_same ..)
    · exact completes_of_keeps (hold_keeps ..)

theorem execControllerBoot_completes (ctrlCopy tileCopy ioCopy : Nat) (s : State) :
    s.Completes (execControllerBoot ctrlCopy tileCopy ioCopy s) := by
  unfold execControllerBoot
  split
  · exact s.completes_self
  · split
    · extract_lets s1
      have h1 : KeepsD s s1 := of_keeps (wipe_keeps s) |>.same (fault_same ..) |>.same (enter_same ..)
      exact completes_next (h1.same ⟨rfl, rfl, rfl⟩)
    · extract_lets pwr s1 s2 s3
      have h1 : KeepsD s s1 := of_same ⟨rfl, rfl, rfl⟩
      have h2 : KeepsD s s2 := keepsD_ite h1 (h1.same (bootController_same ..))
      have h3 : KeepsD s s3 := h2.keeps (hold_keeps ..)
      split
      · exact completes_next (h3.same ⟨rfl, rfl, rfl⟩)
      · split
        · exact completes_next (h2.keeps (hold_keeps ..))
        · exact completes_next (h2.same (trainHosts_same ..) |>.same (nextPhase_same ..))

theorem execCatalogueLoad_completes (s : State) : s.Completes (execCatalogueLoad s) := by
  unfold execCatalogueLoad
  extract_lets cat s1 s2
  have h1 : KeepsD s s1 := (of_same ⟨rfl, rfl, rfl⟩ : KeepsD s _).same (applyLicences_same ..)
  have h2 : KeepsD s s2 := h1.fold (fun _ _ => of_same (numberDie_same ..) |>.same (updDie_same ..) |>.same (bootRoutes_same ..))
  split
  · exact s.completes_self
  · exact completes_next (h2.same (nextPhase_same ..))

theorem execPowerupBist_completes (durationMs : Nat) (failed retested coverage fails : List Nat) (s : State) :
    s.Completes (execPowerupBist durationMs failed retested coverage fails s) := by
  unfold execPowerupBist
  split
  · refine completes_next ((of_keeps (zeroTiles_keeps s)).fold (fun u _ => ?_)
      |>.same (restoreScores_same ..) |>.same (bist_same ..) |>.same (nextPhase_same ..))
    exact of_same ⟨rfl, rfl, rfl⟩
  · exact s.completes_self

theorem execHbmTraining_completes (failed : List Nat) (s : State) : s.Completes (execHbmTraining failed s) := by
  unfold execHbmTraining
  extract_lets s1 out s2
  have h1 : KeepsD s s1 := (refl s).fold (fun s _ =>
    (keepsD_ite (of_keeps (checkFailedTwice_keeps ..)) (refl s)).same (retireAtTest_same ..))
  have h2 : KeepsD s s2 := h1.keeps (memZero_keeps ..) |>.same ⟨rfl, rfl, rfl⟩
  split
  · exact s.completes_self
  · exact completes_next (h2.same (nextPhase_same ..))

theorem execOpticalCalibration_completes (wlGood : List (Nat × Nat)) (s : State) : s.Completes (execOpticalCalibration wlGood s) := by
  unfold execOpticalCalibration
  extract_lets s1
  have h1 : KeepsD s s1 := (refl s).fold (fun _ _ =>
    keepsD_ite (of_same (calibratePort_same ..) |>.keeps (checkFailedTwice_keeps ..)) (of_same (calibratePort_same ..)))
  split
  · exact completes_next (h1.fold (fun _ _ => of_keeps (startLinkUp_keeps ..)) |>.same (nextPhase_same ..))
  · exact s.completes_self

theorem execReady_completes (s : State) : s.Completes (execReady s) := by
  unfold execReady
  split
  · exact completes_next (of_same ⟨rfl, rfl, rfl⟩ |>.same (enter_same ..))
  · exact s.completes_self

theorem execModuleResetBegin_completes (s : State) : s.Completes (execModuleResetBegin s) := by
  unfold execModuleResetBegin
  split
  · exact s.completes_self
  · split
    · split
      · dsimp only
        exact completes_next (of_keeps (abortAll_keeps ..) |>.keeps (moduleReset_keeps ..) |>.same (coldStart_same ..))
      · dsimp only
        exact completes_next (of_keeps (abortAll_keeps ..) |>.keeps (moduleReset_keeps ..))
    · split
      · dsimp only
        exact completes_next (of_keeps (abortAll_keeps ..) |>.keeps (moduleReset_keeps ..) |>.same (coldStart_same ..))
      · dsimp only
        exact completes_next (of_keeps (abortAll_keeps ..) |>.keeps (moduleReset_keeps ..))

-- ---------------------------------------------------------------- Machine/WarmReset.lean

theorem execWarmResetSampled_completes (s : State) : s.Completes (execWarmResetSampled s) := by
  unfold execWarmResetSampled
  extract_lets gen0 s1 s2 s3
  have h1 : KeepsD s s1 := (refl s).fold (fun _ _ => of_keeps (warmClearCtx_keeps ..))
  have h2 : KeepsD s s2 := h1.same (updCtx_same ..) |>.same (holdDies_same ..)
  have h3 : KeepsD s s3 := keepsD_ite h2 (h2.same (selfRefreshAll_same ..))
  split
  · exact completes_next (h3.same ⟨rfl, rfl, rfl⟩)
  · exact s.completes_self

theorem execWarmBist_completes (durationMs : Nat) (failed retested coverage fails : List Nat) (s : State) :
    s.Completes (execWarmBist durationMs failed retested coverage fails s) := by
  unfold execWarmBist
  split
  · split
    · dsimp only
      exact completes_next (of_keeps (zeroSram_keeps ..) |>.same (bist_same ..) |>.keeps (memZero_keeps ..) |>.same (bumpIf_same ..)
        |>.same ⟨rfl, rfl, rfl⟩)
    · dsimp only
      exact completes_next (of_keeps (zeroSram_keeps ..) |>.same (bist_same ..) |>.same (bumpIf_same ..) |>.same ⟨rfl, rfl, rfl⟩)
  · exact s.completes_self

theorem execWarmResetDone_completes (s : State) : s.Completes (execWarmResetDone s) := by
  unfold execWarmResetDone
  extract_lets s1 pwr s2
  have h1 : KeepsD s s1 := (refl s).fold (fun _ _ => of_same (updCtx_same ..))
  clear_value s1
  have h2 : KeepsD s s2 := h1.same ⟨rfl, rfl, rfl⟩
  split
  · exact completes_next (h2.same (count_same ..) |>.same (enter_same ..))
  · exact s.completes_self

-- ---------------------------------------------------------------- Machine/Idle.lean

theorem execThermalSample_completes (sensor reading : Nat) (s : State) : s.Completes (execThermalSample sensor reading s) := by
  unfold execThermalSample
  extract_lets pwr s1
  have h1 : KeepsD s s1 := of_same ⟨rfl, rfl, rfl⟩
  split
  · exact s.completes_self
  · split
    · exact completes_next h1
    · split
      · exact completes_next (h1.keeps (shutdown_keeps ..))
      · split
        · exact completes_next (h1.same (judgeGroup_same ..) |>.same (noteFloor_same ..) |>.same (throttled_same ..))
        · exact completes_next h1

theorem execPowerSample_completes (supply watts : Nat) (s : State) : s.Completes (execPowerSample supply watts s) := by
  unfold execPowerSample
  extract_lets w pwr s1 judge pwr1 s2
  have h1 : KeepsD s s1 := of_same ⟨rfl, rfl, rfl⟩
  have h2 : KeepsD s s2 := by
    unfold s2
    split <;> exact h1.same ⟨rfl, rfl, rfl⟩
  split
  · exact s.completes_self
  · exact completes_next (keepsD_ite (h2.same (throttled_same ..)) h1)

theorem execDutyStep_completes (die : Nat) (s : State) : s.Completes (execDutyStep die s) := by
  unfold execDutyStep
  split
  · exact s.completes_self
  · split
    · dsimp only
      exact completes_next (of_same ⟨rfl, rfl, rfl⟩ |>.same (noteFloor_same ..) |>.same (throttled_same ..))
    · dsimp only
      exact completes_next (of_same ⟨rfl, rfl, rfl⟩ |>.same (noteFloor_same ..) |>.same (throttled_same ..))

theorem execThermalShutdown_completes (s : State) : s.Completes (execThermalShutdown s) := by
  unfold execThermalShutdown
  split
  · exact completes_of_keeps (shutdown_keeps ..)
  · exact s.completes_self

theorem execIdleEnter_completes (die site : Nat) (s : State) : s.Completes (execIdleEnter die site s) := by
  unfold execIdleEnter
  dsimp only
  split
  · exact completes_of_keeps (enterIdle_keeps ..)
  · exact s.completes_self

theorem execIs4Enter_completes (s : State) : s.Completes (execIs4Enter s) := by
  unfold execIs4Enter
  extract_lets s1
  have h1 : KeepsD s s1 := (refl s).fold (fun _ _ => of_same (dimPort_same ..)) |>.same (selfRefreshAll_same ..) |>.same (count_same ..)
  clear_value s1
  split
  · exact completes_next (h1.same ⟨rfl, rfl, rfl⟩)
  · exact s.completes_self

theorem execIdleWakeUsWrite_completes (ctx value : Nat) (s : State) : s.Completes (execIdleWakeUsWrite ctx value s) := by
  unfold execIdleWakeUsWrite
  split
  · exact completes_of_same (writeWakeUs_same ..)
  · exact s.completes_self

-- ---------------------------------------------------------------- Machine/Host.lean

theorem execBankZeroDone_completes (die tile bank : Nat) (s : State) : s.Completes (execBankZeroDone die tile bank s) := by
  unfold execBankZeroDone
  split
  · exact completes_next (of_keeps (bankZeroed_keeps ..) |>.keeps (hostDrainAll_keeps ..))
  · exact s.completes_self

theorem execIdleWakeDone_completes (die site : Nat) (s : State) : s.Completes (execIdleWakeDone die site s) := by
  unfold execIdleWakeDone
  split
  · exact completes_next (keepsD_ite (of_same (leaveIs4_same ..) |>.keeps (hostDrainAll_keeps ..)) (refl _))
  · dsimp only
    split
    · exact s.completes_self
    · exact completes_of_same (wakeSite_same ..)

theorem execPerstAssert_completes (port : Nat) (s : State) : s.Completes (execPerstAssert port s) := by
  unfold execPerstAssert
  split
  · exact s.completes_self
  · exact completes_next (of_same (updPort_same ..) |>.keeps (resetBoundIf_keeps ..))

theorem execPerstDeassert_completes (port speed lanes : Nat) (flit : Bool) (s : State) :
    s.Completes (execPerstDeassert port speed lanes flit s) := by
  unfold execPerstDeassert
  split
  · exact s.completes_self
  · split
    · exact completes_of_same (updPort_same ..)
    · split
      · exact s.completes_self
      · split
        · dsimp only
          exact completes_next (of_same (count_same ..) |>.same (updPort_same ..) |>.same (emit_same ..))
        · dsimp only
          exact completes_next (of_same (updPort_same ..) |>.same (emit_same ..))

theorem execHostHotReset_completes (port : Nat) (s : State) : s.Completes (execHostHotReset port s) := by
  unfold execHostHotReset
  split
  · exact s.completes_self
  · exact completes_next (of_same (updPort_same ..) |>.same (count_same ..) |>.keeps (resetBoundIf_keeps ..) |>.same (emit_same ..))

theorem execPfFlr_completes (port : Nat) (s : State) : s.Completes (execPfFlr port s) := by
  unfold execPfFlr
  split
  · exact s.completes_self
  · exact completes_next (of_same (updPort_same ..) |>.keeps (resetBoundIf_keeps ..))

theorem execVfEnableClear_completes (port : Nat) (s : State) : s.Completes (execVfEnableClear port s) := by
  unfold execVfEnableClear
  split
  · exact s.completes_self
  · exact completes_of_keeps (clearVfEnable_keeps ..)

theorem execVfFlr_completes (port vf : Nat) (s : State) : s.Completes (execVfFlr port vf s) := by
  unfold execVfFlr
  split
  · exact s.completes_self
  · dsimp only
    exact completes_next (keepsD_ite (of_same (updPort_same ..) |>.keeps (startReset_keeps ..)) (of_same (updPort_same ..)))

theorem execD3hotEnter_completes (port fn : Nat) (s : State) : s.Completes (execD3hotEnter port fn s) := by
  unfold execD3hotEnter
  split
  · exact s.completes_self
  · exact completes_of_same (updFn_same ..)

theorem execHostLinkRetrain_completes (port speed lanes : Nat) (flit : Bool) (s : State) :
    s.Completes (execHostLinkRetrain port speed lanes flit s) := by
  unfold execHostLinkRetrain
  split
  · exact s.completes_self
  · split
    · split
      · dsimp only
        exact completes_next (of_same (count_same ..) |>.same (updPort_same ..) |>.same (emit_same ..))
      · dsimp only
        exact completes_next (of_same (count_same ..) |>.same (updPort_same ..))
    · split
      · dsimp only
        exact completes_next (of_same (count_same ..) |>.same (updPort_same ..) |>.same (emit_same ..))
      · dsimp only
        exact completes_next (of_same (count_same ..) |>.same (updPort_same ..))

theorem execMsixHoldoffEnd_completes (port fn vector : Nat) (s : State) : s.Completes (execMsixHoldoffEnd port fn vector s) := by
  unfold execMsixHoldoffEnd
  split
  · dsimp only
    split
    · exact s.completes_self
    · exact completes_next (keepsD_ite (of_same (updFn_same ..) |>.same (signal_same ..)) (of_same (updFn_same ..)))
  · dsimp only
    split
    · exact s.completes_self
    · exact completes_next (keepsD_ite (of_same (updFn_same ..) |>.same (signal_same ..)) (of_same (updFn_same ..)))

theorem execRefreshInterval_completes (stack pc : Nat) (s : State) : s.Completes (execRefreshInterval stack pc s) := by
  unfold execRefreshInterval
  split
  · split
    · exact completes_of_same ⟨rfl, rfl, rfl⟩
    · exact s.completes_self
  · split
    · exact completes_of_same ⟨rfl, rfl, rfl⟩
    · exact s.completes_self

theorem execRefreshIntervalEnd_completes (stack pc : Nat) (s : State) : s.Completes (execRefreshIntervalEnd stack pc s) := by
  unfold execRefreshIntervalEnd
  split
  · exact completes_next (of_same ⟨rfl, rfl, rfl⟩ |>.keeps (hostDrainAll_keeps ..))
  · exact s.completes_self

theorem execHbmRetrainPause_completes (stack channel : Nat) (s : State) : s.Completes (execHbmRetrainPause stack channel s) := by
  unfold execHbmRetrainPause
  dsimp only
  split
  · exact completes_of_same ⟨rfl, rfl, rfl⟩
  · exact s.completes_self

theorem execHbmRetrainPauseEnd_completes (stack channel : Nat) (s : State) : s.Completes (execHbmRetrainPauseEnd stack channel s) := by
  unfold execHbmRetrainPauseEnd
  extract_lets k left hbm s1
  have h1 : KeepsD s s1 := of_same ⟨rfl, rfl, rfl⟩
  split
  · exact completes_next ((keepsD_ite (h1.same (count_same ..)) h1).keeps (hostDrainAll_keeps ..))
  · exact s.completes_self

-- ---------------------------------------------------------------- Machine/Dielfen.lean

theorem execDfGet_completes (priv who index sub : Nat) (s : State) : s.Completes (execDfGet priv who index sub s) :=
  dfAnswer_keeps _ _ ⟨rfl, rfl, id⟩

theorem execDfSet_completes (priv who index sub ty : Nat) (data : List Nat) (s : State) :
    s.Completes (execDfSet priv who index sub ty data s) :=
  dfAnswer_keeps _ _ (dfSet_keeps ..)

theorem execDfGetSeg_completes (priv who index sub off len : Nat) (s : State) : s.Completes (execDfGetSeg priv who index sub off len s) :=
  dfAnswer_keeps _ _ (keeps_of_same (dfGetSeg_same ..))

theorem execDfSetSeg_completes (priv who index sub ty off : Nat) (data : List Nat) (s : State) :
    s.Completes (execDfSetSeg priv who index sub ty off data s) :=
  dfAnswer_keeps _ _ (dfSetSeg_keeps ..)

theorem execDfDescribe_completes (priv index sub : Nat) (s : State) : s.Completes (execDfDescribe priv index sub s) :=
  dfAnswer_keeps _ _ ⟨rfl, rfl, id⟩

theorem execDfKeyWrite_completes (path slot : Nat) (data : List Nat) (s : State) : s.Completes (execDfKeyWrite path slot data s) :=
  completes_ite s.completes_self (completes_of_same (keyWrite_same ..))

theorem execOdRestoreDefaults_completes (value : Nat) (s : State) : s.Completes (execOdRestoreDefaults value s) := by
  unfold execOdRestoreDefaults
  split
  · exact completes_of_keeps (applyElem_keeps ..)
  · exact s.completes_self

theorem execPersistStore_completes (s : State) : s.Completes (execPersistStore s) := by
  unfold execPersistStore
  split
  · exact completes_of_same (storeRwp_same ..)
  · exact s.completes_self

-- ---------------------------------------------------------------- Machine/Mgmt.lean

theorem execDielfenMessage_completes (s : State) : s.Completes (execDielfenMessage s) := by
  unfold execDielfenMessage
  split
  · exact completes_of_keeps (serveMsg_keeps ..)
  · exact s.completes_self

theorem execT1sFrameRx_completes (dest src etype : Nat) (payload : List Nat) (fcsOk vlan : Bool) (s : State) :
    s.Completes (execT1sFrameRx dest src etype payload fcsOk vlan s) := by
  unfold execT1sFrameRx
  split
  · exact s.completes_self
  · split
    · exact completes_of_same (count_same ..)
    · split
      · dsimp only
        exact completes_next (of_same (count_same ..) |>.same (count_same ..))
      · dsimp only
        exact completes_next (of_same (count_same ..) |>.same (judgeFrame_same ..))

theorem execMailboxGo_completes (port fn value : Nat) (s : State) : s.Completes (execMailboxGo port fn value s) := by
  unfold execMailboxGo
  split
  · exact completes_of_same (writeMbCtrl_same ..)
  · exact s.completes_self

theorem execT1sNodeIdApply_completes (s : State) : s.Completes (execT1sNodeIdApply s) := by
  unfold execT1sNodeIdApply
  split
  · exact s.completes_self
  · split
    · exact s.completes_self
    · exact completes_of_same ⟨rfl, rfl, rfl⟩

theorem execPlcaFallback_completes (s : State) : s.Completes (execPlcaFallback s) := by
  unfold execPlcaFallback
  split
  · exact completes_next (of_same ⟨rfl, rfl, rfl⟩ |>.same (count_same ..))
  · exact s.completes_self

theorem execPlcaResume_completes (s : State) : s.Completes (execPlcaResume s) := by
  unfold execPlcaResume
  split
  · exact completes_of_same ⟨rfl, rfl, rfl⟩
  · exact s.completes_self

theorem execT1sCollision_completes (own : Bool) (s : State) : s.Completes (execT1sCollision own s) := by
  unfold execT1sCollision
  extract_lets s1 cs
  have h1 : KeepsD s s1 := of_same (count_same ..)
  split
  · exact s.completes_self
  · split
    · exact completes_next h1
    · exact completes_next (h1.same ⟨rfl, rfl, rfl⟩)

theorem execNodeClashClear_completes (s : State) : s.Completes (execNodeClashClear s) := by
  unfold execNodeClashClear
  split
  · exact s.completes_self
  · exact completes_of_same ⟨rfl, rfl, rfl⟩

-- ---------------------------------------------------------------- Machine/Monitor.lean

theorem execMonLogin_completes (slot : Option Nat) (s : State) : s.Completes (execMonLogin slot s) := by
  refine monLine_keeps _ _ (fun s => ?_)
  change s.Completes _
  split
  · exact loginDenied_keeps s
  · split
    · split
      · exact monErr_keeps _ _
      · exact KeepsD.completes (of_same ⟨rfl, rfl, rfl⟩) (monOk_keeps ..)
    · split
      · exact monErr_keeps _ _
      · refine completes_next (KeepsD.same ?_ (emit_same ..))
        exact of_same ⟨rfl, rfl, rfl⟩

theorem execMonLoginResponse_completes (response : Nat) (s : State) : s.Completes (execMonLoginResponse response s) := by
  unfold execMonLoginResponse
  split
  · exact s.completes_self
  · split
    · exact KeepsD.completes (of_same ⟨rfl, rfl, rfl⟩) (monOk_keeps ..)
    · exact loginDenied_keeps s

theorem execMonLock_completes (s : State) : s.Completes (execMonLock s) :=
  monLine_keeps _ _ (fun _ => KeepsD.completes (of_same (lock_same ..)) (monOk_keeps ..))

theorem execMonLockTimeout_completes (s : State) : s.Completes (execMonLockTimeout s) :=
  completes_ite s.completes_self (completes_of_same (lock_same ..))

theorem execMonBreak_completes (s : State) : s.Completes (execMonBreak s) :=
  completes_ite s.completes_self (completes_next (of_same (lock_same s) |>.same ⟨rfl, rfl, rfl⟩))

theorem execMonLineError_completes (kind : Nat) (s : State) : s.Completes (execMonLineError kind s) := by
  unfold execMonLineError
  split
  · exact completes_ite (monErr_keeps ..) s.completes_self
  · exact monLine_keeps _ _ (fun _ => monErr_keeps ..)

theorem execMonHelp_completes (row : Option Nat) (s : State) : s.Completes (execMonHelp row s) := by
  refine monLine_keeps _ _ (fun s => ?_)
  split
  · exact monOk_keeps ..
  · split
    · exact monOk_keeps ..
    · exact monErr_keeps ..

theorem execMonId_completes (s : State) : s.Completes (execMonId s) := monLine_keeps _ _ (fun _ => monOk_keeps ..)

theorem execMonOdGet_completes (index sub : Nat) (range : Option (Nat × Nat)) (s : State) :
    s.Completes (execMonOdGet index sub range s) := by
  refine monMsg_keeps _ _ (fun s priv => ?_)
  change s.Completes _
  split
  · exact monErr_keeps ..
  · split
    · exact completes_ite (KeepsD.completes (of_same (dfGetSeg_same ..)) (monOk_keeps ..))
        (KeepsD.completes (of_same (dfGetSeg_same ..)) (monErr_keeps ..))
    · split
      · exact completes_ite (KeepsD.completes (of_same (dfGetSeg_same ..)) (monOk_keeps ..))
          (KeepsD.completes (of_same (dfGetSeg_same ..)) (monErr_keeps ..))
      · exact completes_ite (monOk_keeps ..) (monErr_keeps ..)

theorem execMonOdSet_completes (index sub : Nat) (off : Option Nat) (data : List Nat) (s : State) :
    s.Completes (execMonOdSet index sub off data s) := by
  refine monMsg_keeps _ _ (fun s priv => ?_)
  extract_lets ty o
  have ho : KeepsD s o.1 := by
    unfold o
    split
    · exact of_keeps (dfSet_keeps ..)
    · exact of_keeps (dfSetSeg_keeps ..)
  exact completes_ite (ho.completes (monOk_keeps ..)) (ho.completes (monErr_keeps ..))

theorem execMonOdDesc_completes (index sub : Nat) (s : State) : s.Completes (execMonOdDesc index sub s) := by
  refine monMsg_keeps _ _ (fun s _ => ?_)
  split
  · exact monErr_keeps ..
  · exact monOk_keeps ..

theorem execMonLog_completes (count : Nat) (s : State) : s.Completes (execMonLog count s) := monObj_keeps _ _ _ (fun _ => monOk_keeps ..)

theorem execMonLogBoot_completes (s : State) : s.Completes (execMonLogBoot s) := monPriv_keeps _ _ _ _ (fun _ => monOk_keeps ..)

theorem execMonBist_completes (s : State) : s.Completes (execMonBist s) := monObj_keeps _ _ _ (fun _ => monOk_keeps ..)

theorem execMonBistFails_completes (s : State) : s.Completes (execMonBistFails s) := monObj_keeps _ _ _ (fun _ => monOk_keeps ..)

theorem execMonCtx_completes (c : Option Nat) (s : State) : s.Completes (execMonCtx c s) := by
  refine monObj_keeps _ _ _ (fun s => ?_)
  split
  · exact monOk_keeps ..
  · exact completes_ite (monErr_keeps ..) (monOk_keeps ..)

theorem execMonTile_completes (die tile : Nat) (s : State) : s.Completes (execMonTile die tile s) := by
  refine monObj_keeps _ _ _ (fun s => ?_)
  split
  · exact monErr_keeps ..
  · extract_lets t slots name
    split
    · exact monOk_keeps ..
    · exact monOk_keeps ..

theorem execMonPeek_completes (addr len : Nat) (s : State) : s.Completes (execMonPeek addr len s) := by
  refine monPriv_keeps _ _ _ _ (fun s => ?_)
  change s.Completes _
  extract_lets s1
  have h1 : KeepsD s s1 := of_same (wakeFor_same ..) |>.same (gbWeftRange_same ..)
  split
  · exact monErr_keeps ..
  · split
    · exact peekTurnAway_keeps ..
    · split
      · exact completes_of_same (hbmDelay_same ..)
      · exact completes_ite ((h1.same (count_same ..)
          |>.same (takeFree_same ..)).completes (monOk_keeps ..)) (h1.completes (monOk_keeps ..))

theorem execMonPoke_completes (addr : Nat) (bytes : List Nat) (s : State) : s.Completes (execMonPoke addr bytes s) := by
  refine monPriv_keeps _ _ _ _ (fun s => ?_)
  change s.Completes _
  extract_lets lost s0 s1
  have h0 : KeepsD s s0 := of_same (wakeFor_same ..)
  have h1 : KeepsD s s1 := keepsD_ite (h0.keeps (writeAny_keeps ..) |>.same (gbWeftRange_same ..)) h0
  split
  · exact monErr_keeps ..
  · split
    · exact peekTurnAway_keeps ..
    · split
      · exact completes_of_same (hbmDelay_same ..)
      · exact (keepsD_ite (h1.same (count_same ..) |>.same (takeFree_same ..)) h1).completes (monOk_keeps ..)

theorem execMonResetWarmKeep_completes (now : Bool) (s : State) : s.Completes (execMonResetWarmKeep now s) :=
  s.monReset_keeps now false (fun s => s.warmCmd 1) (fun s => warmCmd_keeps s 1)

theorem execMonResetWarmClear_completes (now : Bool) (s : State) : s.Completes (execMonResetWarmClear now s) :=
  s.monReset_keeps now false (fun s => s.warmCmd 2) (fun s => warmCmd_keeps s 2)

theorem execMonResetModule_completes (now : Bool) (s : State) : s.Completes (execMonResetModule now s) :=
  s.monReset_keeps now true (fun s => s.resetRequest 0x52B7) (fun s => resetRequest_keeps s 0x52B7)

theorem execMonTraceCtx_completes (c : Nat) (s : State) : s.Completes (execMonTraceCtx c s) :=
  completes_ite (monPriv_keeps _ _ _ _ (fun _ => monErr_keeps ..)) (monTrace_keeps ..)

-- ---------------------------------------------------------------- Machine/RegisterWrite.lean

theorem execRegisterWrite_completes (space a b off : Nat) (bytes : List Nat) (s : State) :
    s.Completes (execRegisterWrite space a b off bytes s) := by
  unfold execRegisterWrite
  split
  · exact completes_next (keepsD_ite (refl _)
      (keepsD_ite (of_keeps (writeAny_keeps ..)) (keepsD_ite (of_keeps (bar0Write_keeps ..)) (refl _))))
  · exact completes_next (keepsD_ite ((refl _).fold (fun _ _ => (of_same (writeBar2Word_same ..)))) (refl _))
  · exact completes_next (keepsD_ite (of_keeps (writeAny_keeps ..)) (refl _))
  · split
    · exact completes_next (keepsD_ite (refl _) (keepsD_ite (of_same (keyWrite_same ..)) (of_keeps (writeElems_keeps ..))))
    · exact s.completes_self
  · exact completes_next (keepsD_ite (of_keeps (writeConfig_keeps ..)) (refl _))
  · exact s.completes_self

-- ---------------------------------------------------------------- Machine/Dispatch.lean

theorem exec_completes (c : Instr) (s : State) : s.Completes (exec c s) := by
  cases c with
  | nop | syncLocal | syncGroup | fenceLocal | cardDrain | cardCut | selectSetpQ | selectSetpM | selectChooseQ | selectChooseM | mma
  | mmaT | accLoadReplace | accLoadAdd | accStore | ancInit | ancScanAll | ancScanRows | ancFold | vecEwAdd | vecEwSub | vecEwMul
  | vecEwFma | vecEwDiv | vecEwSqrt | vecEwMin | vecEwMax | vecEwAbs | vecEwNeg | vecEwCmpEq | vecEwCmpLt | vecEwCmpLe | vecEwCmpUnord
  | vecActRelu | vecActExp | vecActExp2 | vecActLog | vecActLog2 | vecActRecip | vecActRsqrt | vecActTanh | vecActSigmoid | vecActSilu
  | vecActGeluTanh | vecActErf | vecActSoftplus | vecActSin | vecActCos | vecRedSum | vecRedMax | vecRedMin | vecRedAmax | cast | xpose
  | gather | scatter | sendRef | sendInline | sendVoid | sendPred | recv =>
    exact completes_of_keeps (tileOp_keeps ..)
  | tileopEngineDone => exact execTileopEngineDone_completes ..
  | checkCompare => exact execCheckCompare_completes ..
  | reexecDone => exact execReexecDone_completes ..
  | replayExecute => exact execReplayExecute_completes ..
  | replayDigest => exact execReplayDigest_completes ..
  | tileopRetire => exact execTileopRetire_completes ..
  | beatTick => exact execBeatTick_completes ..
  | tileIslandWrite => exact completes_of_same (writeIsland_same ..)
  | freqStepApply => exact execFreqStepApply_completes ..
  | bankOwnerWrite => exact execBankOwnerWrite_completes ..
  | bankZeroDone => exact execBankZeroDone_completes ..
  | scrubRead => exact execScrubRead_completes ..
  | ctxWindowWrite => exact execCtxWindowWrite_completes ..
  | weftRead | weftWrite | weftWriteMasked => exact completes_of_keeps (serve_keeps ..)
  | weftAtomic => exact execWeftAtomic_completes ..
  | weftRdData => exact execWeftRdData_completes ..
  | weftWrAck => exact execWeftWrAck_completes ..
  | weftError => exact execWeftError_completes ..
  | weftCtrlCmd die tile cmd ctx arg => exact execWeftCtrlCmd_completes die tile cmd ctx arg s
  | weftLinkCrcError => exact execWeftLinkCrcError_completes ..
  | weftTimeout => exact execWeftTimeout_completes ..
  | tableWriteDone => exact execTableWriteDone_completes ..
  | tableOldBankFree => exact execTableOldBankFree_completes ..
  | translationForwardEnd => exact completes_of_same (updDie_same ..)
  | streamerFetch => exact execStreamerFetch_completes ..
  | streamerAdmit => exact execStreamerAdmit_completes ..
  | warpPickOwnerWrite => exact execWarpPickOwnerWrite_completes ..
  | warpAdmit => exact execWarpAdmit_completes ..
  | queueArrival => exact execQueueArrival_completes ..
  | ringRefill => exact execRingRefill_completes ..
  | streamLineArrival => exact execStreamLineArrival_completes ..
  | creditReturn => exact execCreditReturn_completes ..
  | sendWaitExpire => exact execSendWaitExpire_completes ..
  | joinStall => exact execJoinStall_completes ..
  | selvedge => exact execSelvedge_completes ..
  | cardSwitchArrive => exact execCardSwitchArrive_completes ..
  | cardSwitchCommit => exact execCardSwitchCommit_completes ..
  | cardSwitchCancel => exact execCardSwitchCancel_completes ..
  | syncArrive => exact execSyncArrive_completes ..
  | syncRelease => exact execSyncRelease_completes ..
  | chanPause => exact execChanPause_completes ..
  | chanResume => exact execChanResume_completes ..
  | cardLoadDone => exact execCardLoadDone_completes ..
  | cardSwitchReady => exact execCardSwitchReady_completes ..
  | switchQuietStart => exact execSwitchQuietStart_completes ..
  | switchTakeEffect => exact execSwitchTakeEffect_completes ..
  | creditGraceEnd => exact execCreditGraceEnd_completes ..
  | seqDoorbell => exact completes_next (keepsD_ite (of_keeps (doorbell_keeps ..)) (of_keeps (bar0Write_keeps ..)))
  | graphChecked => exact execGraphChecked_completes ..
  | nodeRead => exact execNodeRead_completes ..
  | seqRelease => exact completes_of_keeps (seqRelease_keeps ..)
  | nodeDoneNotice => exact execNodeDoneNotice_completes ..
  | nodeLaunch => exact execNodeLaunch_completes ..
  | sectionSwitchStart => exact execSectionSwitchStart_completes ..
  | gateOpen => exact execGateOpen_completes ..
  | nodeDrainDone => exact execNodeDrainDone_completes ..
  | graphFinish => exact execGraphFinish_completes ..
  | graphDone => exact execGraphDone_completes ..
  | cqEntryWrite => exact execCqEntryWrite_completes ..
  | cqCfgWrite | eqCfgWrite | ledgerCfgWrite => exact completes_of_keeps (writeRingCfg_keeps ..)
  | ftcLaunchAtWrite => exact completes_of_same (writeLaunchAt_same ..)
  | sliceDue => exact execSliceDue_completes ..
  | sliceGrant => exact execSliceGrant_completes ..
  | sliceRelief => exact execSliceRelief_completes ..
  | sliceEnd => exact execSliceEnd_completes ..
  | sliceReinitDone => exact execSliceReinitDone_completes ..
  | sliceOverdue => exact execSliceOverdue_completes ..
  | ctxActivate => exact execCtxActivate_completes ..
  | ctxReset => exact execCtxReset_completes ..
  | ctxResetKeep => exact execCtxResetKeep_completes ..
  | ctxFenceReset => exact execCtxFenceReset_completes ..
  | resetDrainEnd => exact execResetDrainEnd_completes ..
  | resetDrainTimeout => exact execResetDrainTimeout_completes ..
  | vitrineSampleDone => exact execVitrineSampleDone_completes ..
  | resetClearing => exact execResetClearing_completes ..
  | quietPeriodEnd => exact execQuietPeriodEnd_completes ..
  | grantWrite => exact execGrantWrite_completes ..
  | hangSample => exact execHangSample_completes ..
  | containmentStart => exact execContainmentStart_completes ..
  | warmResetKeepHbm | warmResetClearHbm => exact completes_of_keeps (warmCmd_keeps ..)
  | warmResetSampled => exact execWarmResetSampled_completes ..
  | warmBist => exact execWarmBist_completes ..
  | warmResetDone => exact execWarmResetDone_completes ..
  | moduleResetRequest => exact completes_of_keeps (resetRequest_keeps ..)
  | moduleResetBegin => exact execModuleResetBegin_completes ..
  | varoaFrameRx => exact execVaroaFrameRx_completes ..
  | varoaLinkDown => exact execVaroaLinkDown_completes ..
  | portRetrainDone => exact execPortRetrainDone_completes ..
  | helloTimer => exact execHelloTimer_completes ..
  | hello => exact execHello_completes ..
  | fabricConfigWrite => exact completes_of_keeps (writeFabricCfg_keeps ..)
  | fabricRoute => exact execFabricRoute_completes ..
  | failoverApply => exact execFailoverApply_completes ..
  | fabricRead | fabricWrite | fabricWriteMasked => exact completes_of_keeps (fabRequest_keeps ..)
  | fabricRdData | fabricWrAck | fabricError => exact completes_of_keeps (fabResponse_keeps ..)
  | fabricAccessTimeout => exact execFabricAccessTimeout_completes ..
  | fabricEndpointWrite => exact completes_of_same (writeEndpoint_same ..)
  | fabricFlowWrite => exact completes_of_same (writeFlow_same ..)
  | guaranteedAdmit => exact execGuaranteedAdmit_completes ..
  | lateNotice => exact execLateNotice_completes ..
  | delivered => exact execDelivered_completes ..
  | deliveredTimer => exact execDeliveredTimer_completes ..
  | unconfirmedTimeout => exact completes_of_keeps (reportLate_keeps ..)
  | partResetRequest => exact completes_of_keeps (startPartReset_keeps ..)
  | partReset => exact execPartReset_completes ..
  | collectiveStart => exact execCollectiveStart_completes ..
  | collReady => exact execCollReady_completes ..
  | collData => exact execCollData_completes ..
  | collAbort => exact execCollAbort_completes ..
  | collectiveTimeout => exact completes_of_keeps (abortHere_keeps ..)
  | timeSyncTimer => exact execTimeSyncTimer_completes ..
  | timeSync => exact execTimeSync_completes ..
  | timeEcho => exact execTimeEcho_completes ..
  | timeRootTimeout => exact execTimeRootTimeout_completes ..
  | ftcSteer => exact execFtcSteer_completes ..
  | vinCoreWarning => exact execVinCoreWarning_completes ..
  | dipStretchEnd => exact execDipStretchEnd_completes ..
  | checkRaiseEnd => exact execCheckRaiseEnd_completes ..
  | vinIoWarning => exact execVinIoWarning_completes ..
  | supplySuspectClear => exact execSupplySuspectClear_completes ..
  | scoreRecover => exact execScoreRecover_completes ..
  | scoreSave => exact completes_of_same (saveScores_same ..)
  | deaccession => exact execDeaccession_completes ..
  | commonCauseEnd => exact execCommonCauseEnd_completes ..
  | fieldCatalogueAppend => exact execFieldCatalogueAppend_completes ..
  | replacementDrained => exact execReplacementDrained_completes ..
  | replacementRoutesWritten => exact execReplacementRoutesWritten_completes ..
  | replacementAbandon => exact execReplacementAbandon_completes ..
  | catReaccession => exact completes_of_same (reaccession_same ..)
  | licInstall => exact completes_of_same (licInstall_same ..)
  | opticalLoopbackCheck => exact execOpticalLoopbackCheck_completes ..
  | rxPowerCheck => exact execRxPowerCheck_completes ..
  | laserPowerCheck => exact execLaserPowerCheck_completes ..
  | pllLockLoss => exact execPllLockLoss_completes ..
  | pllJitterCheck => exact execPllJitterCheck_completes ..
  | hbmEyeCheck => exact execHbmEyeCheck_completes ..
  | vsenseCrossCheck => exact execVsenseCrossCheck_completes ..
  | analogueRetry => exact execAnalogueRetry_completes ..
  | rehearsalConsentWrite => exact execRehearsalConsentWrite_completes ..
  | rehCancel | rehTileFault | rehCheckMismatch | rehPoison | rehLinkDrop | rehQueueStall | rehHang | rehBrownoutWarn =>
    exact completes_of_keeps (injectKind_keeps ..)
  | rehearsalAtFtc => exact execRehearsalAtFtc_completes ..
  | rehearsalEnd => exact execRehearsalEnd_completes ..
  | vinAnaPresent => exact execVinAnaPresent_completes ..
  | vinIoPresent => exact execVinIoPresent_completes ..
  | vinCorePresent => exact execVinCorePresent_completes ..
  | supplyAbsent => exact execSupplyAbsent_completes ..
  | heldRelease => exact execHeldRelease_completes ..
  | overvoltage => exact execOvervoltage_completes ..
  | vinAnaLoss => exact execVinAnaLoss_completes ..
  | brownoutReset => exact execBrownoutReset_completes ..
  | regulatorsUp => exact execRegulatorsUp_completes ..
  | controllerBoot => exact execControllerBoot_completes ..
  | catalogueLoad => exact execCatalogueLoad_completes ..
  | powerupBist => exact execPowerupBist_completes ..
  | hbmTraining => exact execHbmTraining_completes ..
  | opticalCalibration => exact execOpticalCalibration_completes ..
  | ready => exact execReady_completes ..
  | powerSleep | powerWake => exact completes_of_keeps (powerCmd_keeps ..)
  | thermalSample => exact execThermalSample_completes ..
  | powerSample => exact execPowerSample_completes ..
  | dutyStep => exact execDutyStep_completes ..
  | thermalShutdown => exact execThermalShutdown_completes ..
  | idleEnter => exact execIdleEnter_completes ..
  | is4Enter => exact execIs4Enter_completes ..
  | idleWakeDone => exact execIdleWakeDone_completes ..
  | idleWakeUsWrite => exact execIdleWakeUsWrite_completes ..
  | hostBar4Read | hostBar4Write | hostFetchAdd | hostSwap | hostCas => exact completes_of_keeps (hostPost_keeps ..)
  | mailboxGo => exact execMailboxGo_completes ..
  | perstAssert => exact execPerstAssert_completes ..
  | perstDeassert => exact execPerstDeassert_completes ..
  | hostHotReset => exact execHostHotReset_completes ..
  | pfFlr => exact execPfFlr_completes ..
  | vfEnableClear => exact execVfEnableClear_completes ..
  | vfFlr => exact execVfFlr_completes ..
  | d3hotEnter => exact execD3hotEnter_completes ..
  | refreshInterval => exact execRefreshInterval_completes ..
  | hbmRetrainPause => exact execHbmRetrainPause_completes ..
  | t1sFrameRx => exact execT1sFrameRx_completes ..
  | dielfenMessage => exact execDielfenMessage_completes ..
  | dfGet => exact execDfGet_completes ..
  | dfSet => exact execDfSet_completes ..
  | dfGetSeg => exact execDfGetSeg_completes ..
  | dfSetSeg => exact execDfSetSeg_completes ..
  | dfDescribe priv index sub => exact execDfDescribe_completes priv index sub s
  | dfKeyWrite => exact execDfKeyWrite_completes ..
  | odRestoreDefaults => exact execOdRestoreDefaults_completes ..
  | persistStore => exact execPersistStore_completes ..
  | t1sNodeIdApply => exact execT1sNodeIdApply_completes ..
  | plcaFallback => exact execPlcaFallback_completes ..
  | plcaResume => exact execPlcaResume_completes ..
  | nodeClashClear => exact execNodeClashClear_completes ..
  | monHelp => exact execMonHelp_completes ..
  | monId => exact execMonId_completes ..
  | monLogin => exact execMonLogin_completes ..
  | monLoginResponse => exact execMonLoginResponse_completes ..
  | monLock => exact execMonLock_completes ..
  | monOdGet => exact execMonOdGet_completes ..
  | monOdSet => exact execMonOdSet_completes ..
  | monOdDesc => exact execMonOdDesc_completes ..
  | monLog => exact execMonLog_completes ..
  | monLogBoot => exact execMonLogBoot_completes ..
  | monBist => exact execMonBist_completes ..
  | monBistFails => exact execMonBistFails_completes ..
  | monCtx => exact execMonCtx_completes ..
  | monCtxActivate | monCtxReset | monCtxResetKeep => exact monCtrl_keeps ..
  | monTile => exact execMonTile_completes ..
  | monPeek => exact execMonPeek_completes ..
  | monPoke => exact execMonPoke_completes ..
  | monResetWarmKeep => exact execMonResetWarmKeep_completes ..
  | monResetWarmClear => exact execMonResetWarmClear_completes ..
  | monResetModule => exact execMonResetModule_completes ..
  | monTraceAcc => exact monTrace_keeps ..
  | monTraceCtx => exact execMonTraceCtx_completes ..
  | monTraceOff => exact monTrace_keeps ..
  | monBreak => exact execMonBreak_completes ..
  | monLockTimeout => exact execMonLockTimeout_completes ..
  | registerWrite => exact execRegisterWrite_completes ..
  | normalRouteReturn => exact execNormalRouteReturn_completes ..
  | msixHoldoffEnd => exact execMsixHoldoffEnd_completes ..
  | t1sCollision => exact execT1sCollision_completes ..
  | hostLinkRetrain => exact execHostLinkRetrain_completes ..
  | refreshIntervalEnd => exact execRefreshIntervalEnd_completes ..
  | hbmRetrainPauseEnd => exact execHbmRetrainPauseEnd_completes ..
  | monLineError => exact execMonLineError_completes ..
  | monCtrlC => exact s.completes_self

end Sys2Proof.Machine

open Sys2Proof.Machine in
/-- Settles O57, by the case split over the commands: each is one of the operations that keep what it names, or branches over them. -/
theorem everyCommandCompletes : Obligations.EveryCommandCompletes := exec_completes

end


section
/-! PROOFS. WARP_PICK_OWNER (R263, R264): a write goes through the picks in order; after each, the picks gone through are the
moved ones and nothing else has changed. -/

namespace Sys2Proof.Machine

/-- The owner that a write of a die's pick owners leaves pick `p` with (R264). -/
def State.pickAfter (s : State) (die value p : Nat) : Nat :=
  if s.pickClaimed die (SMap.get 0 (s.die die).pickOwner p) p then SMap.get 0 (s.die die).pickOwner p else fld value (4 * p) 4

/-- One pick's turn in a write of a die's pick owners. -/
def writePick (die value : Nat) (acc : State × Bool) (i : Nat) : State × Bool :=
  let p := i + 1
  let old := SMap.get 0 (acc.1.die die).pickOwner p
  let new := fld value (4 * p) 4
  if new = old then acc
  else if acc.1.pickClaimed die old p then (acc.1, false)
  else (acc.1.updDie die (fun d => { d with pickOwner := SMap.set 0 d.pickOwner p new }), acc.2)

theorem State.writePickOwner_eq_foldl (s : State) (die value : Nat) :
    s.writePickOwner die value = (List.range 15).foldl (writePick die value) (s, true) := rfl

/-- What `t` is when the write in `s` has gone through picks 1 to `n`. -/
structure PicksWritten (s : State) (die value n : Nat) (t : State) : Prop where
  done : ∀ p, 1 ≤ p → p ≤ n → SMap.get 0 (t.die die).pickOwner p = s.pickAfter die value p
  todo : ∀ p, p = 0 ∨ n < p → SMap.get 0 (t.die die).pickOwner p = SMap.get 0 (s.die die).pickOwner p
  ofDie : t.die die = { s.die die with pickOwner := (t.die die).pickOwner }
  others : ∀ d, d ≠ die → t.die d = s.die d
  rest : t = { s with dies := t.dies }

variable {s t : State} {die value n : Nat}

theorem PicksWritten.zero (s : State) (die value : Nat) : PicksWritten s die value 0 s where
  done p h1 h0 := by omega
  todo _ _ := rfl
  ofDie := rfl
  others _ _ := rfl
  rest := rfl

/-- A pick that keeps its owner. -/
theorem PicksWritten.keep (h : PicksWritten s die value n t)
    (hk : s.pickAfter die value (n + 1) = SMap.get 0 (s.die die).pickOwner (n + 1)) :
    PicksWritten s die value (n + 1) t where
  done p h1 hp := by
    by_cases hn : p ≤ n
    · exact h.done p h1 hn
    · obtain rfl : p = n + 1 := by omega
      rw [hk, h.todo _ (by omega)]
  todo p hp := h.todo p (by omega)
  ofDie := h.ofDie
  others := h.others
  rest := h.rest

/-- A pick that gets its new owner. -/
theorem PicksWritten.move (h : PicksWritten s die value n t) (hm : s.pickAfter die value (n + 1) = fld value (4 * (n + 1)) 4) :
    PicksWritten s die value (n + 1)
      (t.updDie die (fun d => { d with pickOwner := SMap.set 0 d.pickOwner (n + 1) (fld value (4 * (n + 1)) 4) })) where
  done p h1 hp := by
    by_cases hn : p ≤ n
    · simp [SMap.get_set_other _ _ (show p ≠ n + 1 by omega), h.done p h1 hn]
    · obtain rfl : p = n + 1 := by omega
      simp [hm]
  todo p hp := by simp [SMap.get_set_other _ _ (show p ≠ n + 1 by omega), h.todo p (by omega)]
  ofDie := by rw [State.die_updDie, h.ofDie]
  others d hd := by rw [State.die_updDie_other _ _ hd, h.others d hd]
  rest := by rw [h.rest]; rfl

/-- No write of pick owners touches the cards that claim picks. -/
theorem PicksWritten.pickClaimed (h : PicksWritten s die value n t) (c p : Nat) : t.pickClaimed die c p = s.pickClaimed die c p := by
  rw [h.rest]; rfl

theorem PicksWritten.succ {b : Bool} (h : PicksWritten s die value n t) :
    PicksWritten s die value (n + 1) (writePick die value (t, b) n).1 := by
  unfold writePick
  simp only [h.todo (n + 1) (by omega), h.pickClaimed]
  split
  · next hsame => exact h.keep (by rw [State.pickAfter, hsame, ite_self])
  · split
    · next hc => exact h.keep (by rw [State.pickAfter, if_pos hc])
    · next hc => exact h.move (by rw [State.pickAfter, if_neg hc])

theorem writePicks_written (s : State) (die value n : Nat) :
    PicksWritten s die value n ((List.range n).foldl (writePick die value) (s, true)).1 := by
  induction n with
  | zero => exact .zero s die value
  | succ n ih => rw [List.range_succ, List.foldl_append]; exact ih.succ

end Sys2Proof.Machine

open Sys2Proof Sys2Proof.Machine in
/-- Settles O11: the write goes through picks 1 to 15, moving each that is not claimed. -/
theorem pickOwnerMovesOnlyFreePicks : Obligations.PickOwnerMovesOnlyFreePicks := by
  intro s die value
  refine ⟨fun h => ?_, fun h => ⟨(s.writePickOwner die value).1, ?_, ?_⟩⟩
  · simp [exec, execWarpPickOwnerWrite, h]
  · simp [exec, execWarpPickOwnerWrite, h]
  · have hw := writePicks_written s die value 15
    rw [← State.writePickOwner_eq_foldl] at hw
    exact ⟨hw.done, hw.todo, hw.ofDie, hw.others, hw.rest⟩

end


section
/-! PROOFS. A step runs the front command; with none waiting a nanosecond passes, which moves the clock by one and leaves memory and
the contexts as they are (log entry 2). -/

namespace Sys2Proof.Machine

/-- Uptime, memory and the contexts of `t` are those of `s`. -/
structure State.SameClock (s t : State) : Prop where
  uptime : t.pwr.uptime = s.pwr.uptime
  mem : t.mem = s.mem
  ctxs : t.ctxs = s.ctxs
  ctx0 : t.ctx0 = s.ctx0

theorem State.SameClock.refl (s : State) : s.SameClock s := ⟨rfl, rfl, rfl, rfl⟩

theorem State.SameClock.trans {s t u : State} (h : s.SameClock t) (k : t.SameClock u) : s.SameClock u :=
  ⟨k.uptime.trans h.uptime, k.mem.trans h.mem, k.ctxs.trans h.ctxs, k.ctx0.trans h.ctx0⟩

theorem State.SameClock.ite {s t u : State} {p : Prop} [Decidable p] (ht : s.SameClock t) (hu : s.SameClock u) :
    s.SameClock (if p then t else u) := by
  split <;> assumption

theorem State.SameClock.foldl {α : Type} {f : State → α → State} (h : ∀ s x, State.SameClock s (f s x)) (l : List α) (s : State) :
    s.SameClock (l.foldl f s) := by
  induction l generalizing s with
  | nil => exact .refl s
  | cons a l ih => exact (h s a).trans (ih (f s a))

theorem State.SameClock.count {s t : State} (h : s.SameClock t) (i k e n : Nat) : s.SameClock (t.count i k e n) :=
  h.trans ⟨rfl, rfl, rfl, rfl⟩

theorem State.tickMs_sameClock (s : State) : s.SameClock s.tickMs := by
  unfold State.tickMs
  extract_lets s0 s1
  have h0 : s.SameClock s0 := .foldl (fun s v => .ite ((SameClock.refl s).count ..) (.refl s)) _ s
  have h1 : s.SameClock s1 := .ite (h0.count ..) h0
  exact .ite (.refl s) (.ite h1 (h1.count ..))

theorem State.noteCalm_sameClock (s : State) : s.SameClock s.noteCalm := ⟨rfl, rfl, rfl, rfl⟩

theorem State.tickDie_sameClock (s : State) (d : Nat) : s.SameClock (s.tickDie d) := ⟨rfl, rfl, rfl, rfl⟩

theorem State.tick_of_off (s : State) (h : s.pwr.ctrlOn = false) : s.tick = s := by
  unfold State.tick
  rw [h]
  rfl

/-- With the controller on, all a nanosecond does after it has moved the clock leaves memory and the contexts alone. -/
theorem State.tick_sameClock (s : State) (h : s.pwr.ctrlOn = true) :
    State.SameClock { s with pwr := { s.pwr with uptime := s.pwr.uptime + 1 } } s.tick := by
  unfold State.tick
  rw [if_neg (by simp [h])]
  extract_lets pwr s1 calm fab s2
  have h1 := State.tickMs_sameClock { s with pwr := { s.pwr with uptime := s.pwr.uptime + 1 } }
  have h2 : s1.SameClock s2 := s1.noteCalm_sameClock.trans ⟨rfl, rfl, rfl, rfl⟩
  exact .ite h1 ((h1.trans h2).trans (.foldl State.tickDie_sameClock _ s2))

end Sys2Proof.Machine

open Sys2Proof Sys2Proof.Machine in
/-- Settles O59, by the definition of a step and what a nanosecond leaves as it is. -/
theorem stepRunsTheFrontCommand : Obligations.StepRunsTheFrontCommand := by
  refine ⟨fun c s cs => rfl, fun s hs => ⟨by rw [step, hs], s.tick_of_off, fun h => ?_⟩, fun s n w => ⟨rfl, rfl⟩⟩
  obtain ⟨huptime, hmem, hctxs, hctx0⟩ := s.tick_sameClock h
  exact ⟨huptime, hmem, hctxs, hctx0⟩

end


section
/-! PROOFS. What context 0 writes of bank owners, windows and grants, and the end of a bank's zeroing (R201, R203, R220 to R223,
R369): what each sets, and that it sets nothing else. -/

namespace Sys2Proof.Machine

-- ---------------------------------------------------------------- stores and contexts

theorem SMap.get_clear {α : Type} {d : α} (p : Nat → Bool) (m : SMap α) (k : Nat) :
    SMap.get d (SMap.clear p m) k = if p k then d else SMap.get d m k := by
  induction m with
  | nil => simp [SMap.clear, SMap.get]
  | cons e m ih =>
    obtain ⟨j, v⟩ := e
    simp only [SMap.clear] at ih
    by_cases hp : p j = true
    · by_cases hj : j = k
      · subst hj; simp_all [SMap.clear]
      · simp [SMap.clear, SMap.get, hp, hj, ih]
    · by_cases hj : j = k
      · subst hj; simp [SMap.clear, SMap.get, hp]
      · simp [SMap.clear, SMap.get, hp, hj, ih]

variable {s t : State} {c : Nat} {f : Ctx → Ctx}

theorem State.updCtx_eq (s : State) (c : Nat) (f : Ctx → Ctx) :
    s.updCtx c f = { s with ctxs := (s.updCtx c f).ctxs, ctx0 := (s.updCtx c f).ctx0 } := by
  unfold State.updCtx State.setCtx
  split <;> rfl

/-- Only contexts changed from `s` to `t`. -/
def State.OnlyContexts (s t : State) : Prop := t = { s with ctxs := t.ctxs, ctx0 := t.ctx0 }

theorem State.OnlyContexts.trans {u : State} (h : s.OnlyContexts t) (h' : t.OnlyContexts u) : s.OnlyContexts u := by
  unfold State.OnlyContexts at *
  rw [h] at h'
  exact h'

theorem State.onlyContexts_updCtx (s : State) (c : Nat) (f : Ctx → Ctx) : s.OnlyContexts (s.updCtx c f) := State.updCtx_eq s c f

theorem State.winFits_updCtx (w : Nat) : (s.updCtx c f).winFits w = s.winFits w := by
  unfold State.updCtx State.setCtx
  split <;> rfl

theorem State.reachesStore_updCtx (w : Nat) : (s.updCtx c f).reachesStore w = s.reachesStore w := by
  unfold State.updCtx State.setCtx
  split <;> rfl

-- ---------------------------------------------------------------- bank owners (R201)

theorem Tile.bank_updBanks (t : Tile) (b : Nat) (g : Bank → Bank) :
    ({ t with banks := SMap.upd {} t.banks b g } : Tile).bank b = g (t.bank b) := SMap.get_upd_same _ _ _

theorem Tile.bank_updBanks_other (t : Tile) {b k : Nat} (g : Bank → Bank) (h : k ≠ b) :
    ({ t with banks := SMap.upd {} t.banks b g } : Tile).bank k = t.bank k := SMap.get_upd_other _ _ h

/-- What `t` is after bytes of a tile's TILE_BANK_OWNER from `off` on have been written in `s`. -/
structure BanksWritten (s : State) (die tile off : Nat) (bytes : List Nat) (t : State) : Prop where
  rest : t = { s with tiles := t.tiles }
  inside : ∀ i v, bytes[i]? = some v → off + i < 24 →
    (t.tile die tile).bank (off + i) = ((s.tile die tile).bank (off + i)).write v
  outside : ∀ b, b < off ∨ off + bytes.length ≤ b → (t.tile die tile).bank b = (s.tile die tile).bank b

theorem State.writeBankOwner_written (die tile : Nat) (bytes : List Nat) :
    ∀ (s : State) (off : Nat), BanksWritten s die tile off bytes (s.writeBankOwner die tile off bytes) := by
  induction bytes with
  | nil => exact fun s off => ⟨rfl, fun i v h => by simp at h, fun b _ => rfl⟩
  | cons v vs ih =>
    intro s off
    rw [State.writeBankOwner]
    split
    · next hoff =>
      obtain ⟨hrest, hin, hout⟩ := ih (s.updTile die tile (fun t => { t with banks := SMap.upd {} t.banks off (fun b => b.write v) }))
        (off + 1)
      refine ⟨hrest, fun i x hx hi => ?_, fun b hb => ?_⟩
      · cases i with
        | zero =>
          obtain rfl : v = x := by simpa using hx
          rw [hout _ (by omega), State.tile_updTile, Nat.add_zero, Tile.bank_updBanks]
        | succ i =>
          rw [show off + (i + 1) = off + 1 + i by omega, hin i x (by simpa using hx) (by omega), State.tile_updTile,
            Tile.bank_updBanks_other _ _ (by omega)]
      · rw [List.length_cons] at hb
        rw [hout b (by omega), State.tile_updTile, Tile.bank_updBanks_other _ _ (by omega)]
    · next hoff =>
      obtain ⟨hrest, hin, hout⟩ := ih s (off + 1)
      refine ⟨hrest, fun i x _ hi => by omega, fun b hb => hout b ?_⟩
      rw [List.length_cons] at hb
      omega

-- ---------------------------------------------------------------- the end of a bank's zeroing (R203)

theorem State.memByte_memZero (s : State) (a n k : Nat) :
    (s.memZero a n).memByte k = if a ≤ k ∧ k < a + n then 0 else s.memByte k := by
  unfold State.memByte State.memZero
  rw [SMap.get_clear]
  by_cases h : a ≤ k ∧ k < a + n <;> simp [h]

theorem State.memByte_bankZeroed (s : State) (die tile bank k : Nat) :
    (s.bankZeroed die tile bank).memByte k =
      if tileAddr die tile (bank * 0x10000) ≤ k ∧ k < tileAddr die tile (bank * 0x10000) + 0x10000 then 0 else s.memByte k :=
  State.memByte_memZero ..

theorem State.bank_bankZeroed (s : State) (die tile bank : Nat) :
    (((s.bankZeroed die tile bank).tile die tile).bank bank).zeroing = false := by
  simp [State.bankZeroed, Tile.bank]

theorem State.hostDrain_of_none (p : Nat) (h : (s.port p).held = []) : s.hostDrain p = s := by
  simp [State.hostDrain, h]

theorem State.hostDrainAll_of_none (h0 : (s.port 0).held = []) (h1 : (s.port 1).held = []) : s.hostDrainAll = s := by
  rw [State.hostDrainAll, State.hostDrain_of_none 0 h0, State.hostDrain_of_none 1 h1]

-- ---------------------------------------------------------------- windows (R221, R223)

/-- Whether an entry may not be put in force for a context (R221, R379, R548). -/
def State.windowBad (s : State) (c w : Nat) : Prop :=
  winValid w = true ∧ (s.winFits w = false ∨ (c ≠ 0 ∧ s.reachesStore w = true))

theorem State.windowBad_updCtx (w : Nat) : (s.updCtx c f).windowBad c w ↔ s.windowBad c w := by
  simp [State.windowBad, State.winFits_updCtx, State.reachesStore_updCtx]

/-- Whether putting an entry in force would narrow a window of a running context (R223). -/
def State.windowNarrows (s : State) (c e w : Nat) : Prop :=
  winNarrows (SMap.get 0 (s.ctx c).windows e) w = true ∧ (s.ctx c).st.running = true

theorem State.applyWindow_of_bad {e w : Nat} (h : s.windowBad c w) : s.applyWindow c e w = s := by
  obtain ⟨hv, hb⟩ := h
  simp [State.applyWindow, hv, hb]

theorem State.applyWindow_of_narrows {e w : Nat} (h : ¬ s.windowBad c w) (hn : s.windowNarrows c e w) :
    s.applyWindow c e w = s.updCtx c (fun x => { x with
      heldWindows := SMap.set 0 x.heldWindows e w, heldWindowOn := SMap.set false x.heldWindowOn e true }) := by
  obtain ⟨hw, hr⟩ := hn
  rw [State.applyWindow, if_neg (by simpa [State.windowBad] using h), if_pos (by simp [hw, hr])]

theorem State.applyWindow_of_widens {e w : Nat} (h : ¬ s.windowBad c w) (hn : ¬ s.windowNarrows c e w) :
    s.applyWindow c e w = s.updCtx c (fun x => { x with
      windows := SMap.set 0 x.windows e w, heldWindows := SMap.set 0 x.heldWindows e 0
      heldWindowOn := SMap.set false x.heldWindowOn e false }) := by
  rw [State.applyWindow, if_neg (by simpa [State.windowBad] using h), if_neg (by simpa [State.windowNarrows] using hn)]

theorem State.onlyContexts_applyWindow (e w : Nat) : s.OnlyContexts (s.applyWindow c e w) := by
  by_cases hb : s.windowBad c w
  · rw [State.applyWindow_of_bad hb]
    exact rfl
  · by_cases hn : s.windowNarrows c e w
    · rw [State.applyWindow_of_narrows hb hn]
      exact State.onlyContexts_updCtx ..
    · rw [State.applyWindow_of_widens hb hn]
      exact State.onlyContexts_updCtx ..

/-- What context `c`'s entry `e` is staged as once `bytes` have been written from `off` on (R221). -/
def State.stagedWindow (s : State) (c e off : Nat) (bytes : List Nat) : Nat :=
  putBytes (if SMap.get false (s.ctx c).stagingOn e then SMap.get 0 (s.ctx c).staging e else SMap.get 0 (s.ctx c).windows e) off
    (bytes.take (16 - off))

/-- The state with nothing staged for entry `e` of context `c`. -/
def State.unstaged (s : State) (c e : Nat) : State :=
  s.updCtx c (fun x => { x with staging := SMap.set 0 x.staging e 0, stagingOn := SMap.set false x.stagingOn e false })

theorem State.ctx_unstaged (s : State) (c e : Nat) : (s.unstaged c e).ctx c = { s.ctx c with
    staging := SMap.set 0 (s.ctx c).staging e 0, stagingOn := SMap.set false (s.ctx c).stagingOn e false } := State.ctx_updCtx ..

theorem State.windowBad_unstaged {e w : Nat} : (s.unstaged c e).windowBad c w ↔ s.windowBad c w := State.windowBad_updCtx w

theorem State.windowNarrows_unstaged {e w : Nat} : (s.unstaged c e).windowNarrows c e w ↔ s.windowNarrows c e w := by
  simp [State.windowNarrows, State.ctx_unstaged]

theorem State.writeWindow_of_part {e off : Nat} {bytes : List Nat} (h : ¬ 15 < off + bytes.length) :
    s.writeWindow c e off bytes = s.updCtx c (fun x => { x with
      staging := SMap.set 0 x.staging e (s.stagedWindow c e off bytes), stagingOn := SMap.set false x.stagingOn e true }) := by
  rw [State.writeWindow, if_neg (fun hw => h hw.2)]
  rfl

theorem State.writeWindow_of_whole {e off : Nat} {bytes : List Nat} (ho : off < 16) (h : 15 < off + bytes.length) :
    s.writeWindow c e off bytes = (s.unstaged c e).applyWindow c e (winMask (s.stagedWindow c e off bytes)) := by
  rw [State.writeWindow, if_pos ⟨by omega, h⟩]
  rfl

theorem State.onlyContexts_writeWindow (e : Nat) {off : Nat} (bytes : List Nat) (ho : off < 16) :
    s.OnlyContexts (s.writeWindow c e off bytes) := by
  by_cases h : 15 < off + bytes.length
  · rw [State.writeWindow_of_whole ho h]
    exact (State.onlyContexts_updCtx ..).trans (State.onlyContexts_applyWindow ..)
  · rw [State.writeWindow_of_part h]
    exact State.onlyContexts_updCtx ..

-- ---------------------------------------------------------------- tile grants (R369)

/-- Whether the grant of slots `m` and tiles `g` to context `c` would meet another user context's. -/
def State.GrantMeets (s : State) (c m : Nat) (g : SMap Nat) : Prop :=
  c ≠ 0 ∧ ∃ j, 1 ≤ j ∧ j < 16 ∧ j ≠ c ∧ grantsOverlap m (s.ctx j).slotMask g (s.ctx j).tiles = true

theorem State.grantMeets_iff (m : Nat) (g : SMap Nat) : s.GrantMeets c m g ↔
    c ≠ 0 ∧ (List.range 15).any (fun j => j + 1 != c && grantsOverlap m (s.ctx (j + 1)).slotMask g (s.ctx (j + 1)).tiles) = true := by
  simp only [State.GrantMeets, List.any_eq_true, List.mem_range, Bool.and_eq_true, bne_iff_ne]
  refine and_congr_right fun _ => ⟨?_, ?_⟩
  · rintro ⟨j, h1, h2, hne, ho⟩
    obtain ⟨i, rfl⟩ : ∃ i, j = i + 1 := ⟨j - 1, by omega⟩
    exact ⟨i, by omega, hne, ho⟩
  · rintro ⟨i, hi, hne, ho⟩
    exact ⟨i + 1, by omega, by omega, hne, ho⟩

theorem Ctx.grantKept_fst (x : Ctx) : x.grantKept.1 =
    if x.st = .active then x.slotMask else x.slotMask - (x.slotMask &&& x.heldSlots.getD x.slotMask) := by
  unfold Ctx.grantKept
  split <;> rfl

theorem Ctx.grantKept_snd (x : Ctx) : x.grantKept.2 =
    if x.st = .active then x.tiles else grantMinus x.tiles (x.heldTiles.getD x.tiles) := by
  unfold Ctx.grantKept
  split <;> rfl

/-- The slots that a write of `value` to register `which` of a context's grant asks for. -/
def Ctx.askedSlots (x : Ctx) (which value : Nat) : Nat := if which = 0 then fld value 0 4 else x.heldSlots.getD x.slotMask

/-- The tiles that a write of `value` to register `which` of a context's grant asks for. -/
def Ctx.askedTiles (x : Ctx) (which value : Nat) : SMap Nat :=
  if which = 0 then x.heldTiles.getD x.tiles else SMap.set 0 (x.heldTiles.getD x.tiles) (which - 1) (fld value 0 288)

/-- The context once a write of its grant is in force. -/
def Ctx.regranted (x : Ctx) (which value : Nat) : Ctx :=
  let m := x.askedSlots which value
  let g := x.askedTiles which value
  let m1 := x.grantKept.1 ||| m
  let g1 := grantJoin x.grantKept.2 g
  { x with
    tiles := g1
    slotMask := m1
    heldTiles := if grantRemoves m1 m g1 g then some g else none
    heldSlots := if grantRemoves m1 m g1 g then some m else none }

theorem State.writeGrant_of_refused {which v : Nat}
    (h : s.GrantMeets c ((s.ctx c).regranted which v).slotMask ((s.ctx c).regranted which v).tiles
      ∨ (which ≠ 0 ∧ s.diePresent (which - 1) = false)) :
    s.writeGrant c which v = s := by
  by_cases habs : which ≠ 0 ∧ (!s.diePresent (which - 1)) = true
  · exact if_pos habs
  · have hmeets := h.resolve_right (by simpa using habs)
    exact (if_neg habs).trans (if_pos ((State.grantMeets_iff _ _).1 hmeets))

theorem State.writeGrant_of_taken {which v : Nat}
    (h : ¬ s.GrantMeets c ((s.ctx c).regranted which v).slotMask ((s.ctx c).regranted which v).tiles)
    (hd : which = 0 ∨ s.diePresent (which - 1) = true) :
    s.writeGrant c which v = s.updCtx c (fun x => x.regranted which v) := by
  have habs : ¬ (which ≠ 0 ∧ (!s.diePresent (which - 1)) = true) := by
    rcases hd with hd | hd <;> simp [hd]
  exact (if_neg habs).trans (if_neg (mt (State.grantMeets_iff _ _).2 h))

theorem State.onlyContexts_writeGrant (which v : Nat) : s.OnlyContexts (s.writeGrant c which v) := by
  by_cases h : s.GrantMeets c ((s.ctx c).regranted which v).slotMask ((s.ctx c).regranted which v).tiles
      ∨ (which ≠ 0 ∧ s.diePresent (which - 1) = false)
  · rw [State.writeGrant_of_refused h]
    exact rfl
  · have hd : which = 0 ∨ s.diePresent (which - 1) = true :=
      Decidable.or_iff_not_imp_left.2 fun hw => Bool.of_not_eq_false fun hf => h (.inr ⟨hw, hf⟩)
    rw [State.writeGrant_of_taken (fun hm => h (.inl hm)) hd]
    exact State.onlyContexts_updCtx ..

-- ---------------------------------------------------------------- the clauses

theorem execCtxWindowWrite_spec (s : State) {c e off : Nat} (bytes : List Nat) (hc : c < 16) (he : e < 32) (ho : off < 16) :
    let w := winMask (s.stagedWindow c e off bytes)
    ∃ t, exec (.ctxWindowWrite c e off bytes) s = .next t ∧ s.OnlyContexts t
      ∧ (¬ 15 < off + bytes.length → (t.ctx c).windows = (s.ctx c).windows
        ∧ SMap.get 0 (t.ctx c).staging e = s.stagedWindow c e off bytes)
      ∧ (15 < off + bytes.length → s.windowBad c w → (t.ctx c).windows = (s.ctx c).windows)
      ∧ (15 < off + bytes.length → ¬ s.windowBad c w → s.windowNarrows c e w → (t.ctx c).windows = (s.ctx c).windows
        ∧ SMap.get 0 (t.ctx c).heldWindows e = w ∧ SMap.get false (t.ctx c).heldWindowOn e = true)
      ∧ (15 < off + bytes.length → ¬ s.windowBad c w → ¬ s.windowNarrows c e w →
        SMap.get 0 (t.ctx c).windows e = w ∧ SMap.get false (t.ctx c).heldWindowOn e = false) := by
  intro w
  refine ⟨s.writeWindow c e off bytes, if_pos ⟨hc, he, ho⟩, State.onlyContexts_writeWindow e bytes ho, fun hp => ?_, fun hw hb => ?_,
    fun hw hb hn => ?_, fun hw hb hn => ?_⟩
  · simp [State.writeWindow_of_part hp]
  · rw [State.writeWindow_of_whole ho hw, State.applyWindow_of_bad (State.windowBad_unstaged.2 hb), State.ctx_unstaged]
  · rw [State.writeWindow_of_whole ho hw,
      State.applyWindow_of_narrows (mt State.windowBad_unstaged.1 hb) (State.windowNarrows_unstaged.2 hn)]
    simp [State.ctx_unstaged, w]
  · rw [State.writeWindow_of_whole ho hw,
      State.applyWindow_of_widens (mt State.windowBad_unstaged.1 hb) (mt State.windowNarrows_unstaged.1 hn)]
    simp [w]

theorem execGrantWrite_spec (s : State) {c which : Nat} (v : Nat) (hc : c < 16) (hw : which < 3) :
    ∃ t, exec (.grantWrite c which v) s = .next t ∧ s.OnlyContexts t
      ∧ (s.GrantMeets c ((s.ctx c).regranted which v).slotMask ((s.ctx c).regranted which v).tiles
        ∨ (which ≠ 0 ∧ s.diePresent (which - 1) = false) → t = s)
      ∧ (¬ s.GrantMeets c ((s.ctx c).regranted which v).slotMask ((s.ctx c).regranted which v).tiles →
        (which = 0 ∨ s.diePresent (which - 1) = true) → t.ctx c = (s.ctx c).regranted which v) := by
  refine ⟨s.writeGrant c which v, if_pos ⟨hc, hw⟩, State.onlyContexts_writeGrant .., State.writeGrant_of_refused, fun h hd => ?_⟩
  rw [State.writeGrant_of_taken h hd, State.ctx_updCtx]

theorem execBankZeroDone_spec (s : State) {die tile bank : Nat} (h : ((s.tile die tile).bank bank).zeroing = true) :
    exec (.bankZeroDone die tile bank) s = .next (s.bankZeroed die tile bank).hostDrainAll := by
  simp [exec, execBankZeroDone, h]

end Sys2Proof.Machine

open Sys2Proof Sys2Proof.Machine in
/-- Settles O25, a clause from the lemma about each of the four writes: a bank's byte by induction on the bytes written, a window by
whether the write fills the entry and what the entry would do, a grant by whether it is refused. -/
theorem banksWindowsAndGrantsTakeEffect : Obligations.BanksWindowsAndGrantsTakeEffect := by
  refine ⟨fun s die tile off bytes h => if_neg h, fun s die tile off bytes hp hd => ?_, fun s die tile bank h => ?_,
    fun s c e off bytes hc he ho => execCtxWindowWrite_spec s bytes hc he ho, fun s c which v hc hw => ?_⟩
  · obtain ⟨hrest, hin, hout⟩ := State.writeBankOwner_written die tile bytes s off
    exact ⟨_, if_pos ⟨hp, hd⟩, hrest, hin, hout⟩
  · intro a
    refine ⟨execBankZeroDone_spec s h, fun h0 h1 => ⟨s.bankZeroed die tile bank, ?_, State.bank_bankZeroed .., fun k hk => ?_,
      fun k hk => ?_⟩⟩
    · have hdrain : (s.bankZeroed die tile bank).hostDrainAll = s.bankZeroed die tile bank := State.hostDrainAll_of_none h0 h1
      rw [execBankZeroDone_spec s h, hdrain]
    · rw [State.memByte_bankZeroed, if_pos ⟨by omega, by omega⟩]
    · rw [State.memByte_bankZeroed, if_neg (by omega)]
  · have hspec := execGrantWrite_spec s v hc hw
    simp only [Ctx.regranted, Ctx.grantKept_fst, Ctx.grantKept_snd] at hspec
    exact hspec
end

section
/-! PROOFS. The operations on dictionary objects (R580 to R585, R590, R592): the answer of each case, and what a write of an element
stores. -/

namespace Sys2Proof.Machine

-- ---------------------------------------------------------------- the bytes of a value

theorem length_leBytes (n : Nat) : ∀ v, (leBytes n v).length = n := by
  induction n with
  | zero => exact fun v => rfl
  | succ n ih => exact fun v => by simp [leBytes, ih]

theorem leVal_leBytes (n : Nat) : ∀ v, v < 256 ^ n → leVal (leBytes n v) = v := by
  induction n with
  | zero => intro v hv; simp [leBytes, leVal] at hv ⊢; omega
  | succ n ih =>
    intro v hv
    rw [leBytes, leVal, ih _ (Nat.div_lt_of_lt_mul (by rwa [Nat.pow_succ'] at hv))]
    omega

theorem elemsOf_one {w : Nat} {bs : List Nat} (h : bs.length = w) (hw : 0 < w) : elemsOf w 1 bs = [leVal bs] := by
  cases bs with
  | nil => simp at h; omega
  | cons b bs => simp [elemsOf, ← h]

variable {s : State} {p w i sb ty off len : Nat} {data : List Nat} {r : ObjRow}

theorem State.length_elemBytes (s : State) (r : ObjRow) (lo n : Nat) : (s.elemBytes r lo n).length = n * r.bytes := by
  have hlen : (List.length ∘ fun i => leBytes r.bytes (s.elemVal r (lo + i))) = fun _ => r.bytes :=
    funext fun i => length_leBytes r.bytes _
  rw [State.elemBytes, List.length_flatten, List.map_map, hlen, List.map_const', List.length_range, List.sum_replicate_nat]

theorem State.length_objBytes (s : State) (r : ObjRow) : (s.objBytes r).length = s.rowSize r := by
  rw [State.objBytes, State.length_elemBytes, State.rowSize, Nat.mul_comm]

-- ---------------------------------------------------------------- the answers (R580, R582, R584)

theorem exec_dfGet (h : s.ctrlRuns = true) : exec (.dfGet p w i sb) s =
    .next (s.emit (.dfAnswer (s.dfGet p w i sb (bodyMax w - 12)).1.code (s.dfGet p w i sb (bodyMax w - 12)).2)) := if_pos h

theorem exec_dfSet (h : s.ctrlRuns = true) : exec (.dfSet p w i sb ty data) s =
    .next ((s.dfSet p w i sb ty data).1.emit (.dfAnswer (s.dfSet p w i sb ty data).2.code [])) := if_pos h

theorem exec_dfGetSeg (h : s.ctrlRuns = true) : exec (.dfGetSeg p w i sb off len) s =
    .next ((s.dfGetSeg p w i sb off len (bodyMax w - 12)).1.emit (.dfAnswer (s.dfGetSeg p w i sb off len (bodyMax w - 12)).2.1.code
      (s.dfGetSeg p w i sb off len (bodyMax w - 12)).2.2)) := if_pos h

theorem exec_dfSetSeg (h : s.ctrlRuns = true) : exec (.dfSetSeg p w i sb ty off data) s =
    .next ((s.dfSetSeg p w i sb ty off data).1.emit (.dfAnswer (s.dfSetSeg p w i sb ty off data).2.code [])) := if_pos h

theorem exec_dfDescribe (h : s.ctrlRuns = true) : exec (.dfDescribe p i sb) s =
    .next (s.emit (.dfAnswer (s.dfDescribe i sb).1.code (s.dfDescribe i sb).2)) := if_pos h

/-- What an object that is absent answers, whatever the operation. -/
theorem exec_absent (h : s.ctrlRuns = true) (hr : objRow? i sb = none) :
    ∀ c ∈ [Instr.dfGet p w i sb, .dfSet p w i sb ty data, .dfGetSeg p w i sb off len, .dfSetSeg p w i sb ty off data,
        .dfDescribe p i sb],
      exec c s = .next (s.emit (.dfAnswer 1 [])) := by
  simp only [List.forall_mem_cons, List.not_mem_nil, false_implies, implies_true, and_true]
  refine ⟨?_, ?_, ?_, ?_, ?_⟩
  · simp [exec_dfGet h, State.dfGet, hr, DfResult.code]
  · simp [exec_dfSet h, State.dfSet, hr, DfResult.code]
  · simp [exec_dfGetSeg h, State.dfGetSeg, hr, DfResult.code]
  · simp [exec_dfSetSeg h, State.dfSetSeg, hr, DfResult.code]
  · simp [exec_dfDescribe h, State.dfDescribe, hr, DfResult.code]

section
variable (h : s.ctrlRuns = true) (hr : objRow? i sb = some r)
include h hr

theorem exec_read_writeOnly (hacc : r.acc = 3) :
    ∀ c ∈ [Instr.dfGet p w i sb, .dfGetSeg p w i sb off len], exec c s = .next (s.emit (.dfAnswer 2 [])) := by
  simp only [List.forall_mem_cons, List.not_mem_nil, false_implies, implies_true, and_true]
  refine ⟨?_, ?_⟩
  · simp [exec_dfGet h, State.dfGet, hr, hacc, DfResult.code]
  · simp [exec_dfGetSeg h, State.dfGetSeg, hr, hacc, DfResult.code]

theorem exec_write_readOnly (hacc : r.acc < 2) :
    ∀ c ∈ [Instr.dfSet p w i sb ty data, .dfSetSeg p w i sb ty off data], exec c s = .next (s.emit (.dfAnswer 2 [])) := by
  simp only [List.forall_mem_cons, List.not_mem_nil, false_implies, implies_true, and_true]
  refine ⟨?_, ?_⟩
  · simp [exec_dfSet h, State.dfSet, hr, hacc, DfResult.code]
  · simp [exec_dfSetSeg h, State.dfSetSeg, hr, hacc, DfResult.code]

theorem exec_read_unprivileged (hacc : r.acc ≠ 3) (hp : p < r.readPriv) :
    ∀ c ∈ [Instr.dfGet p w i sb, .dfGetSeg p w i sb off len], exec c s = .next (s.emit (.dfAnswer 3 [])) := by
  simp only [List.forall_mem_cons, List.not_mem_nil, false_implies, implies_true, and_true]
  refine ⟨?_, ?_⟩
  · simp [exec_dfGet h, State.dfGet, hr, hacc, hp, DfResult.code]
  · simp [exec_dfGetSeg h, State.dfGetSeg, hr, hacc, hp, DfResult.code]

theorem exec_dfSet_unprivileged (hacc : 2 ≤ r.acc) (hp : p < r.priv) :
    exec (.dfSet p w i sb ty data) s = .next (s.emit (.dfAnswer 3 [])) := by
  simp [exec_dfSet h, State.dfSet, hr, Nat.not_lt.2 hacc, hp, DfResult.code]

theorem exec_dfSet_badType (hacc : 2 ≤ r.acc) (hp : r.priv ≤ p) (ht : ty ≠ r.ty ∨ data.length ≠ s.rowSize r) :
    exec (.dfSet p w i sb ty data) s = .next (s.emit (.dfAnswer 4 [])) := by
  simp only [exec_dfSet h, State.dfSet, hr, if_neg (Nat.not_lt.2 hacc), if_neg (Nat.not_lt.2 hp), if_pos ht, DfResult.code]

theorem exec_dfGet_value (hacc : r.acc ≠ 3) (hp : r.readPriv ≤ p) (hroom : pad4 (s.rowSize r) ≤ bodyMax w - 12) :
    exec (.dfGet p w i sb) s = .next (s.emit (.dfAnswer 0 (maskVf w r 0 (s.objBytes r)))) := by
  simp [exec_dfGet h, State.dfGet, hr, hacc, Nat.not_lt.2 hp, Nat.not_lt.2 hroom, DfResult.code]

theorem exec_dfGet_tooBig (hacc : r.acc ≠ 3) (hp : r.readPriv ≤ p) (hroom : bodyMax w - 12 < pad4 (s.rowSize r)) :
    exec (.dfGet p w i sb) s = .next (s.emit (.dfAnswer 7 [])) := by
  simp [exec_dfGet h, State.dfGet, hr, hacc, Nat.not_lt.2 hp, hroom, DfResult.code]

theorem exec_dfGetSeg_notBlob (hacc : r.acc ≠ 3) (hp : r.readPriv ≤ p) (h9 : r.ty ≠ 9) (h10 : r.ty ≠ 10) :
    exec (.dfGetSeg p w i sb off len) s = .next (s.emit (.dfAnswer 4 [])) := by
  simp [exec_dfGetSeg h, State.dfGetSeg, hr, hacc, Nat.not_lt.2 hp, h9, h10, DfResult.code]

theorem exec_dfDescribe_row : exec (.dfDescribe p i sb) s = .next (s.emit (.dfAnswer 0 (leBytes 8 (at_ 32 32 (s.rowSize r)
    + at_ 16 16 (if r.ty = 9 ∧ r.count ≠ 1 then r.bytes else 0) + at_ 8 8 r.ty + at_ 4 4 r.acc + at_ 0 2 r.priv)))) := by
  simp only [exec_dfDescribe h, State.dfDescribe, hr, DfResult.code]

section
variable (hacc : r.acc ≠ 3) (hp : r.readPriv ≤ p) (ht : r.ty = 9 ∨ r.ty = 10) (hroom : pad4 (8 + len) ≤ bodyMax w - 12)
  (hoff : off % r.bytes = 0) (hlen : len % r.bytes = 0)
include hacc hp ht hroom hoff hlen

theorem exec_dfGetSeg_live (hbig : 2 ^ 20 < s.rowSize r) (hend : off + len ≤ s.rowSize r) :
    exec (.dfGetSeg p w i sb off len) s = .next (s.emit (.dfAnswer 0
      (segPrefix (s.rowSize r) 0 false ++ maskVf w r off (s.elemBytes r (off / r.bytes) (len / r.bytes))))) := by
  have hblob : ¬ (r.ty ≠ 9 ∧ r.ty ≠ 10) := by omega
  have helem : ¬ (off % r.bytes ≠ 0 ∨ len % r.bytes ≠ 0) := by omega
  simp only [exec_dfGetSeg h, State.dfGetSeg, hr, if_neg hacc, if_neg (Nat.not_lt.2 hp), if_neg hblob,
    if_neg (Nat.not_lt.2 hroom), if_neg helem, if_pos hbig, if_neg (Nat.not_lt.2 hend), DfResult.code]

theorem exec_dfGetSeg_snapshot (hsmall : s.rowSize r ≤ 2 ^ 20) (hend : len ≤ (s.objBytes r).length) (h0 : off = 0) :
    exec (.dfGetSeg p w i sb off len) s = .next ((s.takeSnap w r).1.emit (.dfAnswer 0
      (segPrefix (s.objBytes r).length (s.mgmt.nextSnap + 1).toNat true ++ maskVf w r 0 ((s.objBytes r).take len)))) := by
  subst h0
  have hblob : ¬ (r.ty ≠ 9 ∧ r.ty ≠ 10) := by omega
  have helem : ¬ (0 % r.bytes ≠ 0 ∨ len % r.bytes ≠ 0) := by omega
  have hfits : ¬ s.rowSize r < len := by rw [State.length_objBytes] at hend; omega
  have hcut : ¬ (s.objBytes r).length < 0 + len := by omega
  simp only [exec_dfGetSeg h, State.dfGetSeg, hr, if_neg hacc, if_neg (Nat.not_lt.2 hp), if_neg hblob,
    if_neg (Nat.not_lt.2 hroom), if_neg helem, if_neg (Nat.not_lt.2 hsmall), true_and, if_neg hfits, if_true, State.takeSnap, if_neg hcut,
    List.drop_zero, DfResult.code]

end
end

end Sys2Proof.Machine
end

section
/-! PROOFS. Writes of dictionary elements: what is stored, and what is owed to module flash (R580, R584, R592, R564). -/

namespace Sys2Proof.Machine

variable {s : State} {p w i sb ty el v : Nat} {r : ObjRow}

-- ---------------------------------------------------------------- the stored value (R592)

theorem State.putObj_eq (s : State) (i sb el v : Nat) :
    s.putObj i sb el v = { s.setObj i sb el v with flash := (s.putObj i sb el v).flash } := by
  unfold State.putObj
  dsimp only
  repeat' split
  all_goals rfl

theorem State.obj_putObj (s : State) (i sb el v : Nat) : (s.putObj i sb el v).obj i sb el = v :=
  (congrArg (fun t => t.obj i sb el) (s.putObj_eq i sb el v)).trans (State.obj_setObj s i sb el v)

theorem State.obj_setObj_other (s : State) {k : Nat} (i sb v : Nat) (h : k ≠ el) :
    (s.setObj i sb el v).obj i sb k = s.obj i sb k := by
  unfold State.setObj State.obj
  dsimp only
  rw [SMap.get_set_other _ _ (show okey i sb k ≠ okey i sb el by unfold okey; omega)]

theorem State.obj_putObj_other (s : State) {k : Nat} (i sb v : Nat) (h : k ≠ el) :
    (s.putObj i sb el v).obj i sb k = s.obj i sb k :=
  (congrArg (fun t => t.obj i sb k) (s.putObj_eq i sb el v)).trans (s.obj_setObj_other i sb v h)

theorem State.mem_putObj (s : State) (i sb el v : Nat) : (s.putObj i sb el v).mem = s.mem :=
  congrArg (fun t => t.mem) (s.putObj_eq i sb el v)

theorem State.out_putObj (s : State) (i sb el v : Nat) : (s.putObj i sb el v).out = s.out :=
  congrArg (fun t => t.out) (s.putObj_eq i sb el v)

theorem State.out_emit_putObj (s : State) (i sb el v : Nat) (o : Output) : ((s.putObj i sb el v).emit o).out = o :: s.out :=
  congrArg (o :: ·) (s.out_putObj i sb el v)

theorem State.dirty_putObj {o : ObjDef} (ho : objDef? i sb = some o) (hp : o.persist = true) (el v : Nat) :
    SMap.get false (s.putObj i sb el v).flash.dirty (okey i sb el) = true := by
  simp [State.putObj, ho, hp]

-- ---------------------------------------------------------------- writing one element

theorem State.writeElems_one (hp : s.elemPresent r.index r.sub el = true) (hok : elemOk r.index r.sub el v = true)
    (hw : r.index ≠ 0x5024) : s.writeElems r el [v] =
      ((s.applyElem r.index r.sub el v).1, if (s.applyElem r.index r.sub el v).2 then .ok else .notApplied) := by
  simp [State.writeElems, numbered, hp, hok, State.wholeOk, hw]

theorem State.writeElems_one_range (hp : s.elemPresent r.index r.sub el = true) (hok : elemOk r.index r.sub el v = false) :
    s.writeElems r el [v] = (s, .range) := by
  simp [State.writeElems, numbered, hp, hok]

/-- An object of one number of `n` bytes from `lo` to `hi`, that an ADMIN may write, that no rule but its range bears on, and that
is owed to flash. -/
structure PlainScalar (i sb ty n lo hi : Nat) : Prop where
  row : ∃ name acc priv, objRow? i sb = some ⟨name, i, sb, ty, n, 1, acc, priv⟩ ∧ 2 ≤ acc ∧ priv ≤ 2
  notKey : i ≠ 0x1022
  notShared : i ≠ 0x5024
  size : 0 < n
  fits : hi < 256 ^ n
  present : ∀ s : State, s.elemPresent i sb 0 = true
  range : ∀ v, elemOk i sb 0 v = (decide (lo ≤ v) && decide (v ≤ hi))
  stores : ∀ (s : State) v, s.applyElem i sb 0 v = (s.putObj i sb 0 v, true)
  persists : ∃ o, objDef? i sb = some o ∧ o.persist = true

/-- The objects that the obligation names are such. -/
theorem plainScalar_of_mem : ∀ o ∈ [(0x1012, 0, 2, 1, 0, 2), (0x1021, 1, 3, 2, 5, 1000), (0x1021, 2, 2, 1, 1, 8),
    (0x3010, 1, 2, 1, 0, 2), (0x6033, 0, 4, 4, 100, 3600000)],
    PlainScalar o.1 o.2.1 o.2.2.1 o.2.2.2.1 o.2.2.2.2.1 o.2.2.2.2.2 := by
  simp only [List.forall_mem_cons, List.not_mem_nil, false_implies, implies_true, and_true]
  refine ⟨?_, ?_, ?_, ?_, ?_⟩ <;>
  exact {
    row := ⟨_, _, _, rfl, by decide, by decide⟩
    notKey := by decide
    notShared := by decide
    size := by decide
    fits := by decide
    present := fun _ => rfl
    range := fun _ => rfl
    stores := fun _ _ => rfl
    persists := ⟨_, rfl, rfl⟩ }

section
variable {n lo hi : Nat} (ho : PlainScalar i sb ty n lo hi)
include ho

theorem PlainScalar.writeElems_eq (hidx : r.index = i) (hsb : r.sub = sb) (v : Nat) :
    s.writeElems r 0 [v] = if lo ≤ v ∧ v ≤ hi then (s.putObj i sb 0 v, .ok) else (s, .range) := by
  subst hidx hsb
  by_cases hr : lo ≤ v ∧ v ≤ hi
  · rw [if_pos hr, State.writeElems_one (ho.present s) (by simp [ho.range, hr]) ho.notShared, ho.stores]
    rfl
  · rw [if_neg hr, State.writeElems_one_range (ho.present s) (by simpa [ho.range] using hr)]

theorem PlainScalar.elemsOf_eq (hv : v < 256 ^ n) : elemsOf n 1 (leBytes n v) = [v] := by
  rw [elemsOf_one (length_leBytes n v) ho.size, leVal_leBytes n v hv]

theorem PlainScalar.dfSet_eq (hv : v < 256 ^ n) (w : Nat) : s.dfSet 2 w i sb ty (leBytes n v) =
    if lo ≤ v ∧ v ≤ hi then (s.putObj i sb 0 v, .ok) else (s, .range) := by
  obtain ⟨name, acc, priv, hrow, hacc, hpriv⟩ := ho.row
  have hsize : s.rowSize ⟨name, i, sb, ty, n, 1, acc, priv⟩ = (leBytes n v).length := by
    simp [State.rowSize, State.rowCount, length_leBytes]
  simp only [State.dfSet, hrow, if_neg (Nat.not_lt.2 hacc), if_neg (Nat.not_lt.2 hpriv), hsize, ne_eq, not_true, or_self, if_false,
    ho.notKey, ho.elemsOf_eq hv]
  exact ho.writeElems_eq rfl rfl v

theorem PlainScalar.exec_dfSet_inRange (hs : s.ctrlRuns = true) (hlo : lo ≤ v) (hhi : v ≤ hi) :
    ∃ t, exec (.dfSet 2 w i sb ty (leBytes n v)) s = .next t ∧ t.mem = s.mem ∧ t.obj i sb 0 = v
      ∧ t.out = .dfAnswer 0 [] :: s.out ∧ SMap.get false t.flash.dirty (okey i sb 0) = true := by
  obtain ⟨o, hdef, hpersist⟩ := ho.persists
  refine ⟨(s.putObj i sb 0 v).emit (.dfAnswer 0 []), ?_, State.mem_putObj .., State.obj_putObj .., State.out_emit_putObj ..,
    State.dirty_putObj hdef hpersist 0 v⟩
  rw [exec_dfSet hs, ho.dfSet_eq (Nat.lt_of_le_of_lt hhi ho.fits) w, if_pos ⟨hlo, hhi⟩]
  rfl

theorem PlainScalar.exec_dfSet_outOfRange (hs : s.ctrlRuns = true) (hv : v < 256 ^ n) (hr : v < lo ∨ hi < v) :
    exec (.dfSet 2 w i sb ty (leBytes n v)) s = .next (s.emit (.dfAnswer 5 [])) := by
  rw [exec_dfSet hs, ho.dfSet_eq hv w, if_neg (by omega)]
  rfl

end

-- ---------------------------------------------------------------- CHECK_LEVEL (R564)

/-- The row of CHECK_LEVEL. -/
def checkLevelRow : ObjRow := ⟨"CHECK_LEVEL", 0x3011, 1, 9, 1, 16, 4, 1⟩

theorem objRow_checkLevel : objRow? 0x3011 1 = some checkLevelRow := rfl

theorem State.writeElems_checkLevel (s : State) (c v : Nat) :
    s.writeElems checkLevelRow c [v] = if v ≤ 4 then (s.putObj 0x3011 1 c v, .ok) else (s, .range) := by
  have hok : elemOk 0x3011 1 c v = (decide (0 ≤ v) && decide (v ≤ 4)) := rfl
  by_cases h4 : v ≤ 4
  · rw [if_pos h4, State.writeElems_one rfl (by simpa [checkLevelRow, hok] using h4) (by decide)]
    rfl
  · rw [if_neg h4, State.writeElems_one_range rfl (by simpa [checkLevelRow, hok] using h4)]

/-- Whether the `n` entries of an object from `first` on are a requester's own: it is the function that carries their context. -/
def ownsEntries (w : Nat) (r : ObjRow) (first n : Nat) : Bool :=
  match vfOf w with
  | none => false
  | some c => decide (0 < n) && (List.range n).all (fun i => elemCtx r.index r.sub (first + i) == some c)

/-- SET_SEG of whole elements that lie in a BLOB goes by the privilege alone (R564, R584). -/
theorem State.dfSetSeg_of_elements {off : Nat} {data : List Nat} (hr : objRow? i sb = some r) (hacc : ¬ (r.acc < 2 ∨ r.ty ≠ 9))
    (hty : ¬ ty ≠ r.ty) (hseg : ¬ (off % r.bytes ≠ 0 ∨ data.length % r.bytes ≠ 0 ∨ s.rowSize r < off + data.length)) :
    s.dfSetSeg p w i sb ty off data =
      if (if ownsEntries w r (off / r.bytes) (data.length / r.bytes) then max p 1 else p) < r.priv then (s, .privilege)
      else s.writeElems r (off / r.bytes) (elemsOf r.bytes (data.length / r.bytes) data) := by
  simp only [State.dfSetSeg, hr, if_neg hacc, if_neg hty, if_neg hseg]
  rfl

theorem ownsEntries_checkLevel (w c : Nat) : ownsEntries w checkLevelRow c 1 = true ↔ vfOf w = some c := by
  unfold ownsEntries
  cases vfOf w with
  | none => exact ⟨nofun, nofun⟩
  | some d =>
    have hctx : elemCtx checkLevelRow.index checkLevelRow.sub (c + 0) = some c := rfl
    show (true && ((elemCtx checkLevelRow.index checkLevelRow.sub (c + 0) == some d) && true)) = true ↔ some d = some c
    rw [hctx, Bool.true_and, Bool.and_true, beq_iff_eq]
    exact eq_comm

/-- A requester below OPERATE writes the entry of the context it carries alone. -/
theorem State.dfSetSeg_checkLevel {c : Nat} (hc : c < 16) (v : Nat) : s.dfSetSeg p w 0x3011 1 9 c [v] =
    if p = 0 ∧ vfOf w ≠ some c then (s, .privilege) else s.writeElems checkLevelRow c [v] := by
  have hseg : ¬ (c % 1 ≠ 0 ∨ 1 % 1 ≠ 0 ∨ 16 < c + 1) := by omega
  have hfirst : c / checkLevelRow.bytes = c := Nat.div_one c
  have hcount : [v].length / checkLevelRow.bytes = 1 := Nat.div_one 1
  have hpriv : checkLevelRow.priv = 1 := rfl
  have hval : elemsOf checkLevelRow.bytes 1 [v] = [v] := rfl
  rw [State.dfSetSeg_of_elements objRow_checkLevel (by decide) (by decide) hseg, hfirst, hcount, hval, hpriv]
  by_cases hown : vfOf w = some c
  · rw [if_pos ((ownsEntries_checkLevel w c).2 hown), if_neg (by omega), if_neg (fun h => h.2 hown)]
  · rw [if_neg (mt (ownsEntries_checkLevel w c).1 hown)]
    by_cases hp : p = 0
    · rw [if_pos (by omega), if_pos ⟨hp, hown⟩]
    · rw [if_neg (by omega), if_neg (fun h => hp h.1)]

theorem vfOf_function {c : Nat} (q : Nat) (h1 : 1 ≤ c) (hc : c < 16) : vfOf (16 + 16 * q + c) = some c := by
  have hmod : (16 + 16 * q + c) % 16 = c := by omega
  rw [vfOf, hmod, if_pos ⟨by omega, by omega⟩]

theorem exec_dfSetSeg_checkLevel {c : Nat} (hs : s.ctrlRuns = true) (hc : c < 16) (hp : 1 ≤ p ∨ vfOf w = some c) (hv : v ≤ 4) :
    exec (.dfSetSeg p w 0x3011 1 9 c [v]) s = .next ((s.putObj 0x3011 1 c v).emit (.dfAnswer 0 [])) := by
  have hpriv : ¬ (p = 0 ∧ vfOf w ≠ some c) := fun ⟨h0, hne⟩ => hp.elim (fun h => by omega) hne
  rw [exec_dfSetSeg hs, State.dfSetSeg_checkLevel hc, if_neg hpriv, State.writeElems_checkLevel, if_pos hv]
  rfl

theorem exec_dfSetSeg_checkLevel_range {c : Nat} (hs : s.ctrlRuns = true) (hc : c < 16) (hp : 1 ≤ p) (hv : 4 < v) :
    exec (.dfSetSeg p w 0x3011 1 9 c [v]) s = .next (s.emit (.dfAnswer 5 [])) := by
  rw [exec_dfSetSeg hs, State.dfSetSeg_checkLevel hc, if_neg (fun h => by omega), State.writeElems_checkLevel,
    if_neg (Nat.not_le.2 hv)]
  rfl

theorem exec_dfSetSeg_checkLevel_other {c : Nat} (hs : s.ctrlRuns = true) (hc : c < 16) (hvf : vfOf w ≠ some c) :
    exec (.dfSetSeg 0 w 0x3011 1 9 c [v]) s = .next (s.emit (.dfAnswer 3 [])) := by
  rw [exec_dfSetSeg hs, State.dfSetSeg_checkLevel hc, if_pos ⟨rfl, hvf⟩]
  rfl

-- ---------------------------------------------------------------- key slots (R585, R588)

/-- What a slot holds once `v` has been written to it. -/
def KeySlot.written (v : Nat) : KeySlot where
  key := BitVec.ofNat 256 (if bitOf v 2 = true then fld v 64 256 else 0)
  mac := fld v 16 48
  macBound := bitOf v 3
  enable := bitOf v 2
  priv := fld v 0 2

theorem State.writeKey_eq (s : State) (slot v : Nat) :
    s.writeKey slot v = { s with mgmt := (s.writeKey slot v).mgmt, mon := (s.writeKey slot v).mon } := by
  unfold State.writeKey
  dsimp only
  split <;> rfl

theorem State.keys_writeKey (s : State) (slot v : Nat) :
    (s.writeKey slot v).mgmt.keys = SMap.set {} s.mgmt.keys slot (.written v) := by
  unfold State.writeKey
  dsimp only
  split <;> rfl

theorem State.key_writeKey (s : State) (slot v : Nat) : (s.writeKey slot v).key slot = .written v := by
  rw [State.key, State.keys_writeKey, SMap.get_set_same]

theorem State.key_writeKey_other (s : State) {slot k : Nat} (v : Nat) (h : k ≠ slot) : (s.writeKey slot v).key k = s.key k := by
  rw [State.key, State.keys_writeKey, SMap.get_set_other _ _ h]
  rfl

theorem State.mon_writeKey (s : State) (slot v : Nat) : (s.writeKey slot v).mon =
    if s.mon.slot = some slot then { s.mon with state := 0, slot := none, challenge := none, trace := 0 } else s.mon := by
  unfold State.writeKey
  dsimp only
  split <;> rfl

theorem exec_dfKeyWrite {path slot : Nat} {data : List Nat} (hs : s.ctrlRuns = true) (hslot : slot < 8) (hlen : data.length = 40) :
    exec (.dfKeyWrite path slot data) s = .next (s.keyWrite path slot (leVal data)).1 :=
  if_neg (by simp [hs, hlen]; omega)

theorem exec_dfKeyWrite_segment (slot : Nat) (data : List Nat) : exec (.dfKeyWrite 0 slot data) s = .next s := by
  have hkey : (s.keyWrite 0 slot (leVal data)).1 = s := rfl
  show execDfKeyWrite 0 slot data s = .next s
  rw [execDfKeyWrite, hkey, ite_self]

-- ---------------------------------------------------------------- module flash (R592)

theorem exec_odRestoreDefaults (hs : s.ctrlRuns = true) (v : Nat) : exec (.odRestoreDefaults v) s =
    if v = 0xDEF0 then .next { s with flash := { s.flash with restore := true } } else .next s := by
  show (if s.ctrlRuns = true ∧ (v == 0xDEF0) = true then _ else _) = _
  simp only [hs, true_and, beq_iff_eq]
  rfl

/-- Taking over the values that `src` has of the keys of `l`. -/
theorem SMap.get_takeOver {α β : Type} [DecidableEq α] {d : α} (src : SMap α) (k : Nat) (l : List (Nat × β)) : ∀ m : SMap α,
    SMap.get d (l.foldl (fun m e => SMap.set d m e.1 (SMap.get d src e.1)) m) k =
      if k ∈ l.map (·.1) then SMap.get d src k else SMap.get d m k := by
  induction l with
  | nil => exact fun m => rfl
  | cons e l ih =>
    intro m
    rw [List.foldl_cons, ih]
    by_cases he : k = e.1
    · subst he
      simp
    · have hmem : (k ∈ (e :: l).map (·.1)) = (k ∈ l.map (·.1)) := by rw [List.map_cons, List.mem_cons, eq_iff_iff, or_iff_right he]
      simp only [SMap.get_set_other _ _ he, hmem]

/-- The values stored in flash once those owed to it are. -/
def State.rwpStored (s : State) : SMap Nat :=
  s.flash.dirty.foldl (fun m e => SMap.set 0 m e.1 (SMap.get 0 s.mgmt.objs e.1)) s.flash.rwp

theorem State.storeRwp_of_none (h : s.flash.dirty = []) : s.storeRwp = s := by simp [State.storeRwp, h]

theorem State.storeRwp_of_owed (h : s.flash.dirty ≠ []) : s.storeRwp = State.count { s with flash := { s.flash with
    rwp := s.rwpStored, rwpOld := s.flash.rwp, rwpStores := s.flash.rwpStores + 1, dirty := [] } } 0x8100 0x0D 0 s.flash.dirty.length := by
  rw [State.storeRwp, if_neg (by simpa using h)]
  rfl

theorem exec_persistStore (hs : s.ctrlRuns = true) : exec .persistStore s = .next s.storeRwp := if_pos hs

theorem exec_persistStore_owed (hs : s.ctrlRuns = true) (h : s.flash.dirty ≠ []) :
    ∃ t, exec .persistStore s = .next t ∧ t = { s with flash := t.flash, mgmt := t.mgmt } ∧ t.flash.dirty = []
      ∧ t.mgmt.objs = s.mgmt.objs
      ∧ (∀ e ∈ s.flash.dirty, SMap.get 0 t.flash.rwp e.1 = SMap.get 0 s.mgmt.objs e.1)
      ∧ (∀ k, (∀ e ∈ s.flash.dirty, e.1 ≠ k) → SMap.get 0 t.flash.rwp k = SMap.get 0 s.flash.rwp k)
      ∧ t.counter 0x8100 0x0D 0 = min (2 ^ 64 - 1) (s.counter 0x8100 0x0D 0 + s.flash.dirty.length) := by
  refine ⟨s.storeRwp, exec_persistStore hs, ?_⟩
  rw [State.storeRwp_of_owed h]
  refine ⟨rfl, rfl, rfl, fun e he => ?_, fun k hk => ?_, State.counter_count ..⟩
  · exact (SMap.get_takeOver ..).trans (if_pos (List.mem_map_of_mem he))
  · have hnot : k ∉ s.flash.dirty.map (·.1) := fun hm => (List.mem_map.1 hm).elim fun e he => hk e he.1 he.2
    exact (SMap.get_takeOver ..).trans (if_neg hnot)

end Sys2Proof.Machine
end

section
/-! PROOFS. REGISTER_WRITE (R13, R86, R106, R563, R564): a write reaches the words it touches and nothing else; each of its spaces
under the rules of what lies there. -/

namespace Sys2Proof.Machine

variable {s : State} {w d t c off : Nat}

-- ---------------------------------------------------------------- addresses and the words of a write (R225 to R227)

theorem place_page (hc : c < 16) (ho : off < 0x10000) : place (0x300000000000 + c * 0x10000 + off) = .page c off := by
  unfold place
  repeat rw [if_neg (by omega)]
  rw [if_pos (by omega)]
  congr 1 <;> omega

theorem place_tileAddr (hd : d < 2) (ht : t < 288) (ho : off < 0x200000) : place (tileAddr d t off) = .tileWin d t off := by
  obtain rfl | rfl : d = 0 ∨ d = 1 := by omega
  · simp only [tileAddr, if_true]
    unfold place
    repeat rw [if_neg (by omega)]
    rw [if_pos (by omega)]
    congr 1 <;> omega
  · simp only [tileAddr, Nat.one_ne_zero, if_false]
    unfold place
    repeat rw [if_neg (by omega)]
    rw [if_pos (by omega)]
    congr 1 <;> omega

theorem mem_cutWords (k : Nat) : ∀ (a : Nat) (bs : List Nat), ∀ x ∈ cutWords k a bs, a / 8 * 8 ≤ x.1 ∧ x.1 < a + bs.length := by
  induction k with
  | zero => intro a bs x hx; simp [cutWords] at hx
  | succ k ih =>
    intro a bs x hx
    cases bs with
    | nil => simp [cutWords] at hx
    | cons b bs =>
      rw [cutWords, List.mem_cons] at hx
      rcases hx with rfl | hx
      · simp only [List.length_cons]
        omega
      · obtain ⟨hlo, hhi⟩ := ih _ _ x hx
        simp only [List.length_drop, List.length_cons] at hhi ⊢
        omega

theorem cutWords_byte (a x : Nat) : cutWords 1 a [x] = [(a / 8 * 8, a % 8, [x])] := by
  have htake : [x].take (8 - a % 8) = [x] := List.take_of_length_le (by simp; omega)
  rw [cutWords, htake, cutWords]

theorem foldl_eq_self {α β : Type} {f : β → α → β} {b : β} {l : List α} (h : ∀ x ∈ l, f b x = b) : l.foldl f b = b := by
  induction l with
  | nil => rfl
  | cons x l ih =>
    obtain ⟨hx, hl⟩ := List.forall_mem_cons.1 h
    rw [List.foldl_cons, hx, ih hl]

-- ---------------------------------------------------------------- writes that reach nothing

theorem State.memWrite_nil (s : State) (a : Nat) (poison : Bool) : s.memWrite a [] poison = s := by
  unfold State.memWrite
  split <;> rfl

theorem State.writeAny_nil (s : State) (w a : Nat) (poison : Bool) : s.writeAny w a [] poison = s := by
  unfold State.writeAny
  split
  · rfl
  · exact s.memWrite_nil a poison

theorem State.writeAny_reg {a : Nat} (h : isReg a = true) {bs : List Nat} (poison : Bool)
    (hself : ∀ x ∈ cutWords bs.length a bs, s.writeRegWord w x.1 x.2.1 x.2.2 = s) : s.writeAny w a bs poison = s := by
  rw [State.writeAny, if_pos h]
  exact foldl_eq_self hself

theorem State.writeAny_byte {a : Nat} (h : isReg a = true) (x : Nat) (poison : Bool) :
    s.writeAny w a [x] poison = s.writeRegWord w (a / 8 * 8) (a % 8) [x] := by
  rw [State.writeAny, if_pos h, List.length_singleton, cutWords_byte]
  rfl

/-- A context's page takes no write from another user context (R364). -/
theorem State.writeAny_otherPage {bs : List Nat} (hc : c < 16) (hb : off + bs.length ≤ 0x10000) (h0 : w ≠ 0) (hw : w ≠ c) :
    s.writeAny w (0x300000000000 + c * 0x10000 + off) bs false = s := by
  cases bs with
  | nil => exact s.writeAny_nil ..
  | cons b bs =>
    have ho : off < 0x10000 := by
      rw [List.length_cons] at hb
      omega
    refine State.writeAny_reg (by simp [isReg, place_page hc ho]) false fun x hx => ?_
    obtain ⟨hlo, hhi⟩ := mem_cutWords _ _ _ x hx
    obtain ⟨o, ho', hx1⟩ : ∃ o, o < 0x10000 ∧ x.1 = 0x300000000000 + c * 0x10000 + o :=
      ⟨x.1 - (0x300000000000 + c * 0x10000), by omega, by omega⟩
    simp [State.writeRegWord, hx1, place_page hc ho', h0, hw]

theorem tileAddr_add (d t m n : Nat) : tileAddr d t (m + n) = tileAddr d t m + n := (Nat.add_assoc _ m n).symm

theorem eight_dvd_tileAddr (d t : Nat) : 8 ∣ tileAddr d t 0x1C0000 := by
  unfold tileAddr
  split <;> omega

/-- A tile's registers take no write but context 0's, and an absent tile's none (R3, R227). -/
theorem State.writeAny_tileRegs {bs : List Nat} (hd : d < 2) (ht : t < 288) (hb : off + bs.length ≤ 0x8000)
    (h : w ≠ 0 ∨ s.tilePresent d t = false) : s.writeAny w (tileAddr d t (0x1C0000 + off)) bs false = s := by
  have hreg : isReg (tileAddr d t (0x1C0000 + off)) = true := by
    rw [isReg, place_tileAddr hd ht (by omega)]
    exact decide_eq_true (by omega)
  refine State.writeAny_reg hreg false fun x hx => ?_
  have hbounds := mem_cutWords _ _ _ x hx
  have h8 := eight_dvd_tileAddr d t
  rw [tileAddr_add] at hbounds
  obtain ⟨o, ho, hx1⟩ : ∃ o, o < 0x8000 ∧ x.1 = tileAddr d t (0x1C0000 + o) := by
    refine ⟨x.1 - tileAddr d t 0x1C0000, ?_, ?_⟩
    · omega
    · rw [tileAddr_add]
      omega
  rw [State.writeRegWord, hx1, place_tileAddr hd ht (by omega)]
  rcases h with h | h
  · exact if_neg (fun hw => h hw.1)
  · simp [State.writeTileWord, h]

-- ---------------------------------------------------------------- space 0: a context's page (R106, R363, R364)

theorem exec_registerWrite_page (hh : s.hostsRun = true) (hc : c < 16) (b : Nat) (bs : List Nat) :
    exec (.registerWrite 0 c b off bs) s = .next (if 0x10000 < off + bs.length then s
      else if b < 16 then s.writeAny b (0x300000000000 + c * 0x10000 + off) bs false
      else if (b - 16) % 16 = c then s.bar0Write ((b - 16) / 16) c off bs else s) := by
  show Host.Outcome.next (if (!s.hostsRun) = true ∨ 16 ≤ c ∨ 0x10000 < off + bs.length then s else _) = _
  simp only [hh, Bool.not_true, Bool.false_eq_true, false_or, Nat.not_le.2 hc]

theorem exec_registerWrite_otherPage (hh : s.hostsRun = true) (hc : c < 16) {b : Nat} (hb : b < 16) (h0 : b ≠ 0) (hbc : b ≠ c)
    (bs : List Nat) : exec (.registerWrite 0 c b off bs) s = .next s := by
  rw [exec_registerWrite_page hh hc, if_pos hb]
  split
  · rfl
  · next hin => rw [State.writeAny_otherPage hc (Nat.not_lt.1 hin) h0 hbc]

theorem exec_registerWrite_bar0 (hh : s.hostsRun = true) (hc : c < 16) (q : Nat) {bs : List Nat} (hin : off + bs.length ≤ 0x10000) :
    exec (.registerWrite 0 c (16 + 16 * q + c) off bs) s = .next (s.bar0Write q c off bs) := by
  have hmod : (16 + 16 * q + c - 16) % 16 = c := by omega
  have hdiv : (16 + 16 * q + c - 16) / 16 = q := by omega
  rw [exec_registerWrite_page hh hc, if_neg (Nat.not_lt.2 hin), if_neg (by omega), if_pos hmod, hdiv]

theorem exec_registerWrite_otherBar0 (hh : s.hostsRun = true) (hc : c < 16) (q : Nat) {e : Nat} (he : e < 16) (hec : e ≠ c)
    (bs : List Nat) : exec (.registerWrite 0 c (16 + 16 * q + e) off bs) s = .next s := by
  have hmod : ¬ (16 + 16 * q + e - 16) % 16 = c := by omega
  rw [exec_registerWrite_page hh hc, if_neg (by omega : ¬ 16 + 16 * q + e < 16), if_neg hmod, ite_self]

/-- Of a byte written to the low byte of CTX_NUMERIC bits 1:0 are taken, and no bit of 15:10 is cleared (R106). -/
theorem State.numeric_writeNumeric (s : State) (c y x : Nat) :
    (((s.writeNumeric c (putBytes y 0 [x]) (putBytes 0 0 [x])).ctx c).numeric).toNat =
      fld x 0 2 + at_ 10 6 (fld (s.ctx c).numeric.toNat 10 6) := by
  have hclear : fld (putBytes 0 0 [x]) 10 6 = 0 := by
    simp only [putBytes, fld, at_]
    omega
  have hset : fld (putBytes y 0 [x]) 0 2 = fld x 0 2 := by
    simp only [putBytes, fld, at_]
    omega
  rw [State.writeNumeric, State.ctx_updCtx, hclear, hset, Nat.and_zero, Nat.sub_zero, BitVec.toNat_ofNat]
  apply Nat.mod_eq_of_lt
  simp only [fld, at_]
  omega

theorem exec_registerWrite_numeric (hh : s.hostsRun = true) (hc : c < 16) {b : Nat} (hb : b = c ∨ b = 0) (x : Nat) :
    ∃ t, exec (.registerWrite 0 c b 0x10 [x]) s = .next t ∧ t.mem = s.mem
      ∧ (t.ctx c).numeric.toNat = fld x 0 2 + at_ 10 6 (fld (s.ctx c).numeric.toNat 10 6) := by
  refine ⟨s.writeNumeric c (putBytes (s.pageReg c 0x10) 0 [x]) (putBytes 0 0 [x]), ?_, State.updCtx_mem .., s.numeric_writeNumeric ..⟩
  have hplace : place (0x300000000000 + c * 0x10000 + 0x10) = .page c 0x10 := place_page hc (by omega)
  have haddr : (0x300000000000 + c * 0x10000 + 0x10) / 8 * 8 = 0x300000000000 + c * 0x10000 + 0x10 := by omega
  have hbyte : (0x300000000000 + c * 0x10000 + 0x10) % 8 = 0 := by omega
  rw [exec_registerWrite_page hh hc, if_neg (by simp), if_pos (by omega), State.writeAny_byte (by rw [isReg, hplace]), haddr, hbyte,
    State.writeRegWord, hplace]
  exact congrArg _ (if_pos hb)

-- ---------------------------------------------------------------- space 1: BAR2 (R564)

theorem State.fn_updFn (s : State) (p f : Nat) (g : Fn → Fn) : (s.updFn p f g).fn p f = g (s.fn p f) := by
  rw [State.fn, State.updFn, State.port_updPort, SMap.get_set_same]
  rfl

theorem exec_registerWrite_done {p f : Nat} (hs : s.ctrlRuns = true) (hok : s.barOk p f = true) :
    exec (.registerWrite 1 p f 11 [0x40]) s = .next (s.updFn p f (fun g => { g with done := false })) := by
  have hcond : (s.ctrlRuns && s.barOk p f) = true := by rw [hs, hok, Bool.and_self]
  exact congrArg _ (if_pos hcond)

-- ---------------------------------------------------------------- space 2: a tile's registers (R86, R227)

theorem exec_registerWrite_tile (hr : s.pwr.st = .ready) {a : Nat} (ha : a < 576) (b : Nat) (bs : List Nat) :
    exec (.registerWrite 2 a b off bs) s = .next (if off + bs.length ≤ 0x8000 then
      s.writeAny b (tileAddr (a / 288) (a % 288) (0x1C0000 + off)) bs false else s) := by
  show Host.Outcome.next (if (s.pwr.st = .ready ∨ _) ∧ a < 576 ∧ off + bs.length ≤ 0x8000 then _ else s) = _
  simp only [hr, ha, true_or, true_and]

theorem exec_registerWrite_tileIgnored (hr : s.pwr.st = .ready) {a : Nat} (ha : a < 576) {b : Nat}
    (h : b ≠ 0 ∨ s.tilePresent (a / 288) (a % 288) = false) (bs : List Nat) : exec (.registerWrite 2 a b off bs) s = .next s := by
  rw [exec_registerWrite_tile hr ha]
  split
  · next hin => rw [State.writeAny_tileRegs (by omega) (by omega) hin h]
  · rfl

theorem State.onlyContexts_tally (s : State) (c key n : Nat) : s.OnlyContexts (s.tally c key n) := by
  unfold State.tally
  split
  · exact State.onlyContexts_updCtx ..
  · exact rfl

theorem State.onlyContexts_tallyAll (key n : Nat) (cs : List Nat) : ∀ s : State, s.OnlyContexts (s.tallyAll cs key n) := by
  induction cs with
  | nil => exact fun s => rfl
  | cons c cs ih => exact fun s => (s.onlyContexts_tally c key n).trans (ih _)

theorem State.OnlyContexts.mem_eq {u : State} (h : s.OnlyContexts u) : u.mem = s.mem := congrArg (fun x => x.mem) h
theorem State.OnlyContexts.site_eq {u : State} (h : s.OnlyContexts u) (d i : Nat) : u.site d i = s.site d i :=
  congrArg (fun x => x.site d i) h

/-- What TILE_ISLAND's third byte sets (R86). -/
theorem State.writeIsland_steps {i : Nat} (hi : s.siteOf d t = some i) (y x : Nat) :
    (s.writeIsland d t (putBytes y 2 [x])).mem = s.mem
      ∧ ((s.writeIsland d t (putBytes y 2 [x])).site d i).vstep = min 4 (fld x 0 4)
      ∧ ((s.writeIsland d t (putBytes y 2 [x])).site d i).fstep = fld x 4 4 := by
  have hv : fld (putBytes y 2 [x]) 16 4 = fld x 0 4 := by
    simp only [putBytes, fld, at_]
    omega
  have hf : fld (putBytes y 2 [x]) 20 4 = fld x 4 4 := by
    simp only [putBytes, fld, at_]
    omega
  unfold State.writeIsland
  rw [hi, hv, hf]
  dsimp only
  refine ⟨(State.onlyContexts_tallyAll ..).mem_eq, ?_, ?_⟩
  · rw [(State.onlyContexts_tallyAll ..).site_eq, State.site_updSite]
  · rw [(State.onlyContexts_tallyAll ..).site_eq, State.site_updSite]

theorem exec_registerWrite_island (hr : s.pwr.st = .ready) {a i : Nat} (ha : a < 576)
    (hp : s.tilePresent (a / 288) (a % 288) = true) (hi : s.siteOf (a / 288) (a % 288) = some i) (x : Nat) :
    ∃ t, exec (.registerWrite 2 a 0 10 [x]) s = .next t ∧ t.mem = s.mem
      ∧ (t.site (a / 288) i).vstep = min 4 (fld x 0 4) ∧ (t.site (a / 288) i).fstep = fld x 4 4 := by
  refine ⟨s.writeIsland (a / 288) (a % 288) (putBytes (s.tileIsland (a / 288) (a % 288)) 2 [x]), ?_, State.writeIsland_steps hi _ x⟩
  have h8 := eight_dvd_tileAddr (a / 288) (a % 288)
  have haddr : tileAddr (a / 288) (a % 288) (0x1C0000 + 10) / 8 * 8 = tileAddr (a / 288) (a % 288) (0x1C0000 + 8) := by
    rw [tileAddr_add, tileAddr_add]
    omega
  have hbyte : tileAddr (a / 288) (a % 288) (0x1C0000 + 10) % 8 = 2 := by
    rw [tileAddr_add]
    omega
  have hreg : isReg (tileAddr (a / 288) (a % 288) (0x1C0000 + 10)) = true := by
    rw [isReg, place_tileAddr (by omega) (by omega) (by omega)]
    rfl
  rw [exec_registerWrite_tile hr ha, if_pos (by simp), State.writeAny_byte hreg, haddr, hbyte, State.writeRegWord,
    place_tileAddr (by omega) (by omega) (by omega)]
  simp [isTileReg, State.writeTileWord, hp]

-- ---------------------------------------------------------------- spaces 3 and 4: an object, PCIe configuration (R564, R592)

theorem PlainScalar.exec_registerWrite {i sb ty n lo hi v : Nat} (ho : PlainScalar i sb ty n lo hi) (hs : s.ctrlRuns = true)
    (hv : v < 256 ^ n) : exec (.registerWrite 3 i sb 0 (leBytes n v)) s =
      .next (if lo ≤ v ∧ v ≤ hi then s.putObj i sb 0 v else s) := by
  obtain ⟨name, acc, priv, hrow, hacc, hpriv⟩ := ho.row
  have hsize : s.rowSize ⟨name, i, sb, ty, n, 1, acc, priv⟩ = n := by simp [State.rowSize, State.rowCount]
  have hfits : ¬ ((!s.ctrlRuns) = true ∨ acc < 2 ∨ n % n ≠ 0 ∨ n < 0 * n + n) := by simp [hs, Nat.not_lt.2 hacc]
  simp only [exec, execRegisterWrite, hrow, length_leBytes, hsize, if_neg hfits, if_neg ho.notKey, Nat.div_self ho.size,
    ho.elemsOf_eq hv]
  refine congrArg _ ((congrArg Prod.fst (ho.writeElems_eq rfl rfl v)).trans ?_)
  split <;> rfl

theorem exec_registerWrite_config {p f : Nat} (hfit : s.hostFitted p = true) (hup : s.hostUp p = true) (hf : f < 16)
    (hx : s.fnExists p f = true) (bs : List Nat) : exec (.registerWrite 4 p f off bs) s = .next (s.writeConfig p f off (leVal bs)) :=
  congrArg _ (if_pos ⟨hfit, hup, hf, .inr hx⟩)

section
variable {p : Nat} (hfit : s.hostFitted p = true) (hup : s.hostUp p = true) (hx : s.fnExists p 0 = true)
include hfit hup hx

theorem exec_registerWrite_numVfs {v : Nat} (hvf : (s.port p).vfEnable = false) (hv : v ≤ 15) :
    exec (.registerWrite 4 p 0 2 [v]) s = .next (s.updPort p (fun h => { h with numVfs := v })) :=
  (exec_registerWrite_config hfit hup (by omega) hx [v]).trans (congrArg _ (if_pos ⟨rfl, by simp [hvf], hv⟩))

theorem exec_registerWrite_vfEnable :
    exec (.registerWrite 4 p 0 4 [1]) s = .next (s.updPort p (fun h => { h with vfEnable := true })) :=
  exec_registerWrite_config hfit hup (by omega) hx [1]

theorem exec_registerWrite_d0 : exec (.registerWrite 4 p 0 3 [0]) s = .next (s.updFn p 0 (fun g => { g with d3hot := false })) :=
  exec_registerWrite_config hfit hup (by omega) hx [0]

end

end Sys2Proof.Machine

open Sys2Proof Sys2Proof.Machine in
/-- Settles O53, clause by clause from the lemmas above: the answers from the branches of each operation, the writes from what one
element's write stores, and REGISTER_WRITE from the words that a write touches. -/
theorem dictionaryOperationsReadAndWriteObjects : Obligations.DictionaryOperationsReadAndWriteObjects := by
  refine ⟨fun s p w i sb ty off len data hs => ⟨exec_absent hs, fun r hr => ⟨exec_read_writeOnly hs hr, exec_write_readOnly hs hr,
      exec_read_unprivileged hs hr, exec_dfSet_unprivileged hs hr, exec_dfSet_badType hs hr, exec_dfGet_value hs hr,
      exec_dfGet_tooBig hs hr, exec_dfGetSeg_notBlob hs hr, fun hacc hp ht hroom hoff hlen =>
        ⟨exec_dfGetSeg_live hs hr hacc hp ht hroom hoff hlen, fun hsmall hend h0 => ⟨_, exec_dfGetSeg_snapshot hs hr hacc hp ht hroom
          hoff hlen hsmall hend h0, rfl, rfl, rfl, rfl⟩⟩,
      exec_dfDescribe_row hs hr⟩⟩,
    fun s w v hs => ⟨fun o ho => ?_, fun c hc _ => ⟨fun hv => ?_, fun hv => ?_, ?_, ?_⟩⟩,
    fun s slot data => ⟨exec_dfKeyWrite_segment slot data, fun path hpath hs hslot hlen => ?_⟩,
    fun s v hs => ⟨fun hv => ?_, fun hv => ?_⟩,
    fun s hs => ⟨fun h => ?_, exec_persistStore_owed hs⟩,
    fun s a b off bs hh ha => ⟨fun hb hba h0 => exec_registerWrite_otherPage hh ha hb h0 hba bs,
      fun q hin => exec_registerWrite_bar0 hh ha q hin, fun q c hc hca => exec_registerWrite_otherBar0 hh ha q hc hca bs,
      fun x hb => exec_registerWrite_numeric hh ha hb x⟩,
    fun s p f hs hok => ⟨_, exec_registerWrite_done hs hok, rfl, State.fn_updFn ..⟩,
    fun s a b off x bs hr ha => ⟨fun hb => exec_registerWrite_tileIgnored hr ha (.inl hb) bs,
      fun hp => exec_registerWrite_tileIgnored hr ha (.inr hp) bs, fun i hp hi => exec_registerWrite_island hr ha hp hi x⟩,
    fun s v hs => ⟨fun hlo hhi => ?_, fun hv hv2 => ?_⟩,
    fun s p v hfit hup hx => ⟨fun hvf hv => ⟨_, exec_registerWrite_numVfs hfit hup hx hvf hv, rfl, State.port_updPort ..⟩,
      ⟨_, exec_registerWrite_vfEnable hfit hup hx, rfl, State.port_updPort ..⟩,
      ⟨_, exec_registerWrite_d0 hfit hup hx, rfl, State.fn_updFn ..⟩⟩⟩
  · have hplain := plainScalar_of_mem o ho
    exact ⟨hplain.exec_dfSet_inRange hs, hplain.exec_dfSet_outOfRange hs⟩
  · exact ⟨_, exec_dfSetSeg_checkLevel hs hc (.inl (Nat.le_refl 1)) hv, s.mem_putObj .., s.obj_putObj .., 
      s.out_emit_putObj .., fun k hk => s.obj_putObj_other _ _ _ hk⟩
  · exact exec_dfSetSeg_checkLevel_range hs hc (Nat.le_refl 1) hv
  · rintro d q h1 hd rfl hdc
    exact exec_dfSetSeg_checkLevel_other hs hc (by rw [vfOf_function q h1 hd]; simpa using hdc)
  · rintro q h1 rfl hv
    exact ⟨_, exec_dfSetSeg_checkLevel hs hc (.inr (vfOf_function q h1 hc)) hv, s.obj_putObj ..⟩
  · have hpath0 : path ≠ 0 := by omega
    refine ⟨fun h3 => ?_, fun h3 => ⟨s.writeKey slot (leVal data), ?_, s.writeKey_eq .., s.key_writeKey ..,
      fun k hk => s.key_writeKey_other _ hk, fun hm => ?_, fun hm => ?_⟩⟩
    · rw [exec_dfKeyWrite hs hslot hlen, State.keyWrite, if_neg hpath0, if_pos h3]
    · rw [exec_dfKeyWrite hs hslot hlen, State.keyWrite, if_neg hpath0, if_neg h3]
    · rw [State.mon_writeKey, if_pos hm]
    · rw [State.mon_writeKey, if_neg hm]
  · rw [exec_odRestoreDefaults hs, if_pos hv]
  · rw [exec_odRestoreDefaults hs, if_neg hv]
  · rw [exec_persistStore hs, State.storeRwp_of_none h]
  · have hplain : PlainScalar 0x1021 1 3 2 5 1000 := plainScalar_of_mem (0x1021, 1, 3, 2, 5, 1000) (by decide)
    refine ⟨s.putObj 0x1021 1 0 v, ?_, s.obj_putObj .., s.mem_putObj ..⟩
    rw [hplain.exec_registerWrite hs (by omega), if_pos ⟨hlo, hhi⟩]
  · have hplain : PlainScalar 0x1021 1 3 2 5 1000 := plainScalar_of_mem (0x1021, 1, 3, 2, 5, 1000) (by decide)
    rw [hplain.exec_registerWrite hs (by omega), if_neg (by omega)]
end


section
/-! PROOFS. A step keeps the factory catalogue (R46) and the canonical form of memory, in which a byte never written reads 0 (R230).
That every step answers a next state, that a nanosecond passes when no command waits, and the form itself are the model's choices
(log entries 1, 2 and 13). -/

namespace Sys2Proof.Machine

/-- A step keeps, from the state without its front command, what every command keeps: the front command does so, and with none waiting
a nanosecond leaves all of it as it is. -/
theorem step_completes (s : State) : State.Completes { s with pending := s.pending.tail } (step s) := by
  unfold step
  cases hq : s.pending with
  | nil =>
    obtain ⟨hfactory, hpending, hmem⟩ := s.tick_same
    exact State.completes_of_same ⟨hfactory, hpending.trans hq, hmem⟩
  | cons c cs => exact exec_completes c { s with pending := cs }

end Sys2Proof.Machine

open Sys2Proof.Machine in
/-- Settles O58, by the two cases of a step: the front command runs on the rest of the queue, or a nanosecond passes. -/
theorem everyStepKeepsTheCanonicalForm : Obligations.EveryStepKeepsTheCanonicalForm := by
  intro s
  obtain ⟨t, hstep, hfactory, hpending, hwf⟩ := step_completes s
  exact ⟨t, hstep, hpending, hfactory, hwf⟩

end
